-- ==== Sys2Proof/Word.lean ====
section
/-!
DEFINITION. The word types of the FD600 model and the two small containers its state is built from:
a value for each of the two sides, and a value for each of the three products.
-/
namespace Sys2Proof

/-- One byte of the exchange memory, of a link frame or of a display chain. -/
abbrev Byte := BitVec 8

/-- A 32-bit word: a host reference, a price tag, a detail word, a capture-clock time. -/
abbrev Word32 := BitVec 32

/-- The two sides of the dispenser (00_scope, "The dispenser the FD600 serves"). -/
inductive Side where
  | a
  | b
deriving DecidableEq, Repr, Inhabited

/-- The three base products (00_scope), in the controller's numbering order (04, product numbers). -/
inductive Product where
  | low
  | high
  | aux
deriving DecidableEq, Repr, Inhabited

/-- One value for each side. -/
structure Both (α : Type) where
  a : α
  b : α
deriving DecidableEq, Repr, Inhabited

/-- The value of one side. -/
def Both.get {α : Type} (p : Both α) : Side → α
  | .a => p.a
  | .b => p.b

/-- Replace the value of one side. -/
def Both.set {α : Type} (p : Both α) (sd : Side) (x : α) : Both α :=
  match sd with
  | .a => { p with a := x }
  | .b => { p with b := x }

/-- The same value on both sides. -/
def Both.same {α : Type} (x : α) : Both α := ⟨x, x⟩

/-- Apply a function to both values. -/
def Both.map {α β : Type} (f : α → β) (p : Both α) : Both β := ⟨f p.a, f p.b⟩

/-- One value for each product. -/
structure PerProduct (α : Type) where
  low : α
  high : α
  aux : α
deriving DecidableEq, Repr, Inhabited

/-- The value of one product. -/
def PerProduct.get {α : Type} (t : PerProduct α) : Product → α
  | .low => t.low
  | .high => t.high
  | .aux => t.aux

/-- Replace the value of one product. -/
def PerProduct.set {α : Type} (t : PerProduct α) (p : Product) (x : α) : PerProduct α :=
  match p with
  | .low => { t with low := x }
  | .high => { t with high := x }
  | .aux => { t with aux := x }

/-- The same value for every product. -/
def PerProduct.same {α : Type} (x : α) : PerProduct α := ⟨x, x, x⟩

/-- Apply a function to all three values. -/
def PerProduct.map {α β : Type} (f : α → β) (t : PerProduct α) : PerProduct β :=
  ⟨f t.low, f t.high, f t.aux⟩

/-- A meter is a side's path for one product (01, the meter table). -/
structure Meter where
  side : Side
  product : Product
deriving DecidableEq, Repr, Inhabited

/-- One value for each of the six meters. -/
abbrev PerMeter (α : Type) := Both (PerProduct α)

/-- The value of one meter. -/
def PerMeter.get {α : Type} (t : PerMeter α) (m : Meter) : α :=
  PerProduct.get (Both.get t m.side) m.product

/-- Replace the value of one meter. -/
def PerMeter.set {α : Type} (t : PerMeter α) (m : Meter) (x : α) : PerMeter α :=
  Both.set t m.side (PerProduct.set (Both.get t m.side) m.product x)

/-- The same value for every meter. -/
def PerMeter.same {α : Type} (x : α) : PerMeter α := Both.same (PerProduct.same x)

/-- The three products in the order LOW, HIGH, AUX. -/
def Product.all : List Product := [.low, .high, .aux]

/-- Product numbers of 04: LOW 1, HIGH 2, AUX 3. -/
def Product.number : Product → Nat
  | .low => 1
  | .high => 2
  | .aux => 3

/-- The product a number names, if it names one. -/
def Product.ofNumber : Nat → Option Product
  | 1 => some .low
  | 2 => some .high
  | 3 => some .aux
  | _ => none

/-- Sides are coded A = 1 and B = 2 (R185). -/
def Side.number : Side → Nat
  | .a => 1
  | .b => 2

/-- The side a code names, if it names one. -/
def Side.ofNumber : Nat → Option Side
  | 1 => some .a
  | 2 => some .b
  | _ => none

/-- A function of each element (`Vector.map`, in a form that Lean's kernel can evaluate). -/
def mapEach {α β : Type} {n : Nat} (f : α → β) (v : Vector α n) : Vector β n := Vector.ofFn fun i => f (v.get i)

/-- The other side. -/
def Side.other : Side → Side
  | .a => .b
  | .b => .a

/-- Meter numbers 1 to 6 (01, the meter table). -/
def Meter.number (m : Meter) : Nat :=
  match m.side with
  | .a => m.product.number
  | .b => 3 + m.product.number

/-- The meter a number names, if it names one. -/
def Meter.ofNumber : Nat → Option Meter
  | 1 => some ⟨.a, .low⟩
  | 2 => some ⟨.a, .high⟩
  | 3 => some ⟨.a, .aux⟩
  | 4 => some ⟨.b, .low⟩
  | 5 => some ⟨.b, .high⟩
  | 6 => some ⟨.b, .aux⟩
  | _ => none

/-- The six meters in the order of their numbers. -/
def Meter.all : List Meter :=
  [⟨.a, .low⟩, ⟨.a, .high⟩, ⟨.a, .aux⟩, ⟨.b, .low⟩, ⟨.b, .high⟩, ⟨.b, .aux⟩]

end Sys2Proof
end

