-- ==== Sys2Proof/Syntax.lean ====
section
/-!
DEFINITION. The commands of the FD600: one constructor of Instr per row of spec/opcode_table.json, with the
operands the spec gives each, and the operand types (the requests a host folio carries, the frames of the reader
link, the inputs found at power-on).

Every command carries `dt`, the microseconds that have passed since the command before it (notes/assumptions/1.md).
A request carried by a host folio comes with its 32-bit host reference `ref` and with its fields RAW, so that the
refusals of the spec can be reached.
-/
namespace Sys2Proof

/-- The two phases of a pulser (01). -/
inductive Phase where
  | a
  | b
deriving DecidableEq, Repr, Inhabited

/-- Origin of an authorization (R47). -/
inductive Origin where
  | attendant
  | reader
  | test
deriving DecidableEq, Repr, Inhabited

/-- Limit kind of an authorization (R47); `unlimited` is the spec's NONE. -/
inductive LimitKind where
  | money
  | volume
  | unlimited
deriving DecidableEq, Repr, Inhabited

/-- A raw limit: a kind (`none`: a code that is none of the three) and an amount (R47, R62). -/
structure LimitReq where
  kind : Option LimitKind
  amount : Nat
deriving DecidableEq, Repr, Inhabited

/-- A raw AUTHORIZE order (R47). An `origin` of `none` is a code that is none of the three. -/
structure AuthReq where
  origin : Option Origin
  limit : LimitReq
  mask : Byte
deriving DecidableEq, Repr, Inhabited

/-- A raw grade record of the GRADES folio: composition byte (0 to 100 BLEND, 255 AUX), margin, four characters. -/
structure GradeReq where
  comp : Nat
  margin : Nat
  text : Vector Byte 4
deriving DecidableEq, Repr, Inhabited

/-- The GRADES folio: six records and the two nozzle maps, 0 meaning none (10, folio bodies). -/
structure GradesReq where
  grades : Vector GradeReq 6
  maps : Both (Vector Nat 4)
deriving DecidableEq, Repr, Inhabited

/-- The PRICE STAGING folio: six prices, tag, condition code (0 AT_ONCE, 1 AT_TIME), weekday and second. -/
structure StagingReq where
  prices : Vector Nat 6
  tag : Word32
  cond : Nat
  weekday : Nat
  second : Nat
deriving DecidableEq, Repr, Inhabited

/-- One entry of the CALIBRATION folio (R157). -/
inductive CalEntry where
  | leave
  | set (cf : Nat)
deriving DecidableEq, Repr, Inhabited

/-- The CALIBRATION folio: one entry per meter. -/
abbrev CalReq := PerMeter CalEntry

/-- The uplink classes a scope allows (R126). -/
structure UpSet where
  card : Bool
  entry : Bool
  payload : Bool
deriving DecidableEq, Repr, Inhabited

/-- The downlink classes a scope allows (R126). -/
structure DownSet where
  prompt : Bool
  payload : Bool
deriving DecidableEq, Repr, Inhabited

/-- One value for each admission scope UNIT, GROUP and OTHER (R117). -/
structure PerScope (α : Type) where
  unit : α
  group : α
  other : α
deriving DecidableEq, Repr, Inhabited

/-- A side's admission keys and class sets (R126). -/
structure AdmissionSide where
  keys : Vector (BitVec 16) 4
  up : PerScope UpSet
  down : PerScope DownSet
deriving DecidableEq, Repr, Inhabited

/-- The ADMISSION folio. -/
abbrev AdmissionReq := Both AdmissionSide

/-- One entry of the WATCH folio: action code (0 LEAVE, 1 ARM, 2 DISARM), object code (meter n as n, grade volume as
16 + n, grade money as 32 + n) and threshold (10, folio bodies). -/
structure WatchReq where
  action : Nat
  object : Nat
  threshold : Nat
deriving DecidableEq, Repr, Inhabited

/-- The SCHEDULE folio: seven open and close seconds (Monday first), ALWAYS_OPEN, or a form that is neither. -/
inductive ScheduleReq where
  | entries (days : Vector (Nat × Nat) 7)
  | alwaysOpen
  | other
deriving DecidableEq, Repr, Inhabited

/-- The classes of a link frame (R112); `other` stands for a class code that is none of the ten. -/
inductive FrameClass where
  | poll
  | nothing
  | hello
  | card
  | entry
  | payload
  | prompt
  | ack
  | busy
  | tamper
  | other
deriving DecidableEq, Repr, Inhabited

/-- The control character of a frame: class, toggle, and the ACK, BUSY and REJECT flags (R112). -/
structure Control where
  cls : FrameClass
  toggle : Bool
  ack : Bool
  busy : Bool
  reject : Bool
deriving DecidableEq, Repr, Inhabited

/-- A frame of the reader link (R112), as the characters carry it. -/
structure Frame where
  addr : Byte
  control : Control
  length : Byte
  payload : List Byte
  check : BitVec 16
deriving DecidableEq, Repr, Inhabited

/-- The DOWNLINK folio: module address, class and payload (10, folio bodies). -/
structure DownlinkReq where
  addr : Nat
  cls : FrameClass
  payload : List Byte
deriving DecidableEq, Repr, Inhabited

/-- What a cold start at power-on finds at the part's pins (R14, R44, R76, R109, R147). -/
structure Pins where
  phaseA : PerMeter Bool
  phaseB : PerMeter Bool
  nozzles : Both (Vector Bool 4)
  pressureOk : PerProduct Bool
  tamperOpen : Both Bool
  metrologyClosed : Bool
  warning : Bool
deriving DecidableEq, Repr, Inhabited

/-- The commands: one constructor per row of spec/opcode_table.json. -/
inductive Instr where
  /-- PULSER_EDGE (R2): the level of one phase of a meter's pulser changes. -/
  | pulserEdge (dt : Nat) (m : Meter) (ph : Phase)
  /-- RATE_EXPIRY (R16). -/
  | rateExpiry (dt : Nat) (m : Meter)
  /-- METER_CLEAR (R20), with the raw meter number. -/
  | meterClear (dt : Nat) (ref : Word32) (n : Nat)
  /-- GRADES (R24). -/
  | grades (dt : Nat) (ref : Word32) (req : GradesReq)
  /-- PRICE_STAGING (R27). -/
  | priceStaging (dt : Nat) (ref : Word32) (req : StagingReq)
  /-- PRICE_SWAP (R32). -/
  | priceSwap (dt : Nat)
  /-- NOZZLE_LIFT (R45). -/
  | nozzleLift (dt : Nat) (sd : Side) (n : Fin 4)
  /-- NOZZLE_HANG (R56). -/
  | nozzleHang (dt : Nat) (sd : Side) (n : Fin 4)
  /-- AUTHORIZE (R47). -/
  | authorize (dt : Nat) (sd : Side) (ref : Word32) (req : AuthReq)
  /-- CHANGE_LIMIT (R62). -/
  | changeLimit (dt : Nat) (sd : Side) (ref : Word32) (req : LimitReq)
  /-- STOP (R59). -/
  | stop (dt : Nat) (sd : Side) (ref : Word32)
  /-- RESUME (R61). -/
  | resume (dt : Nat) (sd : Side) (ref : Word32)
  /-- END (R64). -/
  | endSale (dt : Nat) (sd : Side) (ref : Word32)
  /-- AUTH_TIMEOUT (R49). -/
  | authTimeout (dt : Nat) (sd : Side)
  /-- VALVE_STAGGER (R52). -/
  | valveStagger (dt : Nat) (sd : Side)
  /-- SLOW_VALVE_CLOSE (R65). -/
  | slowValveClose (dt : Nat) (sd : Side)
  /-- NOFLOW_TIMEOUT (R55). -/
  | noflowTimeout (dt : Nat) (sd : Side)
  /-- SUSPEND_TIMEOUT (R60). -/
  | suspendTimeout (dt : Nat) (sd : Side)
  /-- SETTLE_TIME (R66). -/
  | settleTime (dt : Nat) (sd : Side)
  /-- START_SLOT_GRANT (R80). -/
  | startSlotGrant (dt : Nat)
  /-- MOTOR_GAP (R80). -/
  | motorGap (dt : Nat)
  /-- RESTART_GAP (R80). -/
  | restartGap (dt : Nat)
  /-- PRESSURE_OK_PRESENT (R82). -/
  | pressureOkPresent (dt : Nat) (p : Product)
  /-- PRESSURE_OK_ABSENT (R84). -/
  | pressureOkAbsent (dt : Nat) (p : Product)
  /-- PRESSURE_TIMEOUT (R82). -/
  | pressureTimeout (dt : Nat) (p : Product)
  /-- PRESSURE_LOST (R84). -/
  | pressureLost (dt : Nat) (p : Product)
  /-- IDLE_RUN (R83). -/
  | idleRun (dt : Nat) (p : Product)
  /-- FAIL_HOLD (R86). -/
  | failHold (dt : Nat) (p : Product)
  /-- MOTOR_RETRY (R86), with the raw product number. -/
  | motorRetry (dt : Nat) (ref : Word32) (n : Nat)
  /-- TRANSFER_END (R91), with the bytes recorded on the echo input. -/
  | transferEnd (dt : Nat) (sd : Side) (echo : List Byte)
  /-- REFRESH_START (R98). -/
  | refreshStart (dt : Nat) (sd : Side)
  /-- ZERO_CHECK_HOLD (R100). -/
  | zeroCheckHold (dt : Nat) (sd : Side)
  /-- LAMP_TEST_HOLD (R101). -/
  | lampTestHold (dt : Nat) (sd : Side)
  /-- DISPLAY_RETEST (R102), with the raw side code. -/
  | displayRetest (dt : Nat) (ref : Word32) (n : Nat)
  /-- DARK_DELAY (R104). -/
  | darkDelay (dt : Nat)
  /-- MESSAGE (R97), with the text of the side's MESSAGE folio. -/
  | message (dt : Nat) (sd : Side) (ref : Word32) (text : List Byte)
  /-- TEMPERATURE_SAMPLE (R107), with the reading in degrees Celsius. -/
  | temperatureSample (dt : Nat) (reading : Int)
  /-- WARM_LIMIT (R107). -/
  | warmLimit (dt : Nat)
  /-- POLL_CYCLE_START (R114). -/
  | pollCycleStart (dt : Nat) (sd : Side)
  /-- ANSWER_FRAME (R115): a complete frame. -/
  | answerFrame (dt : Nat) (sd : Side) (f : Frame)
  /-- ANSWER_TIMEOUT (R114). -/
  | answerTimeout (dt : Nat) (sd : Side)
  /-- RECEIVE_ERROR (R113). -/
  | receiveError (dt : Nat) (sd : Side)
  /-- BREAK_OFF (R113). -/
  | breakOff (dt : Nat) (sd : Side)
  /-- RESYNC_END (R113). -/
  | resyncEnd (dt : Nat) (sd : Side)
  /-- READER_START_TIMEOUT (R119). -/
  | readerStartTimeout (dt : Nat) (sd : Side)
  /-- OFF_TIME (R121). -/
  | offTime (dt : Nat) (sd : Side)
  /-- TAMPER_INPUT_OPEN (R122). -/
  | tamperInputOpen (dt : Nat) (sd : Side)
  /-- READER_CLEAR (R123), with the raw side code. -/
  | readerClear (dt : Nat) (ref : Word32) (n : Nat)
  /-- READER_RESTART (R124), with the raw side code. -/
  | readerRestart (dt : Nat) (ref : Word32) (n : Nat)
  /-- ADMISSION (R126). -/
  | admission (dt : Nat) (ref : Word32) (req : AdmissionReq)
  /-- UPLINK_RETURN (R128): the host touches the side's first or second UPLINK folio. -/
  | uplinkReturn (dt : Nat) (sd : Side) (which : Fin 2)
  /-- DOWNLINK (R129). -/
  | downlink (dt : Nat) (sd : Side) (ref : Word32) (req : DownlinkReq)
  /-- REPORT_RETURN (R137). -/
  | reportReturn (dt : Nat) (sd : Side)
  /-- WATCH_FOLIO (R143). -/
  | watchFolio (dt : Nat) (ref : Word32) (req : Vector WatchReq 4)
  /-- PERIODIC_TIMER (R149). -/
  | periodicTimer (dt : Nat)
  /-- JOURNAL_WRITE_COMPLETE (R150): the last byte is written, with the bits that read back wrong, as a pattern over the
  slot's bytes; with none the slot reads back as it was written. -/
  | journalWriteComplete (dt : Nat) (damage : List Byte)
  /-- METROLOGY_SWITCH_CHANGE (R156), with the new level. -/
  | metrologySwitchChange (dt : Nat) (closed : Bool)
  /-- CALIBRATION (R157). -/
  | calibration (dt : Nat) (ref : Word32) (req : CalReq)
  /-- JOURNAL_INIT (R158). -/
  | journalInit (dt : Nat) (ref : Word32)
  /-- POWER_ON (R152): the inputs found, how many bytes of a write in flight the store had taken, and what has changed in
  the slots' bytes without power, as a pattern of bits over each. -/
  | powerOn (dt : Nat) (pins : Pins) (taken : Nat) (decay : List (Fin 16 × List Byte))
  /-- HOST_RESET (R155): the host writes 1 to CONTROL's RESET bit. -/
  | hostReset (dt : Nat)
  /-- POWER_WARNING (R175). -/
  | powerWarning (dt : Nat)
  /-- WARNING_CLEARED (R175). -/
  | warningCleared (dt : Nat)
  /-- CLOCK_TICK (R161). -/
  | clockTick (dt : Nat)
  /-- SET_CLOCK (R162). -/
  | setClock (dt : Nat) (ref : Word32) (weekday second : Nat)
  /-- SCHEDULE (R163). -/
  | schedule (dt : Nat) (ref : Word32) (req : ScheduleReq)
  /-- OPEN (R166). -/
  | openSite (dt : Nat) (ref : Word32)
  /-- CLOSE (R166). -/
  | closeSite (dt : Nat) (ref : Word32)
  /-- WAKE_SETTLE (R167). -/
  | wakeSettle (dt : Nat)
  /-- CLOSE_GRACE (R172). -/
  | closeGrace (dt : Nat)
  /-- MOTOR_SPACING (R173). -/
  | motorSpacing (dt : Nat)
  /-- READ_MEMORY (R177): command 0x21 with its start address and the number of bytes clocked out. -/
  | readMemory (dt : Nat) (addr : BitVec 16) (count : Nat)
  /-- WRITE_MEMORY (R179): command 0x22 with its start address and the complete data bytes. -/
  | writeMemory (dt : Nat) (addr : BitVec 16) (data : List Byte)
  /-- READ_REGISTER (R177): command 0x31. -/
  | readRegister (dt : Nat) (addr : BitVec 16)
  /-- UNKNOWN_COMMAND (R177), with the command byte. -/
  | unknownCommand (dt : Nat) (cmd : Byte)
  /-- TOUCH (R180): a completed write to the TOUCH register. -/
  | touch (dt : Nat) (value : Word32)
  /-- FRESH (R178): a completed write to the FRESH register. -/
  | fresh (dt : Nat) (value : Word32)
  /-- FRESH_MASK (R178): a completed write to the FRESH_MASK register. -/
  | freshMask (dt : Nat) (value : Word32)
  /-- STRAY (R178): writing 1 to CONTROL's STRAY bit. -/
  | stray (dt : Nat)
  /-- STRAY_REGISTER_WRITE (R177): a register write to IDENT or to an unknown register address. -/
  | strayRegisterWrite (dt : Nat) (addr : BitVec 16)
  /-- CONFIG (R184), with the bytes of the CONFIG folio's body. -/
  | config (dt : Nat) (ref : Word32) (body : List Byte)
  /-- STATUS_UPDATE (R182). -/
  | statusUpdate (dt : Nat)
  /-- TAMPER_INPUT_CLOSED (R122). -/
  | tamperInputClosed (dt : Nat) (sd : Side)
  /-- WARNING_INPUT_INACTIVE (R175). -/
  | warningInputInactive (dt : Nat)
deriving DecidableEq, Repr

end Sys2Proof
end

