-- ==== Sys2Proof/Decode.lean ====
section
/-!
DEFINITION. Commands from words and from bytes. The FD600's commands are inputs, expiries, register writes and folio
touches; spec/opcode_table.json gives none of its rows any bits, so no word spells a command (notes/assumptions/10.md). The
bytes of an SPI transaction do spell commands (R177): spiCommands reads them.
-/
namespace Sys2Proof

/-- The command a word spells by the bits of the table: none. -/
def decodeTableWord (_nbits _w : Nat) : Option Instr := none

/-! ### SPI transactions (R177) -/

/-- A write to CONTROL (R178): a 1 in bit 2 clears STRAY, and a 1 in bit 3 requests a host reset; writes to the other bits are
disregarded. -/
def controlWrite (dt : Nat) (v : Word32) : List Instr :=
  match v.getLsbD 2, v.getLsbD 3 with
  | true, true => [.stray dt, .hostReset 0]
  | true, false => [.stray dt]
  | false, true => [.hostReset dt]
  | false, false => []

/-- A write of the value `v` to a register that takes one: TOUCH, FRESH, FRESH_MASK or CONTROL (R177). -/
def registerWrite (dt : Nat) (addr : BitVec 16) (v : Word32) : List Instr :=
  match addr.toNat with
  | 1 => [.touch dt v]
  | 2 => [.fresh dt v]
  | 3 => [.freshMask dt v]
  | _ => controlWrite dt v

/-- A register may be written: it is neither IDENT nor outside the table (R177). -/
def writable (addr : BitVec 16) : Bool := decide (1 ≤ addr.toNat ∧ addr.toNat ≤ 4)

/-- A write-register transaction (R177): it takes effect when the fourth byte is complete, and one that ends sooner has no
effect; a write to IDENT or to an address not in the table is stray. -/
def registerTransaction (dt : Nat) (addr : BitVec 16) (data : List Byte) : List Instr :=
  if writable addr then
    match data with
    | b0 :: b1 :: b2 :: b3 :: _ => registerWrite dt addr (b0 ++ b1 ++ b2 ++ b3)
    | _ => []
  else [.strayRegisterWrite dt addr]

/-- The commands that the complete bytes of an SPI transaction spell (R177): a command byte, an address of two bytes, high
byte first, and the data bytes, of which a read only has the number. A transaction that ends before its address is complete
has no effect. -/
def spiCommands (dt : Nat) : List Byte → List Instr
  | [] => []
  | cmd :: rest =>
    if cmd = 0x21#8 ∨ cmd = 0x22#8 ∨ cmd = 0x31#8 ∨ cmd = 0x32#8 then
      match rest with
      | hi :: lo :: data =>
        let addr : BitVec 16 := hi ++ lo
        if cmd = 0x21#8 then [.readMemory dt addr data.length]
        else if cmd = 0x22#8 then [.writeMemory dt addr data]
        else if cmd = 0x31#8 then [.readRegister dt addr]
        else registerTransaction dt addr data
      | _ => []
    else [.unknownCommand dt cmd]

end Sys2Proof
end

