-- ==== Sys2Proof/Machine/State.lean ====
section
/-!
DEFINITION. The state of the FD600: one structure per block of the part (00_scope, "Blocks of the part"), every item
the chapters list, and the queue of the commands that wait. State is plain data. State.reset is the machine at
power-on, before POWER_ON's recovery has run (notes/assumptions/3.md).

Times are microseconds of the model's own clock `now`; the capture clock is its low 32 bits. A timer holds the moment
at which it runs out.
-/
namespace Sys2Proof.Machine

/-- A timer: stopped, or running until the moment it holds (microseconds of `now`). -/
abbrev Timer := Option Nat

/-- The exchange memory's stored bytes: (address, byte) pairs, addresses strictly rising, no byte 0 listed. -/
abbrev Memory := List Host.Cell

/-! ### Named values -/

/-- Dispenser modes (R160). -/
inductive Mode where
  | cold
  | closed
  | opening
  | openMode
  | closing
  | holdup
deriving DecidableEq, Repr, Inhabited

/-- Opening and closing stages (R160), in their sequence. -/
inductive Stage where
  | wake
  | check
  | warm
  | lamp
  | prime
  | readers
  | refuse
  | drain
  | readersOff
  | motorsOff
  | display
  | snapshot
deriving DecidableEq, Repr, Inhabited

/-- Causes of a MODE event (R160). -/
inductive ModeCause where
  | recovery
  | schedule
  | order
  | checkFailed
  | aborted
  | night
  | warning
  | reset
deriving DecidableEq, Repr, Inhabited

/-- Side states (03, the state table). -/
inductive SideState where
  | idle
  | calling
  | authorized
  | starting
  | flowing
  | slow
  | suspended
  | ending
  | ended
deriving DecidableEq, Repr, Inhabited

/-- The sixteen end reasons (03, End reasons). -/
inductive EndReason where
  | limit
  | ceiling
  | nozzle
  | ordered
  | cancelled
  | expired
  | revoked
  | noFlow
  | suspendTimeout
  | meterFault
  | blendFault
  | noPump
  | displayFault
  | closing
  | reset
  | powerLost
deriving DecidableEq, Repr, Inhabited

/-- Meter fault causes (01, the meter channel). -/
inductive FaultCause where
  | phaseLoss
  | reverse
  | noise
  | overspeed
deriving DecidableEq, Repr, Inhabited

/-- Rounding rules (R35). -/
inductive Rounding where
  | nearest
  | down
deriving DecidableEq, Repr, Inhabited

/-- Composition of a grade (R22). -/
inductive Composition where
  | blend (h : Nat)
  | aux
deriving DecidableEq, Repr, Inhabited

/-- Throttle of blend control (R57). -/
inductive Throttle where
  | none
  | high
  | low
deriving DecidableEq, Repr, Inhabited

/-- Motor states (R76). -/
inductive MotorState where
  | stopped
  | waiting
  | starting
  | running
  | rundown
  | failed
deriving DecidableEq, Repr, Inhabited

/-- Causes of a motor failure (R85). -/
inductive MotorCause where
  | noPressure
  | pressureLost
deriving DecidableEq, Repr, Inhabited

/-- Users of a motor (R76). -/
inductive User where
  | side (sd : Side)
  | prime
deriving DecidableEq, Repr, Inhabited

/-- Display states (R92). -/
inductive DispState where
  | dark
  | lit
  | testing
  | fault
deriving DecidableEq, Repr, Inhabited

/-- Causes of a display fault (R103). -/
inductive DispCause where
  | refresh
  | zeroCheck
  | lampTest
deriving DecidableEq, Repr, Inhabited

/-- Gate states (R109). -/
inductive GateState where
  | off
  | starting
  | opened
  | restarting
  | tripped
deriving DecidableEq, Repr, Inhabited

/-- Trip reasons (R109). -/
inductive TripReason where
  | noHello
  | notAdmitted
  | silent
  | tamper
deriving DecidableEq, Repr, Inhabited

/-- What moved a gate, for the GATE event's first detail word (R118). -/
inductive GateCause where
  | readersStage
  | readerClear
  | hello
  | automatic
  | ordered
  | trip (r : TripReason)
  | modeClaim
  | reset
deriving DecidableEq, Repr, Inhabited

/-- Status of a module record (R110). -/
inductive ModStatus where
  | awaiting
  | active
  | shut
  | absent
deriving DecidableEq, Repr, Inhabited

/-- Admission scopes (R117). -/
inductive Scope where
  | unit
  | group
  | other
deriving DecidableEq, Repr, Inhabited

/-- Standing of a module (R110). -/
inductive Standing where
  | admitted
  | referred
deriving DecidableEq, Repr, Inhabited

/-- Outcome of a HELLO, for the MODULE_ADMITTED event (R117). -/
inductive HelloOutcome where
  | admitted
  | referred
  | shut
deriving DecidableEq, Repr, Inhabited

/-- Judgement given to an uplink frame (R110). -/
inductive Judgement where
  | taken
  | refused
deriving DecidableEq, Repr, Inhabited

/-- Pending answer flag of a module (R110). -/
inductive AnswerFlag where
  | none
  | ack
  | busy
  | reject
deriving DecidableEq, Repr, Inhabited

/-- Receiver states (R113). -/
inductive Receiver where
  | hunting
  | receiving
  | resync
deriving DecidableEq, Repr, Inhabited

/-- Restart origins (R109). -/
inductive RestartOrigin where
  | automatic
  | ordered
deriving DecidableEq, Repr, Inhabited

/-- Phases of a restart (R109). -/
inductive RestartPhase where
  | offTime
  | await
deriving DecidableEq, Repr, Inhabited

/-- The two modules of a side (R110). -/
inductive ModuleId where
  | card
  | keypad
deriving DecidableEq, Repr, Inhabited

/-- Admission modes (R109). -/
inductive AdmissionMode where
  | openAll
  | check
  | checkRefer
deriving DecidableEq, Repr, Inhabited

/-- Reasons of a failed CHECK stage (R167). -/
inductive CheckReason where
  | journalEmpty
  | calibration
  | unpriced
deriving DecidableEq, Repr, Inhabited

/-- Result codes (R185). -/
inductive Result where
  | done
  | wrongState
  | mode
  | backlog
  | displayFault
  | gateNotOpen
  | metrologySwitch
  | invalidLimit
  | gradeMaskEmpty
  | invalidOrigin
  | unknownOrder
  | tooLate
  | invalidPrice
  | invalidGrade
  | invalidClock
  | clockUnset
  | invalidMeter
  | invalidProduct
  | invalidSide
  | tamper
  | invalidModule
  | invalidFrame
  | gateClosed
  | notAdmitted
  | moduleBusy
  | noAnswer
  | invalidWatch
  | alreadyPast
  | outOfStep
  | meterBusy
  | busySequence
  | invalidSchedule
  | invalidLength
  | reset
deriving DecidableEq, Repr, Inhabited

/-- Holder of a folio (10, the header table). -/
inductive Holder where
  | host
  | part
deriving DecidableEq, Repr, Inhabited

/-! ### Clock, schedule, opening outcome -/

/-- The clock of day (R160): weekday 0 to 6, second 0 to 86 399. -/
structure Clock where
  weekday : Nat
  second : Nat
deriving DecidableEq, Repr, Inhabited

/-- The schedule (R160, R163): an open and a close second per weekday, or ALWAYS_OPEN. -/
inductive Schedule where
  | entries (days : Vector (Nat × Nat) 7)
  | alwaysOpen
deriving DecidableEq, Repr, Inhabited

/-- The opening outcome (R160). -/
structure Outcome where
  cold : Bool
  displays : Both Bool
  products : PerProduct Bool
  gates : Both Bool
deriving DecidableEq, Repr, Inhabited

/-! ### Configuration -/

/-- The accepted CONFIG (R184), in the units of its layout. -/
structure Settings where
  noflowTimeout : Nat
  suspendTimeout : Nat
  settleTime : Nat
  valveStagger : Nat
  authTimeout : Nat
  blendBand : Nat
  maxFlow : PerMeter Nat
  motorGap : Nat
  pressureTimeout : Nat
  restartGap : Nat
  idleRun : Nat
  failHold : Nat
  warmThreshold : Int
  warmLimit : Nat
  darkDelay : Nat
  divisor : Nat
  pollInterval : Nat
  answerTimeout : Nat
  readerStartTimeout : Nat
  downlinkRetries : Nat
  admissionMode : Both AdmissionMode
  keypadFitted : Both Bool
  closeGrace : Nat
  rounding : Rounding
deriving DecidableEq, Repr, Inhabited

/-- Every field of CONFIG at its default (R184, the layout's last column). -/
def Settings.default : Settings where
  noflowTimeout := 60
  suspendTimeout := 180
  settleTime := 2
  valveStagger := 200
  authTimeout := 120
  blendBand := 20
  maxFlow := PerMeter.same 5000
  motorGap := 3
  pressureTimeout := 8
  restartGap := 10
  idleRun := 60
  failHold := 120
  warmThreshold := -10
  warmLimit := 10
  darkDelay := 30
  divisor := 47
  pollInterval := 100
  answerTimeout := 20
  readerStartTimeout := 15
  downlinkRetries := 2
  admissionMode := Both.same .openAll
  keypadFitted := Both.same true
  closeGrace := 600
  rounding := .nearest

/-! ### Pulse Front End -/

/-- A channel's attachment to a sale: its number and the per-meter fine accumulator (01, the meter channel). -/
structure Attachment where
  sale : Nat
  fine : Nat
deriving DecidableEq, Repr, Inhabited

/-- One meter channel (01, the meter channel). The present levels of its phases are in State.pins and its maximum flow
in the accepted CONFIG. -/
structure Channel where
  posA : Bool
  posB : Bool
  acc : Int
  edgeA : Option Word32
  edgeB : Option Word32
  runPhase : Phase
  runCount : Nat
  back : Nat
  noise : Nat
  window : List Nat
  stamp : Option Word32
  cf : Nat
  cfAside : Option Nat
  fault : Option FaultCause
  attached : Option Attachment
deriving DecidableEq, Repr, Inhabited

/-- A side's stray-flow sum and reported flag (R12). -/
structure Stray where
  sum : Nat
  reported : Bool
deriving DecidableEq, Repr, Inhabited

/-- The Pulse Front End: six channels, the stray-flow sums and the night flag (R12, R13). -/
structure Pfe where
  channels : PerMeter Channel
  stray : Both Stray
  nightFlag : Bool
deriving DecidableEq, Repr, Inhabited

/-! ### Price Table -/

/-- A grade record (R22). -/
structure Grade where
  comp : Composition
  margin : Nat
  text : Vector Byte 4
deriving DecidableEq, Repr, Inhabited

/-- Effect condition of a staged bank (R26). -/
inductive Condition where
  | atOnce
  | atTime (weekday second : Nat)
deriving DecidableEq, Repr, Inhabited

/-- The STAGED bank (R26). -/
structure Staged where
  prices : Vector Nat 6
  tag : Word32
  cond : Condition
deriving DecidableEq, Repr, Inhabited

/-- The Price Table (R22 to R26): grade table, nozzle maps, ACTIVE and STAGED banks, swap-due flag. -/
structure PriceTable where
  grades : Vector Grade 6
  maps : Both (Vector (Option (Fin 6)) 4)
  active : Vector Nat 6
  staged : Option Staged
  swapDue : Bool
deriving DecidableEq, Repr, Inhabited

/-! ### Sale records -/

/-- The sale record (R132). -/
structure SaleRecord where
  number : Nat
  side : Side
  origin : Origin
  hostRef : Word32
  limitKind : LimitKind
  amount : Nat
  nozzle : Option (Fin 4)
  grade : Option (Fin 6)
  target : Option Nat
  price : Option Nat
  rounding : Rounding
  volume : Nat
  money : Nat
  fines : List (Meter × Nat)
  blend : Option Nat
  startClock : Clock
  endClock : Option Clock
  reason : Option EndReason
  test : Bool
  readerLost : Bool
  saturated : Bool
  clamped : Bool
  overrun : Option Nat
  excess : Option Nat
  slot : Option (Fin 16)
deriving DecidableEq, Repr, Inhabited

/-- The captured items of an open sale and its comparator pair (R34, R43). -/
structure Captured where
  nozzle : Fin 4
  grade : Fin 6
  price : Nat
  margin : Nat
  band : Nat
  target : Nat
  slow : Nat
  ceiling : Bool
deriving DecidableEq, Repr, Inhabited

/-- An open sale: its record, its grade mask, and its captured items once it has captured (R43). -/
structure Sale where
  record : SaleRecord
  mask : BitVec 6
  cap : Option Captured
deriving DecidableEq, Repr, Inhabited

/-! ### Side Controllers -/

/-- The outputs of one meter path: true is open (R43). -/
structure Valve where
  main : Bool
  slow : Bool
deriving DecidableEq, Repr, Inhabited

/-- The side's most recent captured sale, which the display shows, and its number for STATUS (R43, R74). -/
structure LastSale where
  price : Nat
  volume : Nat
  money : Nat
  number : Nat
deriving DecidableEq, Repr, Inhabited

/-- One Side Controller (R43). `needZero` and `needMotors` are the pending requirements still awaited; `slowClose` is the
SLOW valves' closing moment, the second use of the stagger (R53, R65); `endedNozzle` the nozzle whose hang leaves ENDED
(R45, R67). -/
structure SideCtl where
  state : SideState
  nozzles : Vector Bool 4
  sale : Option Sale
  needZero : Bool
  needMotors : PerProduct Bool
  waiting : Bool
  valves : PerProduct Valve
  throttle : Throttle
  devRun : Option Nat
  authT : Timer
  noflowT : Timer
  suspendT : Timer
  settleT : Timer
  staggerT : Timer
  slowClose : Timer
  last : LastSale
  nozzleLamp : Bool
  noPumpTest : Bool
  noPumpEnd : Bool
  endedNozzle : Option (Fin 4)
deriving DecidableEq, Repr, Inhabited

/-! ### Pump Motor Controller -/

/-- A motor's user set (R76). -/
structure Users where
  a : Bool
  b : Bool
  prime : Bool
deriving DecidableEq, Repr, Inhabited

/-- One motor (R76). `restUntil` is the moment its RESTART_GAP has passed. Its pressure-ok input is in State.pins. -/
structure Motor where
  state : MotorState
  users : Users
  contactor : Bool
  lastStop : Nat
  restUntil : Nat
  pressureT : Timer
  lossT : Timer
  rundownT : Timer
  failHoldT : Timer
deriving DecidableEq, Repr, Inhabited

/-- The Pump Motor Controller (R76): three motors and the Start Arbiter. `lastGrant` holds the time of the last grant and
the moment its MOTOR_GAP has passed. -/
structure Motors where
  motor : PerProduct Motor
  fifo : List Product
  lastGrant : Option (Nat × Nat)
deriving DecidableEq, Repr, Inhabited

/-! ### Display Controller -/

/-- Purpose of a transfer (R91): a refresh, a zero check's Z1 or Z2, a lamp test's T1, T2 or T3, a blanking. -/
inductive Purpose where
  | refresh
  | z1
  | z2
  | t1
  | t2
  | t3
  | blank
deriving DecidableEq, Repr, Inhabited

/-- A transfer in progress on a side's chain (R91). -/
structure Transfer where
  frame : List Byte
  purpose : Purpose
deriving DecidableEq, Repr, Inhabited

/-- Steps of a zero check (R100). -/
inductive ZeroStep where
  | wait
  | z1
  | hold
  | z2
deriving DecidableEq, Repr, Inhabited

/-- A zero check in hand: its step and the sale it serves (R92). -/
structure ZeroCheck where
  step : ZeroStep
  sale : Nat
deriving DecidableEq, Repr, Inhabited

/-- Steps of a lamp test (R101): `blankWait` and `blanking` are the blanking transfer first made on a LIT side (R102), and
`wait` the wait for a transfer in progress. -/
inductive LampStep where
  | blankWait
  | blanking
  | wait
  | t1
  | hold1
  | t2
  | hold2
  | t3
deriving DecidableEq, Repr, Inhabited

/-- A lamp test in hand: its step, whether it began on a side in FAULT, and whether DISPLAY_RETEST's folio awaits its
beginning (R101, R102). -/
structure LampTest where
  step : LampStep
  fromFault : Bool
  order : Bool
deriving DecidableEq, Repr, Inhabited

/-- One side's display (R92). `goingDark` marks a side that enters DARK once its blanking transfer has ended (R104). -/
structure DispSide where
  state : DispState
  composed : Option (List Byte)
  latched : Option (List Byte)
  mismatch : Nat
  transfer : Option Transfer
  zero : Option ZeroCheck
  lamp : Option LampTest
  recompose : Bool
  figures : Bool
  composedAt : Option Word32
  transferAt : Option Word32
  holdT : Timer
  goingDark : Bool
  hostText : List Byte
deriving DecidableEq, Repr, Inhabited

/-- The Display Controller (R92). `darkening` holds while the sides blank after the dark timer's expiry (R104). -/
structure Display where
  side : Both DispSide
  supply : Bool
  heater : Bool
  temperature : Option Int
  warmT : Timer
  coldFlag : Bool
  darkT : Timer
  darkening : Bool
deriving DecidableEq, Repr, Inhabited

/-! ### Reader Gate -/

/-- A module record (R110); a module that is not configured has no status. -/
structure Module where
  configured : Bool
  status : Option ModStatus
  tag : Option (BitVec 16)
  version : Option Byte
  scope : Option Scope
  standing : Option Standing
  missed : Nat
  lastToggle : Option (Bool × Judgement)
  downToggle : Bool
  flag : AnswerFlag
deriving DecidableEq, Repr, Inhabited

/-- The exchange with the module being addressed (R114): the frame sent, whether it carries the downlink in flight, and
the moment by which the answer must begin. -/
structure Addressing where
  mod : ModuleId
  sent : Frame
  isDownlink : Bool
  deadline : Nat
deriving DecidableEq, Repr, Inhabited

/-- An entry of the uplink queue (R128). -/
structure UplinkEntry where
  mod : ModuleId
  tag : Option (BitVec 16)
  cls : FrameClass
  unadmitted : Bool
  payload : List Byte
  arrival : Word32
deriving DecidableEq, Repr, Inhabited

/-- The downlink in flight (R109, R129). -/
structure DownlinkInFlight where
  mod : ModuleId
  cls : FrameClass
  payload : List Byte
  toggle : Bool
  sends : Nat
  busies : Nat
deriving DecidableEq, Repr, Inhabited

/-- One side's Reader Gate (R109), with its admission settings (R126). A cycle is in progress while `addressing` is
present; `pollDue` is the moment POLL_INTERVAL has passed since the last cycle began. -/
structure GateCtl where
  state : GateState
  trip : Option TripReason
  power : Bool
  restartUsed : Bool
  restart : Option (RestartOrigin × RestartPhase)
  startT : Timer
  offT : Timer
  divisor : Nat
  cycleAt : Option Nat
  pollDue : Timer
  addressing : Option Addressing
  receiver : Receiver
  card : Module
  keypad : Module
  queue : List UplinkEntry
  downlink : Option DownlinkInFlight
  tamper : Bool
  admission : AdmissionSide
deriving DecidableEq, Repr, Inhabited

/-! ### Sale Store -/

/-- A total that a watch may observe (R142). -/
inductive TotalId where
  | meter (m : Meter)
  | volume (g : Fin 6)
  | money (g : Fin 6)
deriving DecidableEq, Repr, Inhabited

/-- A watch (R142). -/
structure Watch where
  object : TotalId
  threshold : Nat
  armed : Bool
deriving DecidableEq, Repr, Inhabited

/-- The 36 totals (R139). -/
structure Totals where
  meter : PerMeter Nat
  unattributed : PerMeter Nat
  test : PerMeter Nat
  volume : Vector Nat 6
  money : Vector Nat 6
  count : Vector Nat 6
deriving DecidableEq, Repr, Inhabited

/-- All totals at 0 (R139). -/
def Totals.zero : Totals where
  meter := PerMeter.same 0
  unattributed := PerMeter.same 0
  test := PerMeter.same 0
  volume := Vector.replicate 6 0
  money := Vector.replicate 6 0
  count := Vector.replicate 6 0

/-- A journal-pending record and its mark: whether the write in flight contains it (R135). -/
structure PendingRec where
  record : SaleRecord
  marked : Bool
deriving DecidableEq, Repr, Inhabited

/-- The records of one side (R134 to R138). The REPORT folio's holder says whether `inFolio` has been handed over. -/
structure Records where
  pending : List PendingRec
  unreported : List SaleRecord
  inFolio : Option SaleRecord
deriving DecidableEq, Repr, Inhabited

/-- The Sale Store (R133 to R143). -/
structure SaleStore where
  counter : Nat
  records : Both Records
  totals : Totals
  watches : Vector Watch 4
deriving DecidableEq, Repr, Inhabited

/-! ### Metrology Journal -/

/-- An open sale as a snapshot holds it, with its per-meter accumulators (R148). -/
structure SnapSale where
  sale : Sale
  fines : List (Meter × Nat)
deriving DecidableEq, Repr, Inhabited

/-- A snapshot: every item of R148. -/
structure Snapshot where
  clock : Clock
  totals : Totals
  watches : Vector Watch 4
  counter : Nat
  pending : Both (List SaleRecord)
  unreported : Both (List SaleRecord)
  sales : Both (Option SnapSale)
  faults : PerMeter (Option FaultCause)
  grades : Vector Grade 6
  maps : Both (Vector (Option (Fin 6)) 4)
  active : Vector Nat 6
  staged : Option Staged
  schedule : Schedule
  admission : Both AdmissionSide
  trips : Both (Option TripReason)
  config : Settings
  master : PerMeter (Option Nat)
  metrology : Option Nat
deriving DecidableEq, Repr, Inhabited

/-- A slot of the ferroelectric store (R147): its 2 KiB, of which the bytes beyond the list are 0, and, while the bytes are
those a write put there, the sequence number and snapshot they spell (the layout is open: notes/assumptions/23.md). -/
structure Slot where
  bytes : List Byte
  content : Option (Nat × Snapshot)
deriving DecidableEq, Repr, Inhabited

/-- What a slot is classed as (R147). -/
inductive SlotKind where
  | unused
  | valid
  | bad
deriving DecidableEq, Repr, Inhabited

/-- The write in flight (R147), the snapshot collected at its beginning (R150), and whether it is the one written for
JOURNAL_INIT (R141, R158). -/
structure Write where
  slot : Fin 16
  seq : Nat
  snap : Snapshot
  forInit : Bool
deriving DecidableEq, Repr, Inhabited

/-- A party waiting for a write that holds its change: not waiting, waiting for one to begin, or waiting for the write in
flight to complete (R157, R158, R173). -/
inductive WriteWait where
  | idle
  | toBegin
  | inWrite
deriving DecidableEq, Repr, Inhabited

/-- Where the journal stands (R150 to R155): ordinary work; recovery's fresh snapshot; a host reset waiting for a write in
flight, then writing the reset snapshot; a warning waiting for a write in flight, then writing the final snapshot; a
warning in COLD waiting for the write in flight; and the end of work in HOLDUP. -/
inductive JPhase where
  | normal
  | fresh
  | resetWait
  | resetWriting
  | finalWait
  | finalWriting
  | coldWait
  | done
deriving DecidableEq, Repr, Inhabited

/-- The Metrology Journal (R147). -/
structure Journal where
  slots : Vector Slot 16
  newest : Option (Fin 16)
  seq : Nat
  next : Fin 16
  inFlight : Option Write
  request : Bool
  empty : Bool
  master : PerMeter (Option Nat)
  metrology : Option Nat
  switchClosed : Bool
  periodicT : Timer
  periodicSum : Nat
  phase : JPhase
  calWait : WriteWait
  initWait : WriteWait
  closeWait : WriteWait
deriving DecidableEq, Repr, Inhabited

/-! ### Mode Controller -/

/-- The Mode Controller (R160). `lampAwait`, `readersAwait` and `drainAwait` are the sides still awaited by LAMP, READERS
and DRAIN; `primeReg` and `primeWait` the products registered at PRIME and those not yet settled; `spacingNext` the motor
the next stop command goes to; `clearT` and `cleared` the 1 s wait of a warning that has gone inactive and its end. -/
structure ModeCtl where
  mode : Mode
  stage : Option Stage
  lampAwait : Both Bool
  primeReg : PerProduct Bool
  primeWait : PerProduct Bool
  readersAwait : Both Bool
  drainAwait : Both Bool
  wakeT : Timer
  graceT : Timer
  spacingT : Timer
  spacingNext : Option Product
  outcome : Outcome
  clock : Clock
  clockUnset : Bool
  schedule : Schedule
  warning : Bool
  clearT : Timer
  cleared : Bool
deriving DecidableEq, Repr, Inhabited

/-! ### Exchange Controller -/

/-- A folio's header, less the kind, which is the folio number (10, Folios). -/
structure Header where
  holder : Holder
  result : Result
  count : Nat
  detail : Word32
  ref : Word32
  len : Byte
  stamp : Nat
deriving DecidableEq, Repr, Inhabited

/-- A detail word of an event. Words the spec gives as numbers are `num`; the others keep what they name, and their 32-bit
coding is left open (notes/assumptions/6.md). `unstated` is a word to which the spec gives no content. -/
inductive Detail where
  | num (n : Nat)
  | modeCause (c : ModeCause)
  | outcome (o : Outcome)
  | checkReason (r : CheckReason)
  | changed (grades : Vector Bool 6)
  | faultCause (c : FaultCause)
  | motorCause (c : MotorCause)
  | users (u : Users)
  | dispCause (c : DispCause)
  | gate (st : GateState) (cause : GateCause)
  | gateState (st : GateState)
  | hello (addr : Nat) (scope : Scope) (outcome : HelloOutcome)
  | tagVersion (tag : BitVec 16) (version : Byte)
  | frame (addr : Nat) (cls : FrameClass)
  | scope (sc : Scope)
  | total (t : TotalId)
  | unstated
deriving DecidableEq, Repr, Inhabited

/-- The event kinds (R185). -/
inductive EventKind where
  | mode
  | stageFailed
  | priceSwap
  | priceSuperseded
  | meterFault
  | meterCleared
  | strayFlow
  | nightFlow
  | motorFailed
  | motorRunning
  | displayFault
  | displayOk
  | gate
  | moduleAdmitted
  | frameRefused
  | tamper
  | calibration
  | watch
  | journalSlotBad
  | clockSet
  | powerWarning
deriving DecidableEq, Repr, Inhabited

/-- An entry of the event ring (R185). -/
structure Event where
  seq : Nat
  clock : Clock
  object : Nat
  kind : EventKind
  d1 : Detail
  d2 : Detail
deriving DecidableEq, Repr, Inhabited

/-- The body of PRICE VIEW (10, Folio bodies). -/
structure PriceView where
  active : Vector Nat 6
  staged : Option Staged
  swapDue : Bool
  grades : Vector (Composition × Vector Byte 4) 6
  maps : Both (Vector (Option (Fin 6)) 4)
deriving DecidableEq, Repr, Inhabited

/-- The body of TOTALS (R141). -/
structure TotalsView where
  totals : Totals
  slot : Option (Fin 16)
  seq : Nat
  counter : Nat
  watches : Vector (Bool × TotalId) 4
deriving DecidableEq, Repr, Inhabited

/-- What STATUS carries of a module record (R118). -/
structure StatusModule where
  configured : Bool
  status : Option ModStatus
  scope : Option Scope
  standing : Option Standing
  missed : Nat
deriving DecidableEq, Repr, Inhabited

/-- What STATUS carries of a side (R74, R118, R134 and 10, Folio bodies). -/
structure StatusSide where
  state : SideState
  saleNumber : Nat
  volume : Nat
  money : Nat
  rate : Nat
  grade : Option (Fin 6)
  nozzle : Option (Fin 4)
  throttle : Throttle
  waiting : Bool
  pendingCount : Nat
  unreportedCount : Nat
  inFolioCount : Nat
  display : DispState
  mismatch : Nat
  gate : GateState
  trip : Option TripReason
  power : Bool
  restartUsed : Bool
  card : StatusModule
  keypad : StatusModule
  queueLength : Nat
  downlink : Bool
deriving DecidableEq, Repr, Inhabited

/-- What STATUS carries of a meter (R17, R19). -/
structure StatusMeter where
  fault : Option FaultCause
  rate : Nat
  noise : Nat
deriving DecidableEq, Repr, Inhabited

/-- The body of STATUS (10, Folio bodies). -/
structure StatusView where
  mode : Mode
  stage : Option Stage
  clock : Clock
  clockUnset : Bool
  warning : Bool
  outcome : Outcome
  coldFlag : Bool
  temperature : Option Int
  heater : Bool
  sides : Both StatusSide
  meters : PerMeter StatusMeter
  motors : PerProduct (MotorState × Users)
  fifo : List Product
  newest : Option (Fin 16 × Nat)
  writing : Bool
  empty : Bool
  switchClosed : Bool
  metrology : Option Nat
  master : PerMeter (Option Nat)
  lastEvent : Nat
deriving DecidableEq, Repr, Inhabited

/-- The Exchange Controller (10): the 27 headers, the stored bytes of the exchanged folios' bodies and of SCRATCH, the
bodies of the posted folios, the registers, the accepted CONFIG, the event ring, and the bytes the last SPI read
returned. A posted body of `none` is a body of zeros (R182). `statusAt` is the time of the last gathered STATUS update, and
`statusAsked` an update that a rule asks for although no item STATUS carries has changed (R163). -/
structure Exchange where
  headers : Vector Header 27
  mem : Memory
  fresh : Word32
  mask : Word32
  ready : Bool
  stray : Bool
  config : Settings
  ring : Vector (Option Event) 56
  nextEvent : Nat
  status : Option StatusView
  statusAt : Option Nat
  statusAsked : Bool
  priceView : Option PriceView
  totalsView : Option TotalsView
  spiOut : List Byte
deriving DecidableEq, Repr, Inhabited

/-! ### The machine -/

/-- The state of the FD600: the model's time, the ten blocks, the input pins, and the commands that wait, first in,
first out. -/
structure State where
  now : Nat
  pfe : Pfe
  sides : Both SideCtl
  prices : PriceTable
  motors : Motors
  display : Display
  gates : Both GateCtl
  store : SaleStore
  journal : Journal
  mode : ModeCtl
  exch : Exchange
  pins : Pins
  pending : List Instr
deriving DecidableEq, Repr, Inhabited

/-- Why the model stops. -/
inductive Fault where
  /-- Raised by READ_MEMORY and WRITE_MEMORY on a start address outside the 8 KiB exchange memory, an address the spec
  gives no location (10, opening paragraph; notes/assumptions/5.md). Safe: the model stops where the part would go on. -/
  | addressOutside (addr : BitVec 16)
deriving DecidableEq, Repr

/-- Why the model refuses a command. -/
inductive Refusal where
  /-- Raised by exec's arm of a command that has no meaning yet; no arm raises it. Safe: it proves nothing. -/
  | notModelled (mnemonic : String)
deriving DecidableEq, Repr

/-! ### Reset values -/

/-- A channel at power-on (R21), with the working CF of a part that has found no slot (R154). -/
def Channel.reset : Channel where
  posA := false
  posB := false
  acc := 0
  edgeA := none
  edgeB := none
  runPhase := .a
  runCount := 0
  back := 0
  noise := 0
  window := []
  stamp := none
  cf := 1024
  cfAside := none
  fault := none
  attached := none

/-- A grade record of a part that has found no slot (R41). A blank character is the byte 20H, as in ASCII: no rule gives the
characters' codes (notes/assumptions/49.md). -/
def Grade.reset : Grade where
  comp := .blend 0
  margin := 50
  text := Vector.replicate 4 0x20#8

/-- The Price Table of a part that has found no slot (R41). -/
def PriceTable.reset : PriceTable where
  grades := Vector.replicate 6 Grade.reset
  maps := Both.same (Vector.replicate 4 none)
  active := Vector.replicate 6 0
  staged := none
  swapDue := false

/-- The side's last sale after power-on (R75). -/
def LastSale.zero : LastSale := ⟨0, 0, 0, 0⟩

/-- Both outputs of a path closed. -/
def Valve.closed : Valve := ⟨false, false⟩

/-- A side at power-on (R75). -/
def SideCtl.reset : SideCtl where
  state := .idle
  nozzles := Vector.replicate 4 false
  sale := none
  needZero := false
  needMotors := PerProduct.same false
  waiting := false
  valves := PerProduct.same Valve.closed
  throttle := .none
  devRun := none
  authT := none
  noflowT := none
  suspendT := none
  settleT := none
  staggerT := none
  slowClose := none
  last := LastSale.zero
  nozzleLamp := false
  noPumpTest := false
  noPumpEnd := false
  endedNozzle := none

/-- The empty user set. -/
def Users.none : Users := ⟨false, false, false⟩

/-- A motor at a power-on at time 0 with the default RESTART_GAP of 10 s (R90). -/
def Motor.reset : Motor where
  state := .stopped
  users := Users.none
  contactor := false
  lastStop := 0
  restUntil := 10000000
  pressureT := none
  lossT := none
  rundownT := none
  failHoldT := none

/-- The Pump Motor Controller at power-on (R90). -/
def Motors.reset : Motors where
  motor := PerProduct.same Motor.reset
  fifo := []
  lastGrant := none

/-- A side's display at power-on (R108, which gives no time of last composition or transfer: both are absent, as the part
starts from nothing; notes/assumptions/29.md). -/
def DispSide.reset : DispSide where
  state := .dark
  composed := none
  latched := none
  mismatch := 0
  transfer := none
  zero := none
  lamp := none
  recompose := false
  figures := false
  composedAt := none
  transferAt := none
  holdT := none
  goingDark := false
  hostText := []

/-- The Display Controller at power-on (R108). -/
def Display.reset : Display where
  side := Both.same DispSide.reset
  supply := false
  heater := false
  temperature := none
  warmT := none
  coldFlag := false
  darkT := none
  darkening := false

/-- A module record after a power-on of its domain or a reset (R110, R131). -/
def Module.awaiting (configured : Bool) : Module where
  configured := configured
  status := if configured then some .awaiting else none
  tag := none
  version := none
  scope := none
  standing := none
  missed := 0
  lastToggle := none
  downToggle := false
  flag := .none

/-- Admission settings of a part that has found no slot: no key, nothing allowed (notes/assumptions/9.md). -/
def AdmissionSide.reset : AdmissionSide where
  keys := Vector.replicate 4 0
  up := ⟨⟨false, false, false⟩, ⟨false, false, false⟩, ⟨false, false, false⟩⟩
  down := ⟨⟨false, false⟩, ⟨false, false⟩, ⟨false, false⟩⟩

/-- A side's gate at power-on (R131, which gives no divisor before the domain's first power-on: 47, CONFIG's default;
notes/assumptions/29.md). -/
def GateCtl.reset : GateCtl where
  state := .off
  trip := none
  power := false
  restartUsed := false
  restart := none
  startT := none
  offT := none
  divisor := 47
  cycleAt := none
  pollDue := none
  addressing := none
  receiver := .resync
  card := Module.awaiting true
  keypad := Module.awaiting true
  queue := []
  downlink := none
  tamper := false
  admission := AdmissionSide.reset

/-- A watch of a part that has found no slot (R145). -/
def Watch.reset : Watch := ⟨.meter ⟨.a, .low⟩, 0, false⟩

/-- The Sale Store of a part that has found no slot (R145). -/
def SaleStore.reset : SaleStore where
  counter := 1
  records := Both.same ⟨[], [], none⟩
  totals := Totals.zero
  watches := Vector.replicate 4 Watch.reset

/-- The journal of a part whose store is as it left the factory (R147, R154). -/
def Journal.reset : Journal where
  slots := Vector.replicate 16 ⟨[], none⟩
  newest := none
  seq := 1
  next := 0
  inFlight := none
  request := false
  empty := true
  master := PerMeter.same none
  metrology := none
  switchClosed := false
  periodicT := none
  periodicSum := 0
  phase := .normal
  calWait := .idle
  initWait := .idle
  closeWait := .idle

/-- The opening outcome, cleared. -/
def Outcome.clear : Outcome := ⟨false, Both.same false, PerProduct.same false, Both.same false⟩

/-- A schedule with every entry closed (R176). -/
def Schedule.closed : Schedule := .entries (Vector.replicate 7 (0, 0))

/-- The Mode Controller at power-on (R154, R176). -/
def ModeCtl.reset : ModeCtl where
  mode := .cold
  stage := none
  lampAwait := Both.same false
  primeReg := PerProduct.same false
  primeWait := PerProduct.same false
  readersAwait := Both.same false
  drainAwait := Both.same false
  wakeT := none
  graceT := none
  spacingT := none
  spacingNext := none
  outcome := Outcome.clear
  clock := ⟨0, 0⟩
  clockUnset := true
  schedule := Schedule.closed
  warning := false
  clearT := none
  cleared := false

/-- Who holds a folio at power-on (10, the catalogue of folios). -/
def holderAtPowerOn (f : Nat) : Holder :=
  if f ≤ 6 then .part
  else if f = 17 ∨ f = 18 then .part
  else if 21 ≤ f ∧ f ≤ 24 then .part
  else .host

/-- A header at power-on (R186). -/
def Header.reset (f : Nat) : Header where
  holder := holderAtPowerOn f
  result := .done
  count := 0
  detail := 0
  ref := 0
  len := 0
  stamp := 0

/-- The Exchange Controller at power-on (R178, R182, R186), with the CONFIG of a part that has found no slot (R184). -/
def Exchange.reset : Exchange where
  headers := Vector.ofFn fun i => Header.reset i.val
  mem := []
  fresh := 0
  mask := 0
  ready := false
  stray := false
  config := Settings.default
  ring := Vector.replicate 56 none
  nextEvent := 1
  status := none
  statusAt := none
  statusAsked := false
  priceView := none
  totalsView := none
  spiOut := []

/-- The pins before any input has moved (notes/assumptions/4.md). -/
def pinsAtReset : Pins where
  phaseA := PerMeter.same false
  phaseB := PerMeter.same false
  nozzles := Both.same (Vector.replicate 4 false)
  pressureOk := PerProduct.same false
  tamperOpen := Both.same false
  metrologyClosed := false
  warning := false

/-- The machine right after reset: power-on with a store as it left the factory, before POWER_ON's recovery. -/
def State.reset : State where
  now := 0
  pfe := ⟨PerMeter.same Channel.reset, Both.same ⟨0, false⟩, false⟩
  sides := Both.same SideCtl.reset
  prices := PriceTable.reset
  motors := Motors.reset
  display := Display.reset
  gates := Both.same GateCtl.reset
  store := SaleStore.reset
  journal := Journal.reset
  mode := ModeCtl.reset
  exch := Exchange.reset
  pins := pinsAtReset
  pending := []

end Sys2Proof.Machine
end

