-- ==== Sys2Proof/Config.lean ====
section
/-!
DEFINITION. What the spec leaves to the implementation, as constants without a body: nothing in Lean can evaluate
them, so a statement about them holds for every choice. They are the codings the folio layouts leave open (10, Folio
bodies, gives the order of the fields but not every code or width) and the values no rule states.
notes/assumptions/6.md and 7.md list them.
-/
namespace Sys2Proof.Config

open Sys2Proof.Machine

/-- The rate R17's formula would give for n periods that sum to 0 us, with the working CF: a division by 0. -/
opaque rateZeroSpan (n cf : Nat) : Nat

/-- The byte found at a position of a HELLO payload that is not three bytes long (R112 gives HELLO three bytes). -/
opaque helloByte (payload : List Byte) (pos : Nat) : Byte

/-- The control character of a frame (R112 gives its content, not the places of its bits). -/
opaque controlByte (c : Control) : Byte

/-- The code of an origin in an ORDER body. -/
opaque originCode (o : Origin) : Byte

/-- The code of a limit kind in an ORDER body. -/
opaque limitKindCode (k : LimitKind) : Byte

/-- The codes of the five side orders in an ORDER body: AUTHORIZE 0th, CHANGE_LIMIT 1st, STOP 2nd, RESUME 3rd, END 4th of
R46's list. -/
opaque orderCode (index : Nat) : Byte

/-- The codes of the nine site orders in a SITE ORDER body, by their place in R183's table (OPEN, CLOSE, SET_CLOCK,
METER_CLEAR, MOTOR_RETRY, DISPLAY_RETEST, READER_CLEAR, READER_RESTART, JOURNAL_INIT). -/
opaque siteOrderCode (index : Nat) : Byte

/-- The code of a frame class in a DOWNLINK or UPLINK body. -/
opaque frameClassCode (c : FrameClass) : Byte

/-- The bit that marks a class in a class-set byte of an ADMISSION body. -/
opaque classMark (c : FrameClass) : Fin 8

/-- A CALIBRATION action code that is neither 0 nor 1: whether it acts as SET. -/
opaque calActionIsSet (code : Byte) : Bool

/-- The byte of a code that a raw request holds as "none of those named". -/
opaque unknownCode : Byte

/-- The code of a side state in an ORDER answer. -/
opaque sideStateCode (st : SideState) : Byte

/-- The body of STATUS, whose field widths and codes the spec leaves open. -/
opaque statusBytes (v : StatusView) : List Byte

/-- The body of PRICE VIEW from its 19th byte on, after the ACTIVE prices: the spec gives its fields in order (STAGED's
present flag, prices, tag and condition, the swap-due flag, each grade's composition and text, both nozzle maps) but not the
widths of the flags nor the coding of the condition. -/
opaque priceViewTailBytes (v : PriceView) : List Byte

/-- The bytes of a journal slot before its CRC: the sequence number and the items of R148, whose layout the spec leaves
open. -/
opaque slotBody (seq : Nat) (snap : Snapshot) : List Byte

/-- The sequence number and snapshot that a slot's bytes spell when they pass its CRC but are not those the part wrote
there (R147, R152). -/
opaque slotContent (image : List Byte) : Nat × Snapshot

/-- The body of REPORT: the record of R132 with a presence mask whose places the spec leaves open. -/
opaque reportBytes (r : SaleRecord) : List Byte

/-- The object code of a watch that is shown in TOTALS, the armed flag's byte, and the slot byte while no slot has been
written: the widths of TOTALS' tail are left open. -/
opaque totalsTailBytes (v : TotalsView) : List Byte

/-- The 32-bit coding of a detail word that the spec names by its content and not by a number. -/
opaque detailCode (d : Detail) : Word32

/-- The result detail that names a side and a nozzle (R24). -/
opaque sideNozzleDetail (sd : Side) (n : Fin 4) : Word32

/-- The result detail that names a CONFIG field by its position in the layout (R184); the argument counts the fields of
the layout from 0. -/
opaque configFieldDetail (index : Nat) : Word32

/-- The result detail of a DOWNLINK: its send count, and its BUSY count for MODULE_BUSY (R130). -/
opaque downlinkDetail (sends : Nat) (busies : Option Nat) : Word32

/-- The segments of a digit, with or without the decimal point (05, The segment chains). -/
opaque digitByte (d : Nat) (point : Bool) : Byte

/-- The two bytes of a character of the message that is not a blank (05, The segment chains). -/
opaque charBytes (c : Byte) : Byte × Byte

/-- The eight characters the message field shows for the part message PRICE CHG, which has nine (R96). -/
opaque priceChgText : Vector Byte 8

/-- Whether the first lamp of the lamp byte, AUTHORIZED, is its bit 0 and the last, PRICE, its bit 7, or the other way round:
05, The segment chains, names the lamps in their order and not the end at which bit 0 stands. -/
opaque firstLampIsBit0 : Bool

end Sys2Proof.Config
end

