-- ==== Sys2Proof/Machine/Arith.lean ====
section
/-!
DEFINITION. The arithmetic of the FD600: the flow rate (R17), volume and money (R36 to R38), targets and the slow point
(R39, R40), the blend share (R57), and the saturating totals (R139). All of it is on whole numbers.
-/
namespace Sys2Proof.Machine

/-- Totals are 64-bit counts and saturate (R139). -/
def satAdd64 (x y : Nat) : Nat := min (x + y) (2 ^ 64 - 1)

/-- A 32-bit number that passes from 2^32 - 1 to 1 and is never 0 (R133, R147, R185). -/
def succ32 (n : Nat) : Nat := if n ≥ 2 ^ 32 - 1 then 1 else n + 1

/-- `k` single advances of `succ32` (R145). -/
def advance32 : Nat → Nat → Nat
  | 0, n => n
  | k + 1, n => advance32 k (succ32 n)

/-- The rate of a capture window, in cl per minute (R17). -/
def rateOf (window : List Nat) (cf : Nat) : Nat :=
  let n := window.length
  let t := window.sum
  if n = 0 then 0
  else if t = 0 then min 65535 (Config.rateZeroSpan n cf)
  else min 65535 (n * cf * 46875 / (8 * t))

/-- Volume in centilitres of a fine volume, saturated (R36). -/
def volumeOf (fine : Nat) : Nat := min 999999 (fine / 10240)

/-- The excess fine of a fine volume that saturates the volume (R37). -/
def excessOf (fine : Nat) : Option Nat :=
  if fine ≥ 10240000000 then some (fine - 10239989760) else none

/-- The money function m(v), unsaturated (R38). -/
def moneyRaw (rule : Rounding) (price v : Nat) : Nat :=
  match rule with
  | .nearest => (v * price + 500) / 1000
  | .down => v * price / 1000

/-- The shown money of a volume (R38). -/
def moneyOf (rule : Rounding) (price v : Nat) : Nat := min 999999 (moneyRaw rule price v)

/-- The largest volume whose money does not exceed `cents` (R39). -/
def moneyTarget (rule : Rounding) (price cents : Nat) : Nat :=
  match rule with
  | .nearest => (1000 * cents + 499) / price
  | .down => (1000 * cents + 999) / price

/-- The ceiling (R39). -/
def ceilingOf (rule : Rounding) (price : Nat) : Nat := min 999799 (moneyTarget rule price 999999)

/-- The limit target (R39). -/
def limitTarget (kind : LimitKind) (amount : Nat) (rule : Rounding) (price : Nat) : Nat :=
  match kind with
  | .money => moneyTarget rule price amount
  | .volume => amount
  | .unlimited => ceilingOf rule price

/-- The effective target (R39). -/
def targetOf (kind : LimitKind) (amount : Nat) (rule : Rounding) (price : Nat) : Nat :=
  min (limitTarget kind amount rule price) (ceilingOf rule price)

/-- Whether the ceiling set the target (R39). -/
def ceilingSets (kind : LimitKind) (amount : Nat) (rule : Rounding) (price : Nat) : Bool :=
  kind == .unlimited || decide (ceilingOf rule price < limitTarget kind amount rule price)

/-- The slow point (R40): natural subtraction gives 0 when the margin reaches the target. -/
def slowPoint (target margin : Nat) : Nat := target - margin

/-- The high share in permille (R57); 0 when no fine volume has been delivered (R66). -/
def highShare (fLow fHigh : Nat) : Nat :=
  if fLow + fHigh = 0 then 0 else 1000 * fHigh / (fLow + fHigh)

/-- A grade's composition uses a product (R22). -/
def Composition.uses : Composition → Product → Bool
  | .blend h, .low => h != 100
  | .blend h, .high => h != 0
  | .blend _, .aux => false
  | .aux, .aux => true
  | .aux, _ => false

/-- Only BLEND(h) with 0 < h < 100 is a true blend (R22). -/
def Composition.trueBlend : Composition → Bool
  | .blend h => decide (0 < h ∧ h < 100)
  | .aux => false

/-- The high share a true blend asks for, in per cent. -/
def Composition.share : Composition → Nat
  | .blend h => h
  | .aux => 0

/-- The throttle blend control sets (R57). -/
def throttleFor (p h b : Nat) : Throttle :=
  if p > 10 * h + b then .high
  else if p + b < 10 * h then .low
  else .none

/-- The high share lies outside R58's wider bounds. -/
def blendDeviates (p h b : Nat) : Bool := decide (p > 10 * h + 3 * b ∨ p + 3 * b < 10 * h)

/-- Seconds in microseconds of `now`. -/
def seconds (n : Nat) : Nat := n * 1000000

/-- Milliseconds in microseconds of `now`. -/
def millis (n : Nat) : Nat := n * 1000

/-- The clock as one number (R162): weekday × 86 400 + second. -/
def Clock.toNat (c : Clock) : Nat := c.weekday * 86400 + c.second

/-- The clock one second later (R161). -/
def Clock.tick (c : Clock) : Clock :=
  if c.second < 86399 then { c with second := c.second + 1 }
  else ⟨if c.weekday < 6 then c.weekday + 1 else 0, 0⟩

end Sys2Proof.Machine
end

