-- ==== Sys2Proof/Machine/Memory.lean ====
section
/-!
DEFINITION. The stored bytes of the exchange memory: reading, writing, and the one canonical form. An address that is
not listed reads as 0, the content R186 gives every body and SCRATCH at power-on.
-/
namespace Sys2Proof.Machine

/-- The byte at an address. -/
def Memory.read : Memory → Nat → Byte
  | [], _ => 0
  | (b, w) :: rest, a => if a = b then w else Memory.read rest a

/-- Store one byte, keeping the canonical form: writing 0 removes the entry. -/
def Memory.write : Memory → Nat → Byte → Memory
  | [], a, v => if v = 0 then [] else [(a, v)]
  | (b, w) :: rest, a, v =>
    if a < b then (if v = 0 then (b, w) :: rest else (a, v) :: (b, w) :: rest)
    else if a = b then (if v = 0 then rest else (a, v) :: rest)
    else (b, w) :: Memory.write rest a v

/-- Store bytes from an address onwards. -/
def Memory.writeAll : Memory → Nat → List Byte → Memory
  | m, _, [] => m
  | m, a, v :: vs => Memory.writeAll (Memory.write m a v) (a + 1) vs

/-- The canonical form: addresses strictly rising, and no entry equal to what an unlisted address reads as. -/
def Memory.wf : Memory → Bool
  | [] => true
  | (a, v) :: rest => v != 0 && rest.all (fun c => decide (a < c.1)) && Memory.wf rest

/-- Bytes read from an address onwards, without wrapping. -/
def Memory.readAll (m : Memory) (a : Nat) : Nat → List Byte
  | 0 => []
  | n + 1 => Memory.read m a :: Memory.readAll m (a + 1) n

end Sys2Proof.Machine
end

