-- ==== Sys2Proof/Machine/Ops.lean ====
section
/-!
DEFINITION. The named operations every block is built on: time and timers, the accessors of the blocks' parts, folio
headers, the event ring, display source changes.
-/
namespace Sys2Proof.Machine

/-! ### Time -/

/-- `dt` microseconds pass. -/
def State.elapse (s : State) (dt : Nat) : State := { s with now := s.now + dt }

/-- The capture clock: a free-running 32-bit count of microseconds (00_scope, Quantities). -/
def State.capture (s : State) : Word32 := BitVec.ofNat 32 s.now

/-- A timer is running and its moment has come. -/
def Timer.due (t : Timer) (now : Nat) : Bool :=
  match t with
  | some d => decide (d ≤ now)
  | none => false

/-- Whether `n` microseconds of the capture clock have passed since a time on it; an absent time counts as long past. -/
def passed (now : Word32) (since : Option Word32) (n : Nat) : Bool :=
  match since with
  | some t => decide (n ≤ (now - t).toNat)
  | none => true

/-- The accepted CONFIG. -/
def State.cfg (s : State) : Settings := s.exch.config

/-- The channels take no edges, the sides no orders, in COLD and HOLDUP (R14, R72). -/
def State.dormant (s : State) : Bool :=
  match s.mode.mode with
  | .cold => true
  | .holdup => true
  | _ => false

/-! ### Accessors -/

/-- One Side Controller. -/
def State.side (s : State) (sd : Side) : SideCtl := s.sides.get sd

/-- Replace one Side Controller. -/
def State.setSide (s : State) (sd : Side) (x : SideCtl) : State := { s with sides := s.sides.set sd x }

/-- One meter channel. -/
def State.chan (s : State) (m : Meter) : Channel := PerMeter.get s.pfe.channels m

/-- Replace one meter channel. -/
def State.setChan (s : State) (m : Meter) (c : Channel) : State :=
  { s with pfe := { s.pfe with channels := PerMeter.set s.pfe.channels m c } }

/-- One motor. -/
def State.motor (s : State) (p : Product) : Motor := s.motors.motor.get p

/-- Replace one motor. -/
def State.setMotor (s : State) (p : Product) (m : Motor) : State :=
  { s with motors := { s.motors with motor := s.motors.motor.set p m } }

/-- Replace the Start Arbiter's FIFO. -/
def State.setFifo (s : State) (f : List Product) : State :=
  { s with motors := { s.motors with fifo := f } }

/-- One side's display. -/
def State.disp (s : State) (sd : Side) : DispSide := s.display.side.get sd

/-- Replace one side's display. -/
def State.setDisp (s : State) (sd : Side) (d : DispSide) : State :=
  { s with display := { s.display with side := s.display.side.set sd d } }

/-- One side's gate. -/
def State.gate (s : State) (sd : Side) : GateCtl := s.gates.get sd

/-- Replace one side's gate. -/
def State.setGate (s : State) (sd : Side) (g : GateCtl) : State := { s with gates := s.gates.set sd g }

/-- One side's records in the Sale Store. -/
def State.records (s : State) (sd : Side) : Records := s.store.records.get sd

/-- Replace one side's records. -/
def State.setRecords (s : State) (sd : Side) (r : Records) : State :=
  { s with store := { s.store with records := s.store.records.set sd r } }

/-! ### Folios -/

/-- The folios that carry a header (10, Folios). -/
abbrev Folio := Fin 27

/-- STATUS is folio 0. -/
def Folio.status : Folio := 0
/-- PRICE VIEW is folio 1. -/
def Folio.priceView : Folio := 1
/-- TOTALS is folio 2. -/
def Folio.totals : Folio := 2
/-- CONFIG is folio 7. -/
def Folio.config : Folio := 7
/-- SCHEDULE is folio 8. -/
def Folio.schedule : Folio := 8
/-- GRADES is folio 9. -/
def Folio.grades : Folio := 9
/-- PRICE STAGING is folio 10. -/
def Folio.priceStaging : Folio := 10
/-- CALIBRATION is folio 11. -/
def Folio.calibration : Folio := 11
/-- ADMISSION is folio 12. -/
def Folio.admission : Folio := 12
/-- WATCH is folio 13. -/
def Folio.watch : Folio := 13
/-- SITE ORDER is folio 14. -/
def Folio.siteOrder : Folio := 14
/-- ORDER A and B are folios 15 and 16. -/
def Folio.order : Side → Folio
  | .a => 15
  | .b => 16
/-- REPORT A and B are folios 17 and 18. -/
def Folio.report : Side → Folio
  | .a => 17
  | .b => 18
/-- MESSAGE A and B are folios 19 and 20. -/
def Folio.message : Side → Folio
  | .a => 19
  | .b => 20
/-- UPLINK A1, A2, B1, B2 are folios 21 to 24. -/
def Folio.uplink : Side → Fin 2 → Folio
  | .a, 0 => 21
  | .a, 1 => 22
  | .b, 0 => 23
  | .b, 1 => 24
/-- DOWNLINK A and B are folios 25 and 26. -/
def Folio.downlink : Side → Folio
  | .a => 25
  | .b => 26

/-- A folio is posted (folios 0 to 6); the other folios with a header are exchanged. -/
def Folio.posted (f : Folio) : Bool := decide (f.val ≤ 6)

/-- The address of a folio's first byte. -/
def Folio.base (f : Folio) : Nat := f.val * 256

/-- The address of the first byte of a folio's body. -/
def Folio.body (f : Folio) : Nat := f.val * 256 + 16

/-- The header of a folio. -/
def State.header (s : State) (f : Folio) : Header := s.exch.headers.get f

/-- Replace the header of a folio. -/
def State.setHeader (s : State) (f : Folio) (h : Header) : State :=
  { s with exch := { s.exch with headers := s.exch.headers.set f.val h } }

/-- Set a folio's fresh bit. -/
def State.setFresh (s : State) (f : Folio) : State :=
  { s with exch := { s.exch with fresh := s.exch.fresh ||| (1#32 <<< f.val) } }

/-- Clear a folio's fresh bit. -/
def State.clearFresh (s : State) (f : Folio) : State :=
  { s with exch := { s.exch with fresh := s.exch.fresh &&& ~~~(1#32 <<< f.val) } }

/-- Set CONTROL's STRAY bit (R178). -/
def State.setStray (s : State) : State := { s with exch := { s.exch with stray := true } }

/-- One update of a posted folio under its change count: the count is made odd and then even again (R182). -/
def State.bump (s : State) (f : Folio) : State :=
  s.setHeader f { s.header f with count := ((s.header f).count + 2) % 65536 }

/-- Write bytes into a folio's body, with its body length; at most 240 bytes are taken. -/
def State.writeBody (s : State) (f : Folio) (bytes : List Byte) : State :=
  let body := bytes.take 240
  let s := s.setHeader f { s.header f with len := BitVec.ofNat 8 body.length }
  { s with exch := { s.exch with mem := Memory.writeAll s.exch.mem f.body body } }

/-- The bytes of a folio's body as stored. -/
def State.bodyBytes (s : State) (f : Folio) : List Byte := Memory.readAll s.exch.mem f.body 240

/-- A hand-over (R181): result, detail and stamp are written, the hand-over count advances, the holder becomes HOST and the
fresh bit is set. The host reference is the one already in the header. -/
def State.handOver (s : State) (f : Folio) (r : Result) (detail : Word32 := 0) : State :=
  let h := s.header f
  (s.setHeader f { h with
    result := r, detail := detail, stamp := s.mode.clock.toNat
    count := (h.count + 1) % 65536, holder := .host }).setFresh f

/-- The bytes of a number, most significant first (10, Folios: multi-byte fields). -/
def be : Nat → Nat → List Byte
  | 0, _ => []
  | k + 1, v => BitVec.ofNat 8 (v / 256 ^ k) :: be k v

/-- Bit 31 of the result detail says CLAMPED (R185). -/
def clampedBit : Word32 := 0x80000000#32

/-- A result detail that is a number. -/
def detailNum (n : Nat) : Word32 := BitVec.ofNat 32 n

/-! ### The event ring -/

/-- The number before one of a 32-bit sequence that is never 0. -/
def pred32 (n : Nat) : Nat := if n ≤ 1 then 2 ^ 32 - 1 else n - 1

/-- The EVENTS folio that holds a position of the ring (R185). -/
def eventFolio (pos : Fin 56) : Folio := ⟨3 + pos.val / 14, by omega⟩

/-- The ring position of a sequence number (R185). -/
def ringPos (seq : Nat) : Fin 56 := ⟨(seq - 1) % 56, Nat.mod_lt _ (by decide)⟩

/-- Raise an event (R185): the entry takes the counter's value, is written at its ring position under its folio's change
count, and the folio's fresh bit is set. -/
def State.raise (s : State) (kind : EventKind) (object : Nat) (d1 d2 : Detail) : State :=
  let n := s.exch.nextEvent
  let pos := ringPos n
  let e : Event := { seq := n, clock := s.mode.clock, object := object, kind := kind, d1 := d1, d2 := d2 }
  let s := { s with exch := { s.exch with ring := s.exch.ring.set pos.val (some e), nextEvent := succ32 n } }
  (s.bump (eventFolio pos)).setFresh (eventFolio pos)

/-- The newest event sequence number, 0 while the ring is empty (R185). -/
def State.lastEvent (s : State) : Nat :=
  match s.exch.ring.get (ringPos (pred32 s.exch.nextEvent)) with
  | some e => e.seq
  | none => 0

/-- Modes are coded COLD 0, CLOSED 1, OPENING 2, OPEN 3, CLOSING 4, HOLDUP 5 (R185). -/
def Mode.code : Mode → Nat
  | .cold => 0
  | .closed => 1
  | .opening => 2
  | .openMode => 3
  | .closing => 4
  | .holdup => 5

/-- Stages are numbered in their sequence from WAKE = 1 (R185). -/
def Stage.code : Stage → Nat
  | .wake => 1
  | .check => 2
  | .warm => 3
  | .lamp => 4
  | .prime => 5
  | .readers => 6
  | .refuse => 7
  | .drain => 8
  | .readersOff => 9
  | .motorsOff => 10
  | .display => 11
  | .snapshot => 12

/-! ### Display source changes -/

/-- A source change of R92 other than volume or money: it sets the recompose flag, but not on a DARK or FAULT side (R98,
R103, R104). -/
def State.recompose (s : State) (sd : Side) : State :=
  let d := s.disp sd
  match d.state with
  | .lit => s.setDisp sd { d with recompose := true }
  | .testing => s.setDisp sd { d with recompose := true }
  | _ => s

/-- A new last sale that changes only the volume or money sets the figures flag (R98). -/
def State.newFigures (s : State) (sd : Side) : State :=
  let d := s.disp sd
  match d.state with
  | .lit => s.setDisp sd { d with figures := true }
  | .testing => s.setDisp sd { d with figures := true }
  | _ => s

/-- A source change for both sides. -/
def State.recomposeBoth (s : State) : State := (s.recompose .a).recompose .b

/-- Run an operation on side A and then on side B. -/
def State.bothSides (s : State) (f : State → Side → State) : State := f (f s .a) .b

/-! ### Attachments and fine volumes -/

/-- The per-meter accumulators of a side's attached channels, in meter order (R11, R132). -/
def State.fines (s : State) (sd : Side) : List (Meter × Nat) :=
  Product.all.filterMap fun p => (s.chan ⟨sd, p⟩).attached.map fun a => (⟨sd, p⟩, a.fine)

/-- The sum of a list of per-meter fine volumes (R36). -/
def fineSum (l : List (Meter × Nat)) : Nat := (l.map Prod.snd).sum

/-- The fine volume of one product in a list of per-meter fine volumes. -/
def fineOf (l : List (Meter × Nat)) (p : Product) : Nat :=
  ((l.filter fun e => decide (e.1.product = p)).map Prod.snd).sum

/-- A meter's rate (R17), evaluated afresh at each use with the working CF that holds then (R8): a CF delivered while the
window is not empty changes it at once, where R17 names only counted cycles and expiries (notes/assumptions/46.md). -/
def State.meterRate (s : State) (m : Meter) : Nat := rateOf (s.chan m).window (s.chan m).cf

/-- A side's rate: the sum over the meters attached to its sale (R17). -/
def State.sideRate (s : State) (sd : Side) : Nat :=
  min 65535 ((Product.all.map fun p =>
    if (s.chan ⟨sd, p⟩).attached.isSome then s.meterRate ⟨sd, p⟩ else 0).sum)

/-! ### Nozzles -/

/-- The number of a side's lifted nozzles. -/
def SideCtl.lifted (x : SideCtl) : Nat := (x.nozzles.toList.filter id).length

/-- Some nozzle of the side is lifted. -/
def SideCtl.anyLifted (x : SideCtl) : Bool := x.nozzles.toList.any id

/-- The one lifted nozzle, when exactly one is lifted. -/
def SideCtl.onlyLifted (x : SideCtl) : Option (Fin 4) :=
  if x.lifted = 1 then (List.finRange 4).find? fun i => x.nozzles.get i else none

/-- A side state in which the side holds a sale that is not yet complete (R71). -/
def SideState.holdsSale : SideState → Bool
  | .authorized | .starting | .flowing | .slow | .suspended | .ending => true
  | .idle | .calling | .ended => false

/-- The five states that block the swap (R31). -/
def SideState.blocksSwap : SideState → Bool
  | .starting | .flowing | .slow | .suspended | .ending => true
  | .idle | .calling | .authorized | .ended => false

/-- FLOWING or SLOW. -/
def SideState.delivers : SideState → Bool
  | .flowing | .slow => true
  | _ => false

end Sys2Proof.Machine
end

