-- ==== Sys2Proof/Machine/Slots.lean ====
section
/-!
DEFINITION. The slots of the ferroelectric store, byte by byte (R147): the CRC-32, the class of a slot, the bytes a write
puts there (R148), and what a write that power cuts short and a decay leave (R152).
-/
namespace Sys2Proof.Machine

/-! ### The CRC-32 -/

/-- One bit of the CRC-32 with the polynomial of R147. -/
def crc32Bit (c : Word32) : Word32 := if c.getMsbD 0 then (c <<< 1) ^^^ 0x04C11DB7#32 else c <<< 1

/-- One byte of the CRC-32, its bits most significant first (R147 gives no order: notes/assumptions/23.md). -/
def crc32Byte (c : Word32) (b : Byte) : Word32 :=
  crc32Bit (crc32Bit (crc32Bit (crc32Bit (crc32Bit (crc32Bit (crc32Bit (crc32Bit (c ^^^ (b.setWidth 32 <<< 24)))))))))

/-- The CRC-32 of bytes: an initial value of all ones, the result inverted (R147). -/
def crc32 (bytes : List Byte) : Word32 := ~~~ bytes.foldl crc32Byte 0xFFFFFFFF#32

/-! ### Slots -/

/-- The size of a slot. -/
def slotSize : Nat := 2048

/-- The bytes of a slot before its CRC. -/
def slotBodySize : Nat := 2044

/-- Exactly `n` bytes: the list, filled out with zeros. -/
def padTo (n : Nat) (bytes : List Byte) : List Byte := (bytes ++ List.replicate n 0).take n

/-- The 2 KiB of a slot. -/
def Slot.image (q : Slot) : List Byte := padTo slotSize q.bytes

/-- The bytes of a snapshot's slot: its body, closed with its CRC-32 in the last four bytes, most significant first (R147,
R148; notes/assumptions/23.md). -/
def slotImage (seq : Nat) (snap : Snapshot) : List Byte :=
  let body := padTo slotBodySize (Config.slotBody seq snap)
  body ++ be 4 (crc32 body).toNat

/-- The slot a write leaves (R148). -/
def Slot.written (seq : Nat) (snap : Snapshot) : Slot := ⟨slotImage seq snap, some (seq, snap)⟩

/-- The class of a slot (R147): UNUSED when all of its bytes are 0, VALID when the CRC-32 over the rest of it is the one in
its last four bytes, BAD otherwise. -/
def Slot.kind (q : Slot) : SlotKind :=
  match q.bytes with
  | [] => .unused
  | _ =>
    if q.image.drop slotBodySize = be 4 (crc32 (q.image.take slotBodySize)).toNat then .valid
    else if q.image.all fun b => decide (b = 0) then .unused
    else .bad

/-- The sequence number and snapshot of a slot (R148). -/
def Slot.found (q : Slot) : Nat × Snapshot := q.content.getD (Config.slotContent q.image)

/-- Bytes with a pattern of bits changed. -/
def xorBytes : List Byte → List Byte → List Byte
  | b :: bs, d :: ds => (b ^^^ d) :: xorBytes bs ds
  | bs, _ => bs

/-- A slot of whose bytes a pattern of bits has changed. -/
def Slot.spoil (q : Slot) (damage : List Byte) : Slot :=
  match damage with
  | [] => q
  | _ =>
    let b := xorBytes q.image damage
    if b = q.image then q else ⟨b, none⟩

/-- A slot whose write was cut short after a number of bytes (R152). -/
def Slot.torn (old new : Slot) (taken : Nat) : Slot :=
  if taken = 0 then old
  else
    let b := new.image.take taken ++ old.image.drop taken
    if b = new.image then new else if b = old.image then old else ⟨b, none⟩

end Sys2Proof.Machine
end

