-- ==== Sys2Proof/Machine/Flags.lean ====
section
/-!
DEFINITION. What the host sees: the registers' flags and the interrupt line (R178), the gate a request passes when its
folio is touched (R180), and the posted folios STATUS, PRICE VIEW and TOTALS with their fresh bits (R182).
-/
namespace Sys2Proof.Machine

/-! ### Registers -/

/-- The interrupt line: asserted while FRESH and FRESH_MASK have a bit in common (R178). -/
def State.irq (s : State) : Bool := s.exch.fresh &&& s.exch.mask != 0

/-- A bit as a 32-bit word. -/
def bit32 (b : Bool) (n : Nat) : Word32 := if b then 1#32 <<< n else 0

/-- The CONTROL register as read (R177, R178): READY, IRQ, STRAY, and RESET reading 0. -/
def State.control (s : State) : Word32 := bit32 s.exch.ready 0 ||| bit32 s.irq 1 ||| bit32 s.exch.stray 2

/-! ### Touches -/

/-- A touch of an exchanged folio is taken while READY is 1 and the host holds it (R180). -/
def State.touchable (s : State) (f : Folio) : Bool :=
  s.exch.ready && !f.posted && decide ((s.header f).holder = .host)

/-- A taken touch: the holder becomes PART and the fresh bit is cleared (R180). -/
def State.touched (s : State) (f : Folio) : State :=
  (s.setHeader f { s.header f with holder := .part }).clearFresh f

/-- The host fills a folio it holds with a request: its body, body length and host reference (R179). -/
def State.hostFill (s : State) (f : Folio) (ref : Word32) (bytes : List Byte) : State :=
  if (s.header f).holder = .host then
    let s := s.writeBody f bytes
    s.setHeader f { s.header f with ref := ref }
  else s

/-- The host reference of a folio that is handed back without being taken (R181): the one the host gave, but REPORT's is its
record's and UPLINK's is 0. The host holds a REPORT folio only with a record in it (R136, R137). -/
def State.answerRef (s : State) (f : Folio) : Word32 :=
  let report := fun sd => match (s.records sd).inFolio with | some r => r.hostRef | none => (s.header f).ref
  match f.val with
  | 17 => report .a
  | 18 => report .b
  | 21 => 0
  | 22 => 0
  | 23 => 0
  | 24 => 0
  | _ => (s.header f).ref

/-- A folio handed back at once with INVALID_LENGTH (R180, R181). -/
def State.refuseLength (s : State) (f : Folio) : State :=
  (s.setHeader f { s.header f with ref := s.answerRef f }).handOver f .invalidLength

/-- A touch of a folio (R180): stray when the folio cannot be touched; a body length above 240 is handed back at once; any
other is served by the owning block. -/
def State.touchWith (s : State) (f : Folio) (serve : State → State) : State :=
  if s.touchable f then
    if (s.header f).len.toNat > 240 then (s.touched f).refuseLength f else serve (s.touched f)
  else s.setStray

/-- A command that is the host's touch of a folio it has filled with a request (R180, notes/assumptions/2.md). -/
def State.request (s : State) (f : Folio) (ref : Word32) (bytes : List Byte) (serve : State → State) : State :=
  (s.hostFill f ref bytes).touchWith f serve

/-! ### STATUS -/

/-- What STATUS carries of a module record. -/
def Module.view (m : Module) : StatusModule where
  configured := m.configured
  status := m.status
  scope := m.scope
  standing := m.standing
  missed := m.missed

/-- What STATUS carries of a side (R74, R118, R134): the open sale's number, volume, money, grade and nozzle, or the last
sale's number, volume and money. The captured grade and nozzle are the open sale's alone: whether a last sale's go on being
shown R74 leaves open (notes/assumptions/45.md). -/
def State.sideView (s : State) (sd : Side) : StatusSide :=
  let x := s.side sd
  let d := s.disp sd
  let g := s.gate sd
  let r := s.records sd
  { state := x.state
    saleNumber := match x.sale with | some o => o.record.number | none => x.last.number
    volume := match x.sale with | some o => o.record.volume | none => x.last.volume
    money := match x.sale with | some o => o.record.money | none => x.last.money
    rate := s.sideRate sd
    grade := x.sale.bind fun o => o.record.grade
    nozzle := x.sale.bind fun o => o.record.nozzle
    throttle := x.throttle
    waiting := x.waiting
    pendingCount := r.pending.length
    unreportedCount := r.unreported.length
    inFolioCount := if r.inFolio.isSome then 1 else 0
    display := d.state
    mismatch := d.mismatch
    gate := g.state
    trip := g.trip
    power := g.power
    restartUsed := g.restartUsed
    card := g.card.view
    keypad := g.keypad.view
    queueLength := g.queue.length
    downlink := g.downlink.isSome }

/-- What STATUS carries of a meter (R17, R19). -/
def State.meterView (s : State) (m : Meter) : StatusMeter where
  fault := (s.chan m).fault
  rate := s.meterRate m
  noise := (s.chan m).noise

/-- The newest slot and its sequence number (R147). -/
def Journal.newestSeq (j : Journal) : Option (Fin 16 × Nat) :=
  j.newest.map fun i => (i, (j.slots.get i).found.1)

/-- The body of STATUS from the present state (10, Folio bodies). -/
def State.composeStatus (s : State) : StatusView where
  mode := s.mode.mode
  stage := s.mode.stage
  clock := s.mode.clock
  clockUnset := s.mode.clockUnset
  warning := s.mode.warning
  outcome := s.mode.outcome
  coldFlag := s.display.coldFlag
  temperature := s.display.temperature
  heater := s.display.heater
  sides := ⟨s.sideView .a, s.sideView .b⟩
  meters := ⟨⟨s.meterView ⟨.a, .low⟩, s.meterView ⟨.a, .high⟩, s.meterView ⟨.a, .aux⟩⟩,
    ⟨s.meterView ⟨.b, .low⟩, s.meterView ⟨.b, .high⟩, s.meterView ⟨.b, .aux⟩⟩⟩
  motors := s.motors.motor.map fun m => (m.state, m.users)
  fifo := s.motors.fifo
  newest := s.journal.newestSeq
  writing := s.journal.inFlight.isSome
  empty := s.journal.empty
  switchClosed := s.journal.switchClosed
  metrology := s.journal.metrology
  master := s.journal.master
  lastEvent := s.lastEvent

/-- Rewrite STATUS under its change count (R182). -/
def State.rewriteStatus (s : State) : State :=
  ({ s with exch := { s.exch with status := some s.composeStatus, statusAsked := false } }).bump Folio.status

/-- Ask for an update of STATUS without its fresh bit, to be gathered with the others (R163, R182). -/
def State.askStatus (s : State) : State := { s with exch := { s.exch with statusAsked := true } }

/-- Post STATUS with its fresh bit set (R74, R118, R160 and others). -/
def State.postStatus (s : State) : State := s.rewriteStatus.setFresh Folio.status

/-- A change waits for the gathered STATUS update (R182): one was asked for, or the posted body differs from the present
state. -/
def State.statusPending (s : State) : Bool := s.exch.statusAsked || decide (s.exch.status ≠ some s.composeStatus)

/-! ### PRICE VIEW -/

/-- The body of PRICE VIEW from the present Price Table (R26). -/
def PriceTable.view (p : PriceTable) : PriceView where
  active := p.active
  staged := p.staged
  swapDue := p.swapDue
  grades := mapEach (fun g => (g.comp, g.text)) p.grades
  maps := p.maps

/-- Rewrite PRICE VIEW under its change count, without its fresh bit (R26). -/
def State.updatePriceView (s : State) : State :=
  ({ s with exch := { s.exch with priceView := some s.prices.view } }).bump Folio.priceView

/-- Post PRICE VIEW with its fresh bit set (R26). -/
def State.postPriceView (s : State) : State := s.updatePriceView.setFresh Folio.priceView

/-! ### TOTALS -/

/-- What TOTALS shows of the watches (R141). -/
def watchView (w : Vector Watch 4) : Vector (Bool × TotalId) 4 := mapEach (fun x => (x.armed, x.object)) w

/-- Rewrite TOTALS from a snapshot in a slot (R141), with the watches as they stand. -/
def State.updateTotals (s : State) (slot : Fin 16) (seq : Nat) (snap : Snapshot) : State :=
  let v : TotalsView :=
    { totals := snap.totals, slot := some slot, seq := seq, counter := snap.counter,
      watches := watchView s.store.watches }
  ({ s with exch := { s.exch with totalsView := some v } }).bump Folio.totals

/-- Rewrite TOTALS after a change of a watch, leaving its totals (R141). -/
def State.updateTotalsWatches (s : State) : State :=
  let v : TotalsView :=
    match s.exch.totalsView with
    | some v => { v with watches := watchView s.store.watches }
    | none =>
      { totals := Totals.zero, slot := none, seq := 0, counter := 0, watches := watchView s.store.watches }
  ({ s with exch := { s.exch with totalsView := some v } }).bump Folio.totals

end Sys2Proof.Machine
end

