-- ==== Sys2Proof/Machine/Gates.lean ====
section
/-!
DEFINITION. The Reader Gate's own operations (06): the link and its CRC (R111, R112), polling (R114), gate changes (R118 to
R122), HELLO (R117), admission (R127), uplink and downlink (R116, R128 to R130). What a side and the Mode Controller do
when a gate changes is told by Sides.lean and Modes.lean.
-/
namespace Sys2Proof

/-- The bytes a frame's check covers: address, control, length, payload (R112). -/
def Frame.covered (f : Frame) : List Byte :=
  f.addr :: Config.controlByte f.control :: f.length :: f.payload

/-- A class that a module sends (R112). -/
def FrameClass.fromModule : FrameClass → Bool
  | .nothing | .hello | .card | .entry | .payload | .ack | .busy | .tamper => true
  | .poll | .prompt | .other => false

/-- An uplink class (R112). -/
def FrameClass.isUplink : FrameClass → Bool
  | .card | .entry | .payload => true
  | _ => false

/-- The value for one scope. -/
def PerScope.get {α : Type} (p : PerScope α) : Machine.Scope → α
  | .unit => p.unit
  | .group => p.group
  | .other => p.other

/-- An uplink class is in a class set (R126). -/
def UpSet.allows (u : UpSet) : FrameClass → Bool
  | .card => u.card
  | .entry => u.entry
  | .payload => u.payload
  | _ => false

/-- A downlink class is in a class set (R126). -/
def DownSet.allows (d : DownSet) : FrameClass → Bool
  | .prompt => d.prompt
  | .payload => d.payload
  | _ => false

end Sys2Proof

namespace Sys2Proof.Machine

/-! ### The link -/

/-- One bit of the CRC-16 with polynomial x^16 + x^12 + x^5 + 1 (R112). -/
def crcBit (c : BitVec 16) : BitVec 16 :=
  if c.getMsbD 0 then (c <<< 1) ^^^ 0x1021#16 else c <<< 1

/-- One byte of the CRC-16, its bits most significant first (R112). -/
def crcByte (c : BitVec 16) (b : Byte) : BitVec 16 :=
  crcBit (crcBit (crcBit (crcBit (crcBit (crcBit (crcBit (crcBit (c ^^^ (b.setWidth 16 <<< 8)))))))))

/-- The CRC-16 of a frame's bytes, with an initial value of all ones (R112). -/
def crc16 (bytes : List Byte) : BitVec 16 := bytes.foldl crcByte 0xFFFF#16

/-- A complete frame is good: check right, address 0, length 200 or less, class one a module sends (R113). A frame whose
payload is not as long as its length field says is not a complete frame, and is not good. -/
def frameGood (f : Frame) : Bool :=
  decide (f.check = crc16 f.covered) && decide (f.addr = 0) && decide (f.length.toNat ≤ 200)
    && f.control.cls.fromModule && decide (f.payload.length = f.length.toNat)

/-- The time `n` characters of eleven bits take at divisor D, in microseconds (R111). -/
def charMicros (d n : Nat) : Nat := n * 11 * 16 * (d + 1) * 1000000 / 7372800

/-- Link addresses of the modules (R112). -/
def ModuleId.addr : ModuleId → Nat
  | .card => 1
  | .keypad => 2

/-- A frame the part sends, with its check. -/
def partFrame (addr : Nat) (c : Control) (payload : List Byte) : Frame :=
  let f : Frame :=
    { addr := BitVec.ofNat 8 addr, control := c, length := BitVec.ofNat 8 payload.length, payload := payload,
      check := 0 }
  { f with check := crc16 f.covered }

/-! ### Module records -/

/-- One module record of a gate. -/
def GateCtl.mod (g : GateCtl) : ModuleId → Module
  | .card => g.card
  | .keypad => g.keypad

/-- Replace one module record. -/
def GateCtl.setMod (g : GateCtl) (i : ModuleId) (m : Module) : GateCtl :=
  match i with
  | .card => { g with card := m }
  | .keypad => { g with keypad := m }

/-- A polled module: configured, and AWAITING or ACTIVE (R114). -/
def Module.polled (m : Module) : Bool :=
  m.configured && (decide (m.status = some .awaiting) || decide (m.status = some .active))

/-- The start timer's expiry makes an AWAITING module ABSENT (R119). -/
def Module.expire (m : Module) : Module :=
  if m.status = some .awaiting then { m with status := some .absent } else m

/-! ### Downlink and uplink hand-overs -/

/-- The downlink in flight is answered: it becomes absent and the folio is handed back (R130). -/
def State.downlinkResult (s : State) (sd : Side) (r : Result) : State :=
  let g := s.gate sd
  match g.downlink with
  | some d =>
    (s.setGate sd { g with downlink := none }).handOver (Folio.downlink sd) r
      (Config.downlinkDetail d.sends (if r = .moduleBusy then some d.busies else none))
  | none => s

/-- The body of an UPLINK folio (10, Folio bodies). The UNADMITTED mark is one byte, 1 for marked and 0 for not, as the widths
are presumed (notes/assumptions/17.md). -/
def UplinkEntry.bytes (e : UplinkEntry) : List Byte :=
  BitVec.ofNat 8 e.mod.addr :: be 2 (e.tag.getD 0).toNat
    ++ [Config.frameClassCode e.cls, if e.unadmitted then 1 else 0]
    ++ be 4 e.arrival.toNat ++ [BitVec.ofNat 8 e.payload.length] ++ e.payload

/-- The head of the uplink queue goes into a part-held uplink folio and is handed to the host, with host reference 0 (R128,
R181). -/
def State.uplinkInto (s : State) (sd : Side) (i : Fin 2) : State :=
  let g := s.gate sd
  let f := Folio.uplink sd i
  match g.queue with
  | e :: rest =>
    if (s.header f).holder = Holder.part then
      let s := (s.setGate sd { g with queue := rest }).writeBody f e.bytes
      (s.setHeader f { s.header f with ref := 0 }).handOver f .done
    else s
  | [] => s

/-- The uplink queue is served into the side's part-held folios, the first before the second (R128). -/
def State.uplinkFlow (s : State) (sd : Side) : State := (s.uplinkInto sd 0).uplinkInto sd 1

/-! ### Polling -/

/-- The frame sent to a module: the downlink in flight for an ACTIVE module, or a POLL, with the pending answer flag (R114).
A POLL carries the module's downlink toggle: R114 does not say which of the record's two toggles is meant
(notes/assumptions/36.md). -/
def GateCtl.frameFor (g : GateCtl) (i : ModuleId) : Frame × Bool :=
  let m := g.mod i
  let flags := fun (cls : FrameClass) (toggle : Bool) =>
    ({ cls := cls, toggle := toggle, ack := decide (m.flag = .ack), busy := decide (m.flag = .busy),
       reject := decide (m.flag = .reject) } : Control)
  match g.downlink with
  | some d =>
    if d.mod = i ∧ m.status = some .active then (partFrame i.addr (flags d.cls d.toggle) d.payload, true)
    else (partFrame i.addr (flags .poll m.downToggle) [], false)
  | none => (partFrame i.addr (flags .poll m.downToggle) [], false)

/-- The part addresses a module (R114): the frame is sent, the pending answer flag becomes none, a downlink's send count
rises (R130), and the answer is awaited for ANSWER_TIMEOUT from the frame's last character. -/
def State.address (s : State) (sd : Side) (i : ModuleId) : State :=
  let g := s.gate sd
  let (f, isDown) := g.frameFor i
  let g' := g.setMod i { g.mod i with flag := .none }
  s.setGate sd { g' with
    downlink := if isDown then g.downlink.map fun d => { d with sends := d.sends + 1 } else g.downlink
    addressing := some
      { mod := i, sent := f, isDownlink := isDown
        deadline := s.now + charMicros g.divisor (5 + f.payload.length) + millis s.cfg.answerTimeout } }

/-- The first polled module of a list is addressed; with none the cycle ends (R114). -/
def State.pollFrom (s : State) (sd : Side) : List ModuleId → State
  | [] => s.setGate sd { s.gate sd with addressing := none }
  | i :: rest => if ((s.gate sd).mod i).polled then s.address sd i else s.pollFrom sd rest

/-- The modules that follow one in a cycle (R114). -/
def ModuleId.following : ModuleId → List ModuleId
  | .card => [.keypad]
  | .keypad => []

/-- The exchange with a module has ended: the next polled module is addressed, unless polling has stopped (R114, R118). -/
def State.endExchange (s : State) (sd : Side) (i : ModuleId) : State :=
  match (s.gate sd).addressing with
  | some _ => s.pollFrom sd i.following
  | none => s

/-! ### Gate changes -/

/-- What every change of gate state does (R118): the new gate stands, a downlink in flight is answered GATE_CLOSED when OPEN is
left, GATE is raised, STATUS is posted and the display is told. -/
def State.gateChange (s : State) (sd : Side) (g : GateCtl) (cause : GateCause) : State :=
  let old := (s.gate sd).state
  let s := s.setGate sd g
  let s := if old = .opened then s.downlinkResult sd .gateClosed else s
  ((s.raise .gate sd.number (.gate g.state cause) (.gateState old)).postStatus).recompose sd

/-- The domain is powered on (R119): the divisor and KEYPAD_FITTED are taken, every configured module is AWAITING, the receiver
is in RESYNC, the start timer runs, and the first poll cycle may begin. -/
def State.powerUp (s : State) (sd : Side) (g : GateCtl) : GateCtl :=
  { g with
    power := true
    divisor := s.cfg.divisor
    card := Module.awaiting true
    keypad := Module.awaiting (s.cfg.keypadFitted.get sd)
    receiver := .resync
    startT := some (s.now + seconds s.cfg.readerStartTimeout)
    offT := none
    cycleAt := none
    pollDue := none
    addressing := none }

/-- The domain is switched off: polling stops, timers stop, a frame being received is discarded (R118, R121). -/
def GateCtl.powerDown (g : GateCtl) : GateCtl :=
  { g with power := false, startT := none, offT := none, cycleAt := none, pollDue := none,
           addressing := none, receiver := .resync }

/-- The gate enters STARTING (R119). -/
def State.gateStart (s : State) (sd : Side) (cause : GateCause) : State :=
  let g := s.gate sd
  s.gateChange sd { s.powerUp sd g with state := .starting, trip := none, restart := none } cause

/-- The gate enters OFF (R125). -/
def State.gateOff (s : State) (sd : Side) : State :=
  let g := s.gate sd
  s.gateChange sd { g.powerDown with state := .off, trip := none, restart := none } .modeClaim

/-- The gate enters TRIPPED (R119 to R122). -/
def State.gateTrip (s : State) (sd : Side) (r : TripReason) : State :=
  let g := s.gate sd
  s.gateChange sd { g.powerDown with state := .tripped, trip := some r, restart := none } (.trip r)

/-- The gate enters RESTARTING (R120, R121, R124): an automatic restart sets the restart-used flag. -/
def State.gateRestart (s : State) (sd : Side) (o : RestartOrigin) : State :=
  let g := s.gate sd
  s.gateChange sd { g.powerDown with
    state := .restarting, restart := some (o, .offTime), offT := some (s.now + seconds 2)
    restartUsed := g.restartUsed || decide (o = .automatic) }
    (match o with | .automatic => .automatic | .ordered => .ordered)

/-- The gate enters OPEN (R119). -/
def State.gateOpen (s : State) (sd : Side) : State :=
  s.gateChange sd { s.gate sd with state := .opened, restart := none } .hello

/-- A mode claim takes a gate in STARTING, OPEN or RESTARTING to OFF; TRIPPED and OFF stay (R125). -/
def State.gateClaim (s : State) (sd : Side) : State :=
  match (s.gate sd).state with
  | .starting => s.gateOff sd
  | .opened => s.gateOff sd
  | .restarting => s.gateOff sd
  | .off => s
  | .tripped => s

/-- A silent module: a first silence restarts the gate automatically, a second trips it (R120). So it does in the AWAIT phase
of an ORDERED restart with the flag clear, where R121 and the state table speak only of a trip: the gate restarts, from
RESTARTING to RESTARTING (notes/assumptions/36.md). -/
def State.gateSilent (s : State) (sd : Side) : State :=
  if (s.gate sd).restartUsed then s.gateTrip sd .silent else s.gateRestart sd .automatic

/-- Tamper (R122): a gate that is not TRIPPED trips, and a TAMPER event is raised in either case. -/
def State.gateTamper (s : State) (sd : Side) (source : Nat) : State :=
  let old := (s.gate sd).state
  let s := if old = .tripped then s else s.gateTrip sd .tamper
  s.raise .tamper sd.number (.num source) (.gateState old)

/-! ### HELLO and admission -/

/-- The group of a tag: its upper six bits (R110). -/
def tagGroup (tag : BitVec 16) : BitVec 16 := tag >>> 10

/-- The scope of a tag under a side's keys; a key of zero matches nothing (R117). -/
def scopeOf (keys : Vector (BitVec 16) 4) (tag : BitVec 16) : Scope :=
  if keys.toList.any fun k => decide (k ≠ 0 ∧ k = tag) then .unit
  else if keys.toList.any fun k => decide (k ≠ 0 ∧ tagGroup k = tagGroup tag) then .group
  else .other

/-- The outcome of a HELLO (R117, the table of standings). -/
def helloOutcome (mode : AdmissionMode) (sc : Scope) : HelloOutcome :=
  match mode, sc with
  | .openAll, _ => .admitted
  | .check, .other => .shut
  | .checkRefer, .other => .referred
  | _, _ => .admitted

/-- A byte of a HELLO payload; a payload that is not three bytes long leaves it open. -/
def helloAt (payload : List Byte) (pos : Nat) : Byte :=
  if payload.length = 3 then payload.getD pos 0 else Config.helloByte payload pos

/-- The tag a HELLO payload carries, high byte first (R112). -/
def helloTag (payload : List Byte) : BitVec 16 := helloAt payload 0 ++ helloAt payload 1

/-- A module record after its HELLO (R117). A module that is SHUT has no standing: R110 and the table give it neither ADMITTED
nor REFERRED (notes/assumptions/36.md). -/
def Module.hello (m : Module) (tag : BitVec 16) (version : Byte) (sc : Scope) (o : HelloOutcome) (toggle : Bool) :
    Module :=
  { m with
    status := some (match o with | .shut => .shut | _ => .active)
    tag := some tag
    version := some version
    scope := some sc
    standing := match o with | .admitted => some .admitted | .referred => some .referred | .shut => none
    missed := 0
    lastToggle := some (toggle, .taken)
    downToggle := false
    flag := .ack }

/-- A card HELLO that leaves the module ACTIVE is successful, and clears the restart-used flag, while the gate is STARTING or
OPEN, or RESTARTING with origin ORDERED (R120). -/
def GateCtl.helloClears (g : GateCtl) : Bool :=
  match g.state, g.restart with
  | .starting, _ => true
  | .opened, _ => true
  | .restarting, some (.ordered, _) => true
  | _, _ => false

/-- What the gate does after a HELLO (R117, R119 to R121): a card module made ACTIVE opens a gate that is coming up, and a card
module shut while the gate is OPEN trips it. -/
def State.afterHello (s : State) (sd : Side) (i : ModuleId) (o : HelloOutcome) : State :=
  match i with
  | .keypad => s
  | .card =>
    let g := s.gate sd
    match o with
    | .shut => if g.state = .opened then s.gateTrip sd .notAdmitted else s
    | _ =>
      let s := if g.helloClears then s.setGate sd { g with restartUsed := false } else s
      match g.state with
      | .starting => s.gateOpen sd
      | .restarting => s.gateOpen sd
      | _ => s

/-- A HELLO is taken (R117). -/
def State.takeHello (s : State) (sd : Side) (i : ModuleId) (f : Frame) : State :=
  let g := s.gate sd
  let tag := helloTag f.payload
  let version := helloAt f.payload 2
  let sc := scopeOf g.admission.keys tag
  let o := helloOutcome (s.cfg.admissionMode.get sd) sc
  let s := s.setGate sd (g.setMod i ((g.mod i).hello tag version sc o f.control.toggle))
  let s := s.raise .moduleAdmitted sd.number (.hello i.addr sc o) (.tagVersion tag version)
  s.afterHello sd i o

/-- The scope a module's frames are judged by: its recorded scope, OTHER before a HELLO (R127). -/
def Module.judgedScope (m : Module) : Scope := m.scope.getD .other

/-- A new uplink frame is taken into the queue (R116, R128). -/
def State.enqueue (s : State) (sd : Side) (i : ModuleId) (f : Frame) (unadmitted : Bool) : State :=
  let g := s.gate sd
  let m := g.mod i
  if g.queue.length ≥ 4 then s.setGate sd (g.setMod i { m with flag := .busy })
  else
    let e : UplinkEntry :=
      { mod := i, tag := m.tag, cls := f.control.cls, unadmitted := unadmitted, payload := f.payload,
        arrival := s.capture }
    let g' := g.setMod i { m with lastToggle := some (f.control.toggle, .taken), flag := .ack }
    (s.setGate sd { g' with queue := g.queue ++ [e] }).uplinkFlow sd

/-- A new uplink frame refused by admission is dropped with REJECT and FRAME_REFUSED is raised (R116, R127). -/
def State.refuseFrame (s : State) (sd : Side) (i : ModuleId) (f : Frame) : State :=
  let g := s.gate sd
  let m := g.mod i
  (s.setGate sd (g.setMod i { m with lastToggle := some (f.control.toggle, .refused), flag := .reject })).raise
    .frameRefused sd.number (.frame i.addr f.control.cls) (.scope m.judgedScope)

/-- An uplink frame from an ACTIVE module (R116, R127): a resend is discarded with the flag of its judgement, a new frame is
judged by the side's ADMISSION_MODE and the class set of the module's scope. -/
def State.takeUplink (s : State) (sd : Side) (i : ModuleId) (f : Frame) : State :=
  let g := s.gate sd
  let m := g.mod i
  let fresh :=
    if (g.admission.up.get m.judgedScope).allows f.control.cls then s.enqueue sd i f false
    else
      match s.cfg.admissionMode.get sd with
      | .openAll => s.enqueue sd i f false
      | .check => s.refuseFrame sd i f
      | .checkRefer => s.enqueue sd i f true
  match m.lastToggle with
  | some (t, j) =>
    if t = f.control.toggle then
      s.setGate sd (g.setMod i { m with flag := match j with | .taken => .ack | .refused => .reject })
    else fresh
  | none => fresh

/-! ### Answers -/

/-- A missed answer counts toward an ACTIVE module's silence (R115, R120); a miss of an AWAITING module is not counted. -/
def State.countMiss (s : State) (sd : Side) (i : ModuleId) : State :=
  let g := s.gate sd
  let m := g.mod i
  if m.status = some .active then
    let s := s.setGate sd (g.setMod i { m with missed := m.missed + 1 })
    if m.missed + 1 ≥ 3 then s.gateSilent sd else s
  else s

/-- A send of the downlink that was not acknowledged: NO_ANSWER once the send count exceeds DOWNLINK_RETRIES (R130). -/
def State.unacknowledged (s : State) (sd : Side) : State :=
  match (s.gate sd).downlink with
  | some d => if d.sends > s.cfg.downlinkRetries then s.downlinkResult sd .noAnswer else s
  | none => s

/-- The module being addressed has missed its answer (R113 to R115, R130): a downlink's result comes first, then silence. -/
def State.missAnswer (s : State) (sd : Side) (a : Addressing) : State :=
  let s := if a.isDownlink then s.unacknowledged sd else s
  (s.countMiss sd a.mod).endExchange sd a.mod

/-- BUSY in answer to a downlink (R130). -/
def State.downlinkBusy (s : State) (sd : Side) : State :=
  let g := s.gate sd
  match g.downlink with
  | some d =>
    let s := s.setGate sd { g with downlink := some { d with busies := d.busies + 1 } }
    if d.busies + 1 ≥ 10 then s.downlinkResult sd .moduleBusy else s
  | none => s

/-- A good answer taken by its class and the module's status (R115). -/
def State.takeByClass (s : State) (sd : Side) (i : ModuleId) (f : Frame) : State :=
  let m := (s.gate sd).mod i
  match f.control.cls, m.status with
  | .hello, _ => s.takeHello sd i f
  | .tamper, _ => s.gateTamper sd i.addr
  | .card, some .active => s.takeUplink sd i f
  | .entry, some .active => s.takeUplink sd i f
  | .payload, some .active => s.takeUplink sd i f
  | _, _ => s

/-- A good answer from the module being addressed (R115, R130): one to a downlink that is neither ACK, BUSY nor HELLO is taken
for what it is, and then counts as an unacknowledged send. -/
def State.goodAnswer (s : State) (sd : Side) (a : Addressing) (f : Frame) : State :=
  let g := s.gate sd
  let m := g.mod a.mod
  let s := if m.status = some .active then s.setGate sd (g.setMod a.mod { m with missed := 0 }) else s
  let s :=
    if a.isDownlink then
      match f.control.cls with
      | .ack => s.downlinkResult sd .done
      | .busy => s.downlinkBusy sd
      | .hello => (s.downlinkResult sd .noAnswer).takeByClass sd a.mod f
      | _ => (s.takeByClass sd a.mod f).unacknowledged sd
    else s.takeByClass sd a.mod f
  s.endExchange sd a.mod

/-- The awaited module: while `addressing` is present and the receiver is not in RESYNC, an answer may be assembled. -/
def GateCtl.awaited (g : GateCtl) : Option Addressing :=
  if g.power then g.addressing else none

/-! ### Resets -/

/-- A gate after power-on or host reset (R131): TRIPPED stays if the recovered slot holds it TRIPPED, otherwise OFF. -/
def gateAtReset (keypad : Bool) (trip : Option TripReason) (a : AdmissionSide) (divisor : Nat) : GateCtl :=
  { GateCtl.reset with
    state := if trip.isSome then .tripped else .off
    trip := trip
    keypad := Module.awaiting keypad
    admission := a
    divisor := divisor }

/-- A side's gate takes its reset values (R131). One that changes its state by that raises GATE (R118). -/
def State.gateToReset (s : State) (sd : Side) (g : GateCtl) : State :=
  if g.state = (s.gate sd).state then s.setGate sd g else s.gateChange sd g .reset

end Sys2Proof.Machine
end

