-- ==== Sys2Proof/Machine/Displays.lean ====
section
/-!
DEFINITION. The Display Controller's own operations (05): composing a frame (R93 to R96), transfers (R91), the beginning of
zero checks and lamp tests (R100 to R102), FAULT (R103), the supply and going dark (R104 to R106).
-/
namespace Sys2Proof.Machine

/-! ### Frames -/

/-- The pattern frame with every bit 1. -/
def allOn : List Byte := List.replicate 54 0xFF#8

/-- The pattern frame with every bit 0. -/
def allOff : List Byte := List.replicate 54 0x00#8

/-- A figure of `width` digits with `decimals` decimals, its leading zeros blanked down to the digit before the decimal point
(05, The segment chains). The most significant digit has the lowest byte index, which no rule says
(notes/assumptions/43.md). -/
def figure (width decimals value : Nat) : List Byte :=
  (List.range width).reverse.map fun i =>
    if i ≤ decimals ∨ 10 ^ i ≤ value then Config.digitByte (value / 10 ^ i % 10) (i == decimals) else 0

/-- A nozzle's price pole (R94): blank where the map entry is none. -/
def pole (p : PriceTable) (sd : Side) (n : Fin 4) : List Byte :=
  match (p.maps.get sd).get n with
  | some g => figure 5 3 (p.active.get g)
  | none => List.replicate 5 0

/-- The two bytes of a character; a blank is dark. -/
def charPair (c : Byte) : List Byte :=
  if c = 0x20#8 then [0, 0] else [(Config.charBytes c).1, (Config.charBytes c).2]

/-- Eight characters from the left, filled out with blanks (R96), in ASCII (notes/assumptions/49.md). -/
def eight (text : List Byte) : List Byte := (text ++ List.replicate 8 0x20#8).take 8

/-- STOPPED -/
def textStopped : List Byte := [0x53#8, 0x54#8, 0x4F#8, 0x50#8, 0x50#8, 0x45#8, 0x44#8]
/-- NO PUMP -/
def textNoPump : List Byte := [0x4E#8, 0x4F#8, 0x20#8, 0x50#8, 0x55#8, 0x4D#8, 0x50#8]
/-- CLOSED -/
def textClosed : List Byte := [0x43#8, 0x4C#8, 0x4F#8, 0x53#8, 0x45#8, 0x44#8]
/-- OPENING -/
def textOpening : List Byte := [0x4F#8, 0x50#8, 0x45#8, 0x4E#8, 0x49#8, 0x4E#8, 0x47#8]
/-- CAL -/
def textCal : List Byte := [0x43#8, 0x41#8, 0x4C#8]

/-- The condition of the part message CLOSED (R96). -/
def showsClosed (m : Mode) (st : SideState) : Bool :=
  match m with
  | .closed => true
  | .closing => !st.holdsSale
  | _ => false

/-- The text of the message field, by the precedence of R96. -/
def State.messageText (s : State) (sd : Side) : List Byte :=
  let x := s.side sd
  if x.state = .suspended then textStopped
  else if x.noPumpTest || x.noPumpEnd then textNoPump
  else if x.waiting then Config.priceChgText.toList
  else if showsClosed s.mode.mode x.state then textClosed
  else if s.mode.mode = .opening then textOpening
  else if s.journal.switchClosed then textCal
  else (s.disp sd).hostText

/-- The lamps of a side (R73, R95), in the order of the lamp byte: AUTHORIZED, FLOWING, STOPPED, CALL, CARD, PAY_INSIDE,
NOZZLE, PRICE. -/
def State.lamps (s : State) (sd : Side) : Vector Bool 8 :=
  let x := s.side sd
  let card := decide ((s.gate sd).state = .opened)
  #v[x.state.holdsSale, x.state.delivers, decide (x.state = .suspended), decide (x.state = .calling),
    card, !card && decide (s.mode.mode = .openMode), x.nozzleLamp, x.waiting]

/-- The bit of the lamp byte that a lamp has, by its place among the eight (05, The segment chains). -/
def lampBit (i : Fin 8) : Fin 8 := if Config.firstLampIsBit0 then i else 7 - i

/-- The lamp byte: one bit to each lamp, 1 while it is lit (R95; 05, The segment chains and Composing a frame). -/
def lampByte (lamps : Vector Bool 8) : Byte :=
  (List.finRange 8).foldl (fun b i => b ||| ((if lamps.get i then 1#8 else 0#8) <<< (lampBit i).val)) 0#8

/-- A composed frame (R93 to R96): money, volume, unit price, four price poles, message, lamps. The message's leftmost character
stands at bytes 37 and 38, which no rule says (notes/assumptions/43.md). -/
def State.composeFrame (s : State) (sd : Side) : List Byte :=
  let last := (s.side sd).last
  figure 6 2 last.money ++ figure 6 2 last.volume ++ figure 5 3 last.price
    ++ pole s.prices sd 0 ++ pole s.prices sd 1 ++ pole s.prices sd 2 ++ pole s.prices sd 3
    ++ (eight (s.messageText sd)).flatMap charPair ++ [lampByte (s.lamps sd)]

/-- The index of the first byte at which two frames differ (R103); none when they are equal. The first is the lowest index,
which is the last to arrive on the chain (notes/assumptions/36.md). -/
def firstDiff : List Byte → List Byte → Nat → Option Nat
  | [], [], _ => none
  | x :: xs, y :: ys, i => if x = y then firstDiff xs ys (i + 1) else some i
  | _, _, i => some i

/-! ### Transfers -/

/-- A transfer begins (R91). -/
def State.startTransfer (s : State) (sd : Side) (frame : List Byte) (purpose : Purpose) : State :=
  s.setDisp sd { s.disp sd with transfer := some ⟨frame, purpose⟩, transferAt := some s.capture }

/-- A transfer of a composed frame begins: the frame is composed afresh, both flags are cleared and the time of composition is
recorded (R98, R100, R101). -/
def State.startComposed (s : State) (sd : Side) (purpose : Purpose) : State :=
  let frame := s.composeFrame sd
  (s.setDisp sd { s.disp sd with
    composed := some frame, composedAt := some s.capture, recompose := false, figures := false }).startTransfer
    sd frame purpose

/-- Put a lamp test at a step. -/
def DispSide.lampAt (d : DispSide) (step : LampStep) : DispSide :=
  { d with lamp := d.lamp.map fun l => { l with step := step } }

/-- Put a zero check at a step. -/
def DispSide.zeroAt (d : DispSide) (step : ZeroStep) : DispSide :=
  { d with zero := d.zero.map fun z => { z with step := step } }

/-- With no transfer in progress, the transfer that waits begins: the blanking of a side going dark, the first transfer of a
lamp test, or a zero check's Z1 on a LIT side (R98, R100 to R104). -/
def State.nextTransfer (s : State) (sd : Side) : State :=
  let d := s.disp sd
  if d.transfer.isSome then s
  else if d.goingDark then s.startTransfer sd allOff .blank
  else
    match d.lamp with
    | some l =>
      match l.step with
      | .blankWait => (s.setDisp sd (d.lampAt .blanking)).startTransfer sd allOff .blank
      | .wait => (s.setDisp sd (d.lampAt .t1)).startTransfer sd allOn .t1
      | _ => s
    | none =>
      match d.zero with
      | some z =>
        if z.step = .wait ∧ d.state = .lit then (s.setDisp sd (d.zeroAt .z1)).startTransfer sd allOn .z1 else s
      | none => s

/-! ### Checks -/

/-- A capture asks for a zero check for its sale on a side that is not in FAULT (R100). -/
def State.requestZero (s : State) (sd : Side) (sale : Nat) : State :=
  (s.setDisp sd { s.disp sd with zero := some ⟨.wait, sale⟩ }).nextTransfer sd

/-- A zero check is abandoned at once, in whatever step it stands (R100). -/
def State.abandonZero (s : State) (sd : Side) : State :=
  let d := s.disp sd
  match d.zero with
  | some z => s.setDisp sd { d with zero := none, holdT := if z.step = .hold then none else d.holdT }
  | none => s

/-- A lamp test begins on a side that is not TESTING (R101, R102, R168): on a LIT side after a blanking transfer, otherwise at
once, the side entering TESTING. -/
def State.beginLamp (s : State) (sd : Side) (order : Bool) : State :=
  let d := s.disp sd
  match d.state with
  | .lit =>
    match d.lamp with
    | some l => s.setDisp sd { d with lamp := some { l with order := l.order || order } }
    | none => (s.setDisp sd { d with lamp := some ⟨.blankWait, false, order⟩ }).nextTransfer sd
  | .testing => s
  | .dark =>
    ((s.setDisp sd { d with state := .testing, lamp := some ⟨.wait, false, false⟩ }).postStatus).nextTransfer sd
  | .fault =>
    ((s.setDisp sd { d with state := .testing, lamp := some ⟨.wait, true, false⟩ }).postStatus).nextTransfer sd

/-! ### FAULT -/

/-- Entry of a side's display into FAULT (R103), steps 2 to 5. Step 1, the answers of a check or test in hand, and step 6, the
side's notice, are the caller's (Modes.lean, displayFails). A side that was going dark stays in FAULT and no longer goes dark
(notes/assumptions/52.md). -/
def State.displayFault (s : State) (sd : Side) (cause : DispCause) (index : Nat) : State :=
  let s := s.setDisp sd { s.disp sd with
    state := .fault, zero := none, lamp := none, holdT := none, mismatch := 0, recompose := false
    figures := false, goingDark := false }
  ((s.startTransfer sd allOff .blank).raise .displayFault sd.number (.dispCause cause) (.num index)).postStatus

/-! ### Supply and going dark -/

/-- The display supply is asked for at WAKE (R104): it goes on, each latched image becomes unknown as it does, and a running
dark timer stops. Asked for after the timer has expired, while sides still blank, it stays on: the sides enter DARK and no
report of it follows, of which R104 says nothing (notes/assumptions/44.md). -/
def State.supplyOn (s : State) : State :=
  let unknown := fun d : DispSide => if s.display.supply then d else { d with latched := none }
  { s with display := { s.display with
    supply := true, darkT := none, darkening := false, side := s.display.side.map unknown } }

/-- A side enters DARK (R104): unknown image, mismatch count 0, flags clear. -/
def DispSide.enterDark (d : DispSide) : DispSide :=
  { d with
    state := .dark, latched := none, mismatch := 0, recompose := false, figures := false, goingDark := false
    zero := none, lamp := none, holdT := none }

/-- DISPLAY_RETEST's folio, still held because the test has not begun, goes back with DONE when the test is abandoned
(R102; notes/assumptions/14.md). -/
def State.releaseRetest (s : State) (sd : Side) : State :=
  match (s.disp sd).lamp with
  | some l => if l.order then s.handOver Folio.siteOrder .done else s
  | none => s

/-- A side abandons a lamp test and will enter DARK after a blanking transfer (R104). -/
def State.darkenSide (s : State) (sd : Side) : State :=
  let s := s.releaseRetest sd
  (s.setDisp sd { s.disp sd with lamp := none, holdT := none, goingDark := true }).nextTransfer sd

/-- A TESTING side abandons its test when the displays are asked to go dark (R104); so does a LIT side whose opening lamp
test still waits for its blanking transfer (R171). A test that a DISPLAY_RETEST waits for, and that has not begun, is left to
run until the dark timer expires: R171 leaves open whether it is in progress (notes/assumptions/54.md). -/
def State.darkenTesting (s : State) (sd : Side) : State :=
  let d := s.disp sd
  match d.state, d.lamp with
  | .testing, _ => s.darkenSide sd
  | .lit, some l => if l.order then s else s.setDisp sd { d with lamp := none }
  | _, _ => s

/-- At the dark timer's expiry each LIT side, and a side whose retest came meanwhile, goes dark (R104). -/
def State.darkenAtExpiry (s : State) (sd : Side) : State :=
  match (s.disp sd).state with
  | .lit => s.darkenSide sd
  | .testing => s.darkenSide sd
  | _ => s

/-- The dark timer expires (R104): the sides blank, and the supply goes off once they have (Modes.lean, darkReport). -/
def State.darkExpire (s : State) : State :=
  let s := { s with display := { s.display with darkT := none, darkening := true } }
  (s.darkenAtExpiry .a).darkenAtExpiry .b

/-- The displays are asked to go dark (R104): TESTING sides abandon their tests, and the dark timer starts, unless it is
already running; with DARK_DELAY 0 it expires at once. -/
def State.goDark (s : State) : State :=
  let s := (s.darkenTesting .a).darkenTesting .b
  match s.display.darkT with
  | some _ => s
  | none =>
    if s.cfg.darkDelay = 0 then s.darkExpire
    else { s with display := { s.display with darkT := some (s.now + seconds s.cfg.darkDelay) } }

/-- A display at night entry (R105, R108). -/
def DispSide.night (d : DispSide) : DispSide :=
  { d with
    state := .dark, composed := none, latched := none, mismatch := 0, recompose := false, figures := false
    zero := none, lamp := none, holdT := none, goingDark := false }

/-- A display as the mode enters HOLDUP (R106): a transfer in progress is finished, and nothing further begins. -/
def DispSide.holdup (d : DispSide) : DispSide := d.enterDark

/-- The Display Controller as the mode enters HOLDUP (R106). -/
def State.displaysHoldup (s : State) : State :=
  let s := (s.releaseRetest .a).releaseRetest .b
  { s with display := { s.display with
    side := s.display.side.map DispSide.holdup, supply := false, heater := false, darkT := none, warmT := none
    darkening := false } }

/-- A side's display at a host reset (R108): a transfer in progress cannot be interrupted (R91) and is finished, and the
times of last composition and transfer, to which R108 gives no value, are not touched (00_scope, Resets and their kin). -/
def DispSide.hostReset (d : DispSide) : DispSide :=
  { DispSide.reset with transfer := d.transfer, composedAt := d.composedAt, transferAt := d.transferAt }

/-- The Display Controller at a host reset (R108). -/
def State.displaysReset (s : State) : State :=
  { s with display := { Display.reset with side := s.display.side.map DispSide.hostReset } }

end Sys2Proof.Machine
end

