-- ==== Sys2Proof/Machine/Motors.lean ====
section
/-!
DEFINITION. The Pump Motor Controller (04): users, the Start Arbiter, starts, rundown, failure, the stop command and the
resets. A RUNNING report is noted with its receiver here; what the receiver then does is told by its own block
(Sides.lean, Modes.lean).
-/
namespace Sys2Proof.Machine

/-- A user set with a member added (R77). -/
def Users.add (u : Users) : User → Users
  | .side .a => { u with a := true }
  | .side .b => { u with b := true }
  | .prime => { u with prime := true }

/-- A user set with a member removed (R77). -/
def Users.remove (u : Users) : User → Users
  | .side .a => { u with a := false }
  | .side .b => { u with b := false }
  | .prime => { u with prime := false }

/-- Membership of a user set. -/
def Users.has (u : Users) : User → Bool
  | .side .a => u.a
  | .side .b => u.b
  | .prime => u.prime

/-- The user set has a member. -/
def Users.any (u : Users) : Bool := u.a || u.b || u.prime

/-- A RUNNING report reaches a user (R78): a side in STARTING no longer awaits the product; PRIME's product is settled. -/
def State.reportRunning (s : State) (u : User) (p : Product) : State :=
  match u with
  | .side sd =>
    let x := s.side sd
    if x.state = .starting then s.setSide sd { x with needMotors := x.needMotors.set p false } else s
  | .prime =>
    if s.mode.stage = some .prime then
      { s with mode := { s.mode with primeWait := s.mode.primeWait.set p false } }
    else s

/-- Every member of a motor's user set receives its RUNNING report (R78). -/
def State.reportAll (s : State) (u : Users) (p : Product) : State :=
  let s := if u.a then s.reportRunning (.side .a) p else s
  let s := if u.b then s.reportRunning (.side .b) p else s
  if u.prime then s.reportRunning .prime p else s

/-- A motor whose contactor opens now: the present time becomes its time of last stop, from which RESTART_GAP counts, and
its pressure, loss and rundown timers stop (R76, R83, R85, R87). -/
def State.opened (s : State) (m : Motor) : Motor :=
  { m with
    contactor := false, lastStop := s.now, restUntil := s.now + seconds s.cfg.restartGap
    pressureT := none, lossT := none, rundownT := none }

/-- A turning motor left without users runs down for IDLE_RUN, or stops at once with IDLE_RUN 0 (R82, R83). -/
def State.rundown (s : State) (p : Product) (m : Motor) : State :=
  let m' :=
    if s.cfg.idleRun = 0 then { s.opened m with state := .stopped }
    else { m with state := .rundown, pressureT := none, rundownT := some (s.now + seconds s.cfg.idleRun) }
  (s.setMotor p m').postStatus

/-- Pressure-ok confirms a start (R82): MOTOR_RUNNING is raised; with users the motor runs and reports, without it runs
down. The time from grant to pressure is in whole milliseconds, rounded down: R89 gives no rounding
(notes/assumptions/38.md). -/
def State.confirmStart (s : State) (p : Product) : State :=
  let m := s.motor p
  let ms := match s.motors.lastGrant with | some (t, _) => (s.now - t) / 1000 | none => 0
  let s := s.raise .motorRunning p.number (.num ms) (.users m.users)
  if m.users.any then
    ((s.setMotor p { m with state := .running, pressureT := none }).reportAll m.users p).postStatus
  else s.rundown p m

/-- Some motor is STARTING. -/
def State.someStarting (s : State) : Bool :=
  Product.all.any fun p => decide ((s.motor p).state = .starting)

/-- MOTOR_GAP has passed since the last grant, or there has been none (R80). -/
def State.gapPassed (s : State) : Bool :=
  match s.motors.lastGrant with
  | some (_, until_) => decide (until_ ≤ s.now)
  | none => true

/-- A grant of the start slot (R80, R82): the product leaves the FIFO, the motor closes its contactor and enters STARTING
with its pressure timer running, and a line already under pressure confirms the start at once. -/
def State.grant (s : State) (p : Product) (rest : List Product) : State :=
  let s := { s with motors := { s.motors with
    fifo := rest, lastGrant := some (s.now, s.now + seconds s.cfg.motorGap) } }
  let s := (s.setMotor p { s.motor p with
    state := .starting, contactor := true, pressureT := some (s.now + seconds s.cfg.pressureTimeout) }).postStatus
  if s.pins.pressureOk.get p then s.confirmStart p else s

/-- The arbiter tests its condition and grants the slot to the head when all three parts hold (R80). A grant confirmed at
once needs no further test: MOTOR_GAP, at least 1 s, has then not passed. -/
def State.arbiterTest (s : State) : State :=
  match s.motors.fifo with
  | [] => s
  | p :: rest =>
    if !s.someStarting && s.gapPassed && decide ((s.motor p).restUntil ≤ s.now) then s.grant p rest else s

/-- A motor enters WAITING and its product joins the tail of the FIFO, once (R79); the arbiter tests its condition. -/
def State.joinFifo (s : State) (p : Product) : State :=
  let s := s.setMotor p { s.motor p with state := .waiting }
  let s := if p ∈ s.motors.fifo then s else s.setFifo (s.motors.fifo ++ [p])
  s.postStatus.arbiterTest

/-- A product leaves the FIFO, and those behind it keep their order (R81). -/
def State.dropFifo (s : State) (p : Product) : State :=
  s.setFifo (s.motors.fifo.filter fun q => decide (q ≠ p))

/-- After products have left the FIFO, the arbiter tests its condition where the head is no longer the one before (R81). -/
def State.newHeadTest (s : State) (before : Option Product) : State :=
  if s.motors.fifo.head? = before then s else s.arbiterTest

/-- A user registers (R77): a STOPPED motor goes to WAITING (R79), a motor in RUNDOWN returns to RUNNING (R83), and a motor
already RUNNING reports at once (R78). -/
def State.register (s : State) (u : User) (p : Product) : State :=
  let m := s.motor p
  let m' := { m with users := m.users.add u }
  match m.state with
  | .stopped => (s.setMotor p m').joinFifo p
  | .rundown =>
    ((s.setMotor p { m' with state := .running, rundownT := none }).reportRunning u p).postStatus
  | .running => (s.setMotor p m').reportRunning u p
  | .waiting => s.setMotor p m'
  | .starting => s.setMotor p m'
  | .failed => s.setMotor p m'

/-- A user releases (R77): a release that leaves the set empty sends a WAITING motor back to STOPPED, its product out of the
FIFO (R81), and a RUNNING motor to RUNDOWN (R83); a STARTING motor goes on starting, and a FAILED motor keeps its state. -/
def State.release (s : State) (u : User) (p : Product) : State :=
  let m := s.motor p
  if m.users.has u then
    let m' := { m with users := m.users.remove u }
    let s := s.setMotor p m'
    if m'.users.any then s
    else
      match m.state with
      | .waiting => ((s.setMotor p { m' with state := .stopped }).postStatus).dropFifo p
      | .running => s.rundown p m'
      | .stopped => s
      | .starting => s
      | .rundown => s
      | .failed => s
  else s

/-- A user releases every product, LOW before HIGH before AUX. The releases of one step are all made before the arbiter tests
its condition for the head they leave, so none of the released products is granted on the way (R81, R169, R171;
notes/assumptions/37.md). -/
def State.releaseAll (s : State) (u : User) : State :=
  (((s.release u .low).release u .high).release u .aux).newHeadTest s.motors.fifo.head?

/-- A motor fails (R85), steps 1 to 3: its contactor opens, its timers stop, it enters FAILED with its fail hold running, and
MOTOR_FAILED is raised. The notices of step 4 are the callers'. -/
def State.failMotor (s : State) (p : Product) (cause : MotorCause) : State :=
  let m := s.motor p
  let s := s.setMotor p { s.opened m with
    state := .failed, failHoldT := some (s.now + seconds s.cfg.failHold) }
  (s.raise .motorFailed p.number (.motorCause cause) (.users m.users)).postStatus

/-- A FAILED motor enters STOPPED and its fail-hold timer stops (R86). -/
def State.unfailMotor (s : State) (p : Product) : State :=
  (s.setMotor p { s.motor p with state := .stopped, failHoldT := none }).postStatus

/-- After the left-FAILED notice, a motor that is STOPPED with users enters WAITING (R86, R79). -/
def State.rejoin (s : State) (p : Product) : State :=
  if (s.motor p).state = .stopped ∧ (s.motor p).users.any then s.joinFifo p else s

/-- The closing stop command (R87). -/
def State.stopMotor (s : State) (p : Product) : State :=
  let m := s.motor p
  match m.state with
  | .waiting =>
    (((s.setMotor p { m with users := Users.none, state := .stopped }).postStatus).dropFifo p).newHeadTest
      s.motors.fifo.head?
  | .starting =>
    ((s.setMotor p { s.opened m with users := Users.none, state := .stopped }).postStatus).arbiterTest
  | .running => (s.setMotor p { s.opened m with users := Users.none, state := .stopped }).postStatus
  | .rundown => (s.setMotor p { s.opened m with users := Users.none, state := .stopped }).postStatus
  | .failed => s.setMotor p { m with users := Users.none }
  | .stopped => s.setMotor p { m with users := Users.none }

/-- A motor on the power-fail warning (R88): a closed contactor opens, recording its time of last stop; every timer stops. -/
def State.heldUp (s : State) (m : Motor) : Motor :=
  { (if m.contactor then s.opened m else m) with
    state := .stopped, users := Users.none, pressureT := none, lossT := none, rundownT := none, failHoldT := none }

/-- The Pump Motor Controller on the power-fail warning (R88). -/
def State.motorsHoldup (s : State) : State :=
  { s with motors := { motor := s.motors.motor.map s.heldUp, fifo := [], lastGrant := none } }

/-- A motor after power-on or host reset (R90): the moment of the reset is its time of last stop. -/
def State.motorAtReset (s : State) : Motor :=
  { Motor.reset with lastStop := s.now, restUntil := s.now + seconds s.cfg.restartGap }

/-- The Pump Motor Controller after power-on or host reset (R90). -/
def State.motorsReset (s : State) : State :=
  { s with motors := { motor := PerProduct.same s.motorAtReset, fifo := [], lastGrant := none } }

/-- Night entry: a FAILED motor becomes STOPPED, its fail-hold timer stopped (R90). -/
def Motor.night (m : Motor) : Motor :=
  { m with
    state := if m.state = .failed then .stopped else m.state
    users := Users.none, pressureT := none, lossT := none, rundownT := none, failHoldT := none }

end Sys2Proof.Machine
end

