-- ==== Sys2Proof/Machine/Journal.lean ====
section
/-!
DEFINITION. The Metrology Journal's own operations: collecting a snapshot (R148), requests (R149, R150), the beginning of
a write (R150) and the periodic measure (R149).
-/
namespace Sys2Proof.Machine

/-- The snapshot of the state as it stands (R148): the unreported records carry the in-folio record at their head. -/
def State.collect (s : State) : Snapshot :=
  let unreported := fun sd => (s.records sd).inFolio.toList ++ (s.records sd).unreported
  let snapSale := fun sd => (s.side sd).sale.map fun o => (⟨o, s.fines sd⟩ : SnapSale)
  { clock := s.mode.clock
    totals := s.store.totals
    watches := s.store.watches
    counter := s.store.counter
    pending := ⟨(s.records .a).pending.map (·.record), (s.records .b).pending.map (·.record)⟩
    unreported := ⟨unreported .a, unreported .b⟩
    sales := ⟨snapSale .a, snapSale .b⟩
    faults := s.pfe.channels.map fun t => t.map fun c => c.fault
    grades := s.prices.grades
    maps := s.prices.maps
    active := s.prices.active
    staged := s.prices.staged
    schedule := s.mode.schedule
    admission := s.gates.map (·.admission)
    trips := s.gates.map fun g => if g.state = .tripped then g.trip else none
    config := s.exch.config
    master := s.journal.master
    metrology := s.journal.metrology }

/-- The snapshot with every pending record recorded in its own slot: it joins the tail of its side's unreported records with the
slot's number. So the final snapshot holds the records it records, from which a cold start recovers them as unreported (R135,
R146; notes/assumptions/41.md). -/
def Snapshot.recorded (q : Snapshot) (slot : Fin 16) : Snapshot :=
  let join := fun sd => q.unreported.get sd ++ (q.pending.get sd).map fun r => { r with slot := some slot }
  { q with pending := Both.same [], unreported := ⟨join .a, join .b⟩ }

/-- What the write that begins puts into its slot: the state as it stands (R148), the final snapshot with its records recorded
(R146). -/
def State.slotItems (s : State) : Snapshot :=
  if s.journal.phase = .finalWriting then s.collect.recorded s.journal.next else s.collect

/-- Mark every journal-pending record of a side with the write that begins (R135). -/
def Records.mark (r : Records) : Records :=
  { r with pending := r.pending.map fun e => { e with marked := true } }

/-- A party that waits for a write to begin is served by the one that begins. -/
def WriteWait.begin : WriteWait → WriteWait
  | .idle => .idle
  | _ => .inWrite

/-- A write begins (R150): it takes its sequence number and slot, collects the snapshot, marks the pending records, and
starts the periodic measure again (R149). It is JOURNAL_INIT's when that order waits for it (R158). -/
def State.beginWrite (s : State) : State :=
  let j := s.journal
  let w : Write :=
    { slot := j.next, seq := j.seq, snap := s.slotItems, forInit := decide (j.initWait ≠ .idle) }
  { s with
    journal := { j with
      inFlight := some w
      seq := succ32 j.seq
      request := false
      periodicSum := 0
      periodicT := j.periodicT.map fun _ => s.now + seconds 60
      calWait := j.calWait.begin
      initWait := j.initWait.begin
      closeWait := j.closeWait.begin }
    store := { s.store with records := s.store.records.map Records.mark } }

/-- Set the pending request. -/
def State.setRequest (s : State) : State := { s with journal := { s.journal with request := true } }

/-- A block asks for a snapshot (R149, R150): a write begins at once, unless one is in flight, JOURNAL_EMPTY is set, or a
recovery, reset snapshot or final snapshot is under way, which serve it; in HOLDUP, once the journal has reported, the
request is not taken (R151). -/
def State.requestSnapshot (s : State) : State :=
  match s.journal.phase with
  | .normal => if s.journal.inFlight.isSome || s.journal.empty then s.setRequest else s.beginWrite
  | .done => s
  | _ => s.setRequest

/-- The periodic timer runs while a side is FLOWING or SLOW (R149). -/
def State.periodicCheck (s : State) : State :=
  if (s.side .a).state.delivers || (s.side .b).state.delivers then
    match s.journal.periodicT with
    | some _ => s
    | none => { s with journal := { s.journal with periodicT := some (s.now + seconds 60) } }
  else { s with journal := { s.journal with periodicT := none } }

/-- The periodic measure's limit: 20 480 000 fine units (R149). -/
def periodicLimit : Nat := 20480000

/-- A counted cycle that goes to a sale adds its CF to the periodic sum, and asks for a snapshot when the sum first
reaches the limit (R149). -/
def State.periodicAdd (s : State) (cf : Nat) : State :=
  let old := s.journal.periodicSum
  let s := { s with journal := { s.journal with periodicSum := old + cf } }
  if old < periodicLimit ∧ periodicLimit ≤ old + cf then s.requestSnapshot else s

/-- The slot after one, round the ring (R147). -/
def slotAfter (i : Fin 16) : Fin 16 := i + 1

/-- The slot after a failed one; never the newest slot (R150). -/
def slotAfterFailed (i : Fin 16) (newest : Option (Fin 16)) : Fin 16 :=
  if newest = some (slotAfter i) then slotAfter (slotAfter i) else slotAfter i

/-- The metrology counter advanced by 1, or 1 if it was UNKNOWN (R157). At 2^32 - 1 it passes to 1, as the part's other
counters do: R147 gives its range and no rule for its end (notes/assumptions/39.md). -/
def advanceMetrology : Option Nat → Option Nat
  | some n => some (succ32 n)
  | none => some 1

end Sys2Proof.Machine
end

