-- ==== Sys2Proof/Machine/Store.lean ====
section
/-!
DEFINITION. The Sale Store's own operations: sale numbers (R133), taking a completed record (R134), totals (R139, R140),
watches (R142), recording (R135) and the hand-over of reports (R136).
-/
namespace Sys2Proof.Machine

/-- The running value of a watched total (R142). -/
def Totals.value (t : Totals) : TotalId → Nat
  | .meter m => PerMeter.get t.meter m
  | .volume g => t.volume.get g
  | .money g => t.money.get g

/-- One watch tested after its total has changed (R142): a total that passes from below the threshold to it or above
disarms the watch and raises a WATCH event. -/
def State.testWatch (s : State) (t : TotalId) (old new : Nat) (i : Fin 4) : State :=
  let w := s.store.watches.get i
  if w.armed ∧ w.object = t ∧ old < w.threshold ∧ w.threshold ≤ new then
    let s := { s with store := { s.store with watches := s.store.watches.set i.val { w with armed := false } } }
    (s.raise .watch (i.val + 1) (.total t) (.num (new % 2 ^ 32))).updateTotalsWatches
  else s

/-- The four watches tested after a total has changed (R142), in the order of their numbers, which R142 does not give
(notes/assumptions/37.md). -/
def State.testWatches (s : State) (t : TotalId) (old new : Nat) : State :=
  (((s.testWatch t old new 0).testWatch t old new 1).testWatch t old new 2).testWatch t old new 3

/-- Replace the totals. -/
def State.setTotals (s : State) (t : Totals) : State := { s with store := { s.store with totals := t } }

/-- A counted cycle adds its CF to the meter's total (R9), and the watches on it are tested. -/
def State.addMeterTotal (s : State) (m : Meter) (cf : Nat) : State :=
  let old := PerMeter.get s.store.totals.meter m
  let new := satAdd64 old cf
  (s.setTotals { s.store.totals with meter := PerMeter.set s.store.totals.meter m new }).testWatches (.meter m) old new

/-- A counted cycle that goes to no sale adds its CF to the meter's unattributed total (R9). -/
def State.addUnattributed (s : State) (m : Meter) (cf : Nat) : State :=
  s.setTotals { s.store.totals with
    unattributed := PerMeter.set s.store.totals.unattributed m
      (satAdd64 (PerMeter.get s.store.totals.unattributed m) cf) }

/-- A completed TEST record adds its per-meter fine volumes to the test totals (R140). -/
def addTest (t : PerMeter Nat) : List (Meter × Nat) → PerMeter Nat
  | [] => t
  | (m, f) :: rest => addTest (PerMeter.set t m (satAdd64 (PerMeter.get t m) f)) rest

/-- A completed non-TEST record with a captured grade adds to the grade's totals, and the watches on them are tested
(R134, R140), those on its volume before those on its money: no rule orders them (notes/assumptions/37.md). -/
def State.addGradeTotals (s : State) (g : Fin 6) (volume money : Nat) : State :=
  let t := s.store.totals
  let oldV := t.volume.get g
  let oldM := t.money.get g
  let newV := satAdd64 oldV volume
  let newM := satAdd64 oldM money
  let s := s.setTotals { t with
    volume := t.volume.set g.val newV
    money := t.money.set g.val newM
    count := t.count.set g.val (satAdd64 (t.count.get g) 1) }
  (s.testWatches (.volume g) oldV newV).testWatches (.money g) oldM newM

/-- The totals a completed record advances (R134 step 2, R140). -/
def State.countRecord (s : State) (r : SaleRecord) : State :=
  if r.test then s.setTotals { s.store.totals with test := addTest s.store.totals.test r.fines }
  else
    match r.grade with
    | some g => s.addGradeTotals g r.volume r.money
    | none => s

/-- The Sale Store takes a completed record (R134): it joins the side's pending set, the totals and watches follow, and a
snapshot is asked for. STATUS's counts follow with the gathered update. -/
def State.takeRecord (s : State) (r : SaleRecord) : State :=
  let q := s.records r.side
  let s := s.setRecords r.side { q with pending := q.pending ++ [⟨r, false⟩] }
  (s.countRecord r).requestSnapshot

/-- The next sale number is the counter's value (R133). -/
def State.nextNumber (s : State) : Nat := s.store.counter

/-- A sale number has been given: the counter advances (R133). -/
def State.advanceNumber (s : State) : State :=
  { s with store := { s.store with counter := succ32 s.store.counter } }

/-- A side's held records: pending, unreported and in-folio (R138). -/
def Records.held (r : Records) : Nat :=
  r.pending.length + r.unreported.length + (if r.inFolio.isSome then 1 else 0)

/-- REPORT is not handed over while READY is 0 or the mode is HOLDUP (R136). -/
def State.reportsFlow (s : State) : Bool := s.exch.ready && decide (s.mode.mode ≠ .holdup)

/-- The in-folio record is handed over when its folio is still part-held and hand-overs of REPORT may be made (R136,
R181): the record's host reference is written with result DONE. -/
def State.reportHandOver (s : State) (sd : Side) : State :=
  let f := Folio.report sd
  match (s.records sd).inFolio with
  | some r =>
    if (s.header f).holder = Holder.part ∧ s.reportsFlow then
      (s.setHeader f { s.header f with ref := r.hostRef }).handOver f .done
    else s
  | none => s

/-- The head of the unreported list goes into the part-held, empty REPORT folio, and is handed over when hand-overs may be
made (R136). -/
def State.reportFlow (s : State) (sd : Side) : State :=
  let f := Folio.report sd
  let q := s.records sd
  let s :=
    match q.inFolio, q.unreported with
    | none, r :: rest =>
      if (s.header f).holder = Holder.part then
        (s.setRecords sd { q with unreported := rest, inFolio := some r }).writeBody f (Config.reportBytes r)
      else s
    | _, _ => s
  s.reportHandOver sd

/-- The marked records of a side leave the pending set, take the slot's number and join the unreported list (R135). -/
def Records.recorded (r : Records) (slot : Fin 16) : Records :=
  { r with
    pending := r.pending.filter fun e => !e.marked
    unreported := r.unreported ++
      (r.pending.filter fun e => e.marked).map fun e => { e.record with slot := some slot } }

/-- A write's completion records the marked records of both sides (R135) and moves them on (R136). -/
def State.recordMarked (s : State) (slot : Fin 16) : State :=
  let s := { s with store := { s.store with records := s.store.records.map fun r => Records.recorded r slot } }
  (s.reportFlow .a).reportFlow .b

/-- Whether a write's completion records at least one sale record (R141). -/
def State.anyMarked (s : State) : Bool :=
  (s.records .a).pending.any (·.marked) || (s.records .b).pending.any (·.marked)

end Sys2Proof.Machine
end

