-- ==== Sys2Proof/Machine/Sides.lean ====
section
/-!
DEFINITION. The Side Controller's own operations (03): the valves (R53), the sale's volume and money (R36 to R38), entry to
ENDING (R65), the comparators (R54, R63), blend control (R57, R58), leaving STARTING (R52), and the completion of a sale
(R66 to R68). What the other blocks are then told is in Prices.lean and Modes.lean.
-/
namespace Sys2Proof.Machine

/-! ### Records -/

/-- A record brought up to the fine volume of its meters (R36 to R38), with its captured price and rule. -/
def SaleRecord.measure (r : SaleRecord) (price fine : Nat) : SaleRecord :=
  let v := volumeOf fine
  { r with
    volume := v
    money := moneyOf r.rounding price v
    saturated := r.saturated || decide (10240000000 ≤ fine) || decide (999999 < moneyRaw r.rounding price v)
    excess := excessOf fine }

/-- The final values of a sale (R66, R68): from the handed accumulators if it captured, and volume 0 and money 0 if not. -/
def Sale.final (o : Sale) (comp : Composition) (fines : List (Meter × Nat)) (clock : Clock) : SaleRecord :=
  match o.cap with
  | none => { o.record with endClock := some clock }
  | some c =>
    let r := o.record.measure c.price (fineSum fines)
    { r with
      fines := fines
      blend := if comp.trueBlend then some (highShare (fineOf fines .low) (fineOf fines .high)) else none
      overrun := if c.target < r.volume then some (r.volume - c.target) else none
      endClock := some clock }

/-- The composition of a captured sale's grade. -/
def State.compOf (s : State) (c : Captured) : Composition := (s.prices.grades.get c.grade).comp

/-- The composition of the grade a side's open sale has captured. -/
def State.saleComp (s : State) (sd : Side) : Option Composition :=
  (s.side sd).sale.bind fun o => o.cap.map fun c => s.compOf c

/-- The record is brought up to date from the accumulators, with the last sale and the figures on the display (R54). -/
def State.updateVolume (s : State) (sd : Side) : State :=
  let x := s.side sd
  match x.sale with
  | none => s
  | some o =>
    match o.cap with
    | none => s
    | some c =>
      let r := o.record.measure c.price (fineSum (s.fines sd))
      (s.setSide sd { x with
        sale := some { o with record := r }
        last := ⟨c.price, r.volume, r.money, r.number⟩ }).newFigures sd

/-! ### Valves -/

/-- The MAIN output of a product's path as blend control allows (R57). -/
def mainAllowed (c : Composition) (t : Throttle) (p : Product) : Bool :=
  c.uses p && match t, p with
    | .high, .high => false
    | .low, .low => false
    | _, _ => true

/-- Both MAIN and SLOW outputs of a grade's paths: its SLOW valves open, its MAIN valves as given; other paths closed. -/
def valvesFor (c : Composition) (mains : Product → Bool) : PerProduct Valve :=
  let v := fun p => (⟨c.uses p && mains p, c.uses p⟩ : Valve)
  ⟨v .low, v .high, v .aux⟩

/-- Every MAIN output closes at once. -/
def closeMains (v : PerProduct Valve) : PerProduct Valve := v.map fun x => { x with main := false }

/-- Every SLOW output closes. -/
def closeSlows (v : PerProduct Valve) : PerProduct Valve := v.map fun x => { x with slow := false }

/-- Some SLOW output is open. -/
def anySlow (v : PerProduct Valve) : Bool := v.low.slow || v.high.slow || v.aux.slow

/-! ### State changes -/

/-- A side enters a state: it shows NO PUMP after a NO_PUMP end until it enters IDLE (R69). STATUS is posted with its fresh bit
(R74), the display is asked to recompose (R73), and the periodic timer follows (R149). -/
def State.putSide (s : State) (sd : Side) (x : SideCtl) : State :=
  (((s.setSide sd { x with noPumpEnd := x.noPumpEnd && decide (x.state ≠ .idle) }).periodicCheck).recompose
    sd).postStatus

/-- A SLOW valve that must close does so VALVE_STAGGER later, or keeps an earlier closing moment (R53, R65); with
VALVE_STAGGER 0 it closes at once. -/
def State.startSlowClose (s : State) (x : SideCtl) : SideCtl :=
  if anySlow x.valves then
    match x.slowClose with
    | some _ => x
    | none =>
      if s.cfg.valveStagger = 0 then { x with valves := closeSlows x.valves }
      else { x with slowClose := some (s.now + millis s.cfg.valveStagger) }
  else x

/-- The settle timer starts at once when the SLOW valves are already closed (R65). -/
def State.startSettle (s : State) (x : SideCtl) : SideCtl :=
  if anySlow x.valves then x else { x with settleT := some (s.now + seconds s.cfg.settleTime) }

/-- A sale goes to ENDING (R65): the reason is fixed, the MAIN valves close, the timers stop, the SLOW valves close after the
stagger, and the settle window follows. A zero check in hand is abandoned. The throttle becomes NONE, as it does in SLOW and
SUSPENDED: the spec is silent for ENDING (notes/assumptions/35.md). -/
def State.toEnding (s : State) (sd : Side) (reason : EndReason) : State :=
  let x := s.side sd
  match x.sale with
  | none => s
  | some o =>
    let x := { x with
      state := .ending
      sale := some { o with record := { o.record with reason := some reason } }
      needZero := false
      needMotors := PerProduct.same false
      valves := closeMains x.valves
      throttle := .none
      devRun := none
      noflowT := none
      suspendT := none
      staggerT := none
      noPumpEnd := decide (reason = .noPump) }
    ((s.abandonZero sd).putSide sd (s.startSettle (s.startSlowClose x)))

/-- The reason of a sale that has reached its target (R54). -/
def Captured.targetReason (c : Captured) : EndReason := if c.ceiling then .ceiling else .limit

/-- FLOWING to SLOW (R53, R54): the MAIN valves close at once, the stagger timer stops, the throttle becomes NONE and the
deviation run absent. -/
def State.toSlow (s : State) (sd : Side) : State :=
  let x := s.side sd
  s.putSide sd { x with
    state := .slow, valves := closeMains x.valves, staggerT := none, throttle := .none, devRun := none }

/-- The no-flow timer restarts (R55). -/
def State.restartNoflow (s : State) (sd : Side) : State :=
  s.setSide sd { s.side sd with noflowT := some (s.now + seconds s.cfg.noflowTimeout) }

/-- The deviation run after a blend evaluation (R58): the new run, and whether it ends the sale. -/
def deviation (run : Option Nat) (outside : Bool) (v : Nat) : Option Nat × Bool :=
  match run, outside with
  | _, false => (none, false)
  | none, true => (some v, false)
  | some r, true => (some r, decide (v - r ≥ 200))

/-- Blend control after a counted cycle that leaves the side FLOWING (R57, R58). -/
def State.blendControl (s : State) (sd : Side) (c : Captured) (v : Nat) : State :=
  let comp := s.compOf c
  if comp.trueBlend ∧ 100 ≤ v then
    let x := s.side sd
    let l := s.fines sd
    let p := highShare (fineOf l .low) (fineOf l .high)
    let t := throttleFor p comp.share c.band
    let valves :=
      match x.staggerT with
      | some _ => x.valves
      | none => if t = x.throttle then x.valves else valvesFor comp (mainAllowed comp t)
    let x := { x with throttle := t, valves := valves }
    if 500 ≤ v then
      let (run, ends) := deviation x.devRun (blendDeviates p comp.share c.band) v
      let s := s.setSide sd { x with devRun := run }
      if ends then s.toEnding sd .blendFault else s
    else s.setSide sd x
  else s

/-- A counted-cycle notice (R54). -/
def State.noticeCycle (s : State) (sd : Side) : State :=
  let s := s.updateVolume sd
  match (s.side sd).sale with
  | none => s
  | some o =>
    match o.cap with
    | none => s
    | some c =>
      let v := o.record.volume
      match (s.side sd).state with
      | .flowing =>
        let s := s.restartNoflow sd
        if c.target ≤ v then s.toEnding sd c.targetReason
        else if c.slow ≤ v then s.toSlow sd
        else s.blendControl sd c v
      | .slow =>
        let s := s.restartNoflow sd
        if c.target ≤ v then s.toEnding sd c.targetReason else s
      | .suspended => if c.target ≤ v then s.toEnding sd c.targetReason else s
      | _ => s

/-- The side enters SLOW with its SLOW valves open (R52, R61). -/
def State.enterSlow (s : State) (sd : Side) (comp : Composition) : State :=
  s.putSide sd { s.side sd with
    state := .slow
    valves := valvesFor comp fun _ => false
    slowClose := none
    noflowT := some (s.now + seconds s.cfg.noflowTimeout) }

/-- The side enters FLOWING with its SLOW valves open, its MAIN valves following after the stagger (R52, R61). -/
def State.enterFlowing (s : State) (sd : Side) (comp : Composition) : State :=
  let x := s.side sd
  let stagger := s.cfg.valveStagger
  s.putSide sd { x with
    state := .flowing
    valves := valvesFor comp (if stagger = 0 then mainAllowed comp x.throttle else fun _ => false)
    slowClose := none
    staggerT := if stagger = 0 then none else some (s.now + millis stagger)
    noflowT := some (s.now + seconds s.cfg.noflowTimeout) }

/-- All that a side in STARTING waits for has come (R52). -/
def SideCtl.startReady (x : SideCtl) : Bool :=
  decide (x.state = .starting) && !x.needZero && !x.needMotors.low && !x.needMotors.high && !x.needMotors.aux

/-- A side in STARTING leaves it when both its requirements are met (R52). -/
def State.startingTest (s : State) (sd : Side) : State :=
  if (s.side sd).startReady then
    let s := s.updateVolume sd
    match (s.side sd).sale with
    | none => s
    | some o =>
      match o.cap with
      | none => s
      | some c =>
        let v := o.record.volume
        if c.target ≤ v then s.toEnding sd c.targetReason
        else if c.slow ≤ v then s.enterSlow sd (s.compOf c)
        else s.enterFlowing sd (s.compOf c)
  else s

/-! ### Meters of a sale -/

/-- A new stray-flow period begins on a side (R12). -/
def State.newStrayPeriod (s : State) (sd : Side) : State :=
  { s with pfe := { s.pfe with stray := s.pfe.stray.set sd ⟨0, false⟩ } }

/-- A channel is attached to a sale (R10). -/
def Channel.attach (c : Channel) (sale : Nat) : Channel := { c with attached := some ⟨sale, 0⟩, noise := 0 }

/-- A channel is detached: a CF kept aside takes effect (R11). -/
def Channel.detach (c : Channel) : Channel :=
  match c.attached with
  | some _ => { c with attached := none, cf := c.cfAside.getD c.cf, cfAside := none }
  | none => c

/-- The meters of a grade are attached to a sale (R10), and a stray-flow period begins. -/
def State.attachMeters (s : State) (sd : Side) (comp : Composition) (sale : Nat) : State :=
  let one := fun (s : State) p =>
    if comp.uses p then s.setChan ⟨sd, p⟩ ((s.chan ⟨sd, p⟩).attach sale) else s
  (one (one (one s .low) .high) .aux).newStrayPeriod sd

/-- The meters of a side's sale are detached (R11), and a stray-flow period begins. -/
def State.detachMeters (s : State) (sd : Side) : State :=
  let one := fun (s : State) p => s.setChan ⟨sd, p⟩ (s.chan ⟨sd, p⟩).detach
  (one (one (one s .low) .high) .aux).newStrayPeriod sd

/-! ### Completion -/

/-- The state a side enters when its sale completes (R67, R68). -/
def SideCtl.nextAfter (x : SideCtl) (o : Sale) (mode : Mode) : SideState :=
  let calling := x.anyLifted && decide (mode = .openMode)
  match o.cap with
  | some c => if x.nozzles.get c.nozzle then .ended else if calling then .calling else .idle
  | none => if calling then .calling else .idle

/-- A side after its sale has completed: every valve closed, every timer stopped (R66 to R68, R72). The throttle is NONE
(notes/assumptions/35.md). -/
def SideCtl.cleared (x : SideCtl) (next : SideState) (noPump : Bool) : SideCtl :=
  { x with
    state := next
    sale := none
    needZero := false
    needMotors := PerProduct.same false
    waiting := false
    valves := PerProduct.same Valve.closed
    throttle := .none
    devRun := none
    authT := none
    noflowT := none
    suspendT := none
    settleT := none
    staggerT := none
    slowClose := none
    nozzleLamp := false
    noPumpTest := false
    noPumpEnd := noPump
    endedNozzle := none }

/-- The last sale after a completion: a captured sale's final figures (R36, R43). -/
def LastSale.after (l : LastSale) (o : Sale) (r : SaleRecord) : LastSale :=
  match o.cap with
  | some c => ⟨c.price, r.volume, r.money, r.number⟩
  | none => l

/-- The composition to judge a sale by: of a sale that has not captured, no blend. -/
def State.compOfSale (s : State) (o : Sale) : Composition :=
  match o.cap with
  | some c => s.compOf c
  | none => .aux

/-- The completed record of a side's open sale: the reason already fixed stands, unless one is given (R65, R68, R72). -/
def State.finalRecord (s : State) (sd : Side) (o : Sale) (reason : Option EndReason) : SaleRecord :=
  let r := o.final (s.compOfSale o) (s.fines sd) s.mode.clock
  { r with reason := match reason with | some q => some q | none => r.reason }

/-- A sale completes (R66 to R68): its meters are detached, its registrations released unless they have lapsed, and the sale
leaves the side as its record is handed to the Sale Store, so that a snapshot begun there holds the record and no longer the
open sale (R148). The side then enters `next`. It goes on showing NO PUMP after an earlier NO_PUMP end (R69). -/
def State.closeSale (s : State) (sd : Side) (reason : Option EndReason) (releases : Bool)
    (next : SideCtl → Sale → SideState) : State :=
  let x := s.side sd
  match x.sale with
  | none => s
  | some o =>
    let r := s.finalRecord sd o reason
    let s := if o.cap.isSome then s.detachMeters sd else s
    let s := if releases then s.releaseAll (.side sd) else s
    let s := s.abandonZero sd
    let x := s.side sd
    let st := next x o
    let y := { x with last := x.last.after o r }.cleared st
      (x.noPumpEnd || decide (r.reason = some EndReason.noPump))
    let y := { y with endedNozzle := if st = .ended then o.cap.map (·.nozzle) else none }
    ((s.setSide sd y).takeRecord r).putSide sd y

/-- A sale completes in the ordinary way (R66 to R68). -/
def State.completeSale (s : State) (sd : Side) (reason : Option EndReason) : State :=
  s.closeSale sd reason true fun x o => x.nextAfter o s.mode.mode

/-- A sale is cut short by a host reset or the power-fail warning (R72): the side enters IDLE, and its registrations lapse. -/
def State.cutSale (s : State) (sd : Side) (reason : EndReason) : State :=
  let s := if (s.side sd).sale.isSome then s.closeSale sd (some reason) false (fun _ _ => .idle) else s
  s.putSide sd ((s.side sd).cleared .idle false)

end Sys2Proof.Machine
end

