-- ==== Sys2Proof/Machine/Prices.lean ====
section
/-!
DEFINITION. The Price Table's own operations (02) and the side's readiness (R50): the question a side asks before capture
(R33), the capture (R34, R51), and the swap (R31, R32).
-/
namespace Sys2Proof.Machine

/-- Whether a side is ready to capture (R50): the nozzle and grade it would capture, or not ready, with whether a FAILED
product is the only reason. -/
inductive Readiness where
  | ready (nozzle : Fin 4) (grade : Fin 6)
  | notReady (noPump : Bool)
deriving DecidableEq, Repr

/-- Every meter a composition uses on a side is OK (R50). -/
def State.metersOk (s : State) (sd : Side) (c : Composition) : Bool :=
  Product.all.all fun p => !c.uses p || decide ((s.chan ⟨sd, p⟩).fault = none)

/-- No product a composition needs has its motor FAILED (R50). -/
def State.productsOk (s : State) (c : Composition) : Bool :=
  Product.all.all fun p => !c.uses p || decide ((s.motor p).state ≠ .failed)

/-- The readiness of a side with an open sale of the given mask (R50). -/
def State.readiness (s : State) (sd : Side) (mask : BitVec 6) : Readiness :=
  match (s.side sd).onlyLifted with
  | none => .notReady false
  | some n =>
    match (s.prices.maps.get sd).get n with
    | none => .notReady false
    | some g =>
      let comp := (s.prices.grades.get g).comp
      if mask.getLsbD g.val && s.metersOk sd comp then
        if s.productsOk comp then .ready n g else .notReady true
      else .notReady false

/-- The captured items of a sale (R34). -/
def State.capturedItems (s : State) (o : Sale) (n : Fin 4) (g : Fin 6) : Captured :=
  let price := s.prices.active.get g
  let grade := s.prices.grades.get g
  let rule := s.cfg.rounding
  let target := targetOf o.record.limitKind o.record.amount rule price
  { nozzle := n, grade := g, price := price, margin := grade.margin, band := s.cfg.blendBand
    target := target, slow := slowPoint target grade.margin
    ceiling := ceilingSets o.record.limitKind o.record.amount rule price }

/-- A side registers with the motors its grade needs, LOW before HIGH (R51, R77). -/
def State.registerSide (s : State) (sd : Side) (comp : Composition) : State :=
  let one := fun (s : State) p => if comp.uses p then s.register (.side sd) p else s
  one (one (one s .low) .high) .aux

/-- What the registrations and the request for a zero check answer at once (R78, R100): a display in FAULT or a FAILED motor
completes the sale, and a motor already RUNNING has reported. -/
def State.afterCapture (s : State) (sd : Side) (comp : Composition) (sale : Nat) : State :=
  if (s.disp sd).state = .fault then s.completeSale sd (some .displayFault)
  else if s.productsOk comp then (s.requestZero sd sale).bothSides State.startingTest
  else s.completeSale sd (some .noPump)

/-- A granted capture (R51): the record and the pair are fixed, the meters attached, the side enters STARTING, registers with
its motors and asks for the zero check. -/
def State.capture1 (s : State) (sd : Side) (o : Sale) (n : Fin 4) (g : Fin 6) : State :=
  let x := s.side sd
  let c := s.capturedItems o n g
  let comp := (s.prices.grades.get g).comp
  let r := { o.record with
    nozzle := some n, grade := some g, target := some c.target, price := some c.price, rounding := s.cfg.rounding }
  let s := (s.attachMeters sd comp r.number).putSide sd { x with
    state := .starting
    sale := some { o with record := r, cap := some c }
    needZero := true
    needMotors := ⟨comp.uses .low, comp.uses .high, comp.uses .aux⟩
    waiting := false
    nozzleLamp := false
    noPumpTest := false
    noPumpEnd := false
    throttle := .none
    devRun := none
    authT := none
    last := ⟨c.price, 0, 0, r.number⟩ }
  (s.registerSide sd comp).afterCapture sd comp r.number

/-- The lamps and messages of a readiness test that did not capture (R50): STATUS follows a change of the waiting flag and the
display follows a change of any of them. -/
def State.showTest (s : State) (sd : Side) (waiting lamp noPump : Bool) : State :=
  let x := s.side sd
  let x' := { x with waiting := waiting, nozzleLamp := lamp, noPumpTest := noPump }
  let s := s.setSide sd x'
  let s := if x' = x then s else s.recompose sd
  if waiting = x.waiting then s else s.postStatus

/-- A side in AUTHORIZED tests its readiness and asks the Price Table (R33, R50). -/
def State.testReadiness (s : State) (sd : Side) : State :=
  let x := s.side sd
  if x.state = .authorized then
    match x.sale with
    | none => s
    | some o =>
      match s.readiness sd o.mask with
      | .ready n g =>
        if s.prices.swapDue then s.showTest sd true false false
        else if s.prices.active.get g = 0 then s.showTest sd false true false
        else s.capture1 sd o n g
      | .notReady noPump => s.showTest sd false x.anyLifted noPump
  else s

/-- Every side waiting to capture is told that capture is permitted (R28, R32). -/
def State.tellWaiting (s : State) : State :=
  s.bothSides fun s sd => if (s.side sd).waiting then s.testReadiness sd else s

/-- The grades whose price a bank changes (R32). -/
def changedGrades (old new : Vector Nat 6) : Vector Bool 6 := Vector.ofFn fun i => old.get i != new.get i

/-- The swap (R32), its seven steps in order. -/
def State.doSwap (s : State) (b : Staged) : State :=
  let changed := changedGrades s.prices.active b.prices
  let s := { s with prices := { s.prices with active := b.prices, staged := none, swapDue := false } }
  let s := s.recomposeBoth.postPriceView
  ((s.raise .priceSwap 0 (.num b.tag.toNat) (.changed changed)).requestSnapshot).tellWaiting

/-- The swap is taken when it is due and no side's sale blocks it; in COLD and HOLDUP none is taken (R31, R42). -/
def State.swapTest (s : State) : State :=
  if s.prices.swapDue && !s.dormant && !(s.side .a).state.blocksSwap && !(s.side .b).state.blocksSwap then
    match s.prices.staged with
    | some b => s.doSwap b
    | none => s
  else s

/-- The swap-due flag is set (R26, R29, R30): PRICE VIEW follows without its fresh bit, and the swap is tested. -/
def State.setDue (s : State) : State :=
  ({ s with prices := { s.prices with swapDue := true } }).updatePriceView.swapTest

/-- The staged bank's moment is the present clock (R30). -/
def State.atMoment (s : State) (b : Staged) : Bool :=
  match b.cond with
  | .atOnce => false
  | .atTime w n => !s.mode.clockUnset && decide (s.mode.clock = ⟨w, n⟩)

/-- A new value of the clock is told to the Price Table (R30, R42). -/
def State.clockForPrices (s : State) : State :=
  match s.prices.staged with
  | some b => if s.atMoment b && !s.prices.swapDue && !s.dormant then s.setDue else s
  | none => s

/-- A grade is mapped when some nozzle of either side names it (R23). -/
def mapped (maps : Both (Vector (Option (Fin 6)) 4)) (g : Fin 6) : Bool :=
  maps.a.toList.contains (some g) || maps.b.toList.contains (some g)

/-- The first mapped grade with price 0 in a bank (R24, R27, R167). -/
def firstUnpriced (maps : Both (Vector (Option (Fin 6)) 4)) (bank : Vector Nat 6) : Option (Fin 6) :=
  (List.finRange 6).find? fun g => mapped maps g && decide (bank.get g = 0)

end Sys2Proof.Machine
end

