-- ==== Sys2Proof/Machine/Modes.lean ====
section
/-!
DEFINITION. The Mode Controller's own operations (09): mode and stage changes, the stages of closing and opening, and the
notices that end a sale and then reach the Price Table and the DRAIN stage (R67, R69 to R71).
-/
namespace Sys2Proof.Machine

/-- Replace the Mode Controller's state. -/
def State.setMode (s : State) (m : ModeCtl) : State := { s with mode := m }

/-- A change of stage (R160): STATUS is posted with its fresh bit. -/
def State.toStage (s : State) (st : Stage) : State := (s.setMode { s.mode with stage := some st }).postStatus

/-- The night flag is cleared at each entry to CLOSED (R13). -/
def State.clearNight (s : State) (m : Mode) : State :=
  match m with
  | .closed => { s with pfe := { s.pfe with nightFlag := false } }
  | _ => s

/-- A change of mode (R160): the MODE event, the notice to every block, and STATUS with its fresh bit. -/
def State.changeMode (s : State) (m : Mode) (st : Option Stage) (d2 : Detail) : State :=
  let old := s.mode.mode
  let s := s.setMode { s.mode with mode := m, stage := st }
  ((s.raise .mode m.code (.num old.code) d2).clearNight m).recomposeBoth.postStatus

/-! ### Closing -/

/-- The closing SNAPSHOT stage (R173): a write that begins after the request is waited for. -/
def State.snapshotStage (s : State) : State :=
  let s := s.toStage .snapshot
  ({ s with journal := { s.journal with closeWait := .toBegin } }).requestSnapshot

/-- The displays are dark (R104): no side still blanks; the supply goes off and the report ends the DISPLAY stage. -/
def State.darkReport (s : State) : State :=
  if s.display.darkening && !(s.disp .a).goingDark && !(s.disp .b).goingDark then
    let s := { s with display := { s.display with supply := false, darkening := false } }
    if s.mode.stage = some .display then s.snapshotStage else s
  else s

/-- The DISPLAY stage of closing (R173). -/
def State.displayStage (s : State) : State := ((s.toStage .display).goDark).darkReport

/-- The MOTORS_OFF stage of closing (R173): LOW at once, HIGH and AUX each 1 s later. -/
def State.motorsOffStage (s : State) : State :=
  let s := (s.toStage .motorsOff).stopMotor .low
  s.setMode { s.mode with spacingNext := some .high, spacingT := some (s.now + seconds 1) }

/-- The spacing timer's next stop command (R173). -/
def State.spacingStep (s : State) : State :=
  match s.mode.spacingNext with
  | some .high =>
    let s := s.stopMotor .high
    s.setMode { s.mode with spacingNext := some .aux, spacingT := some (s.now + seconds 1) }
  | some .aux =>
    let s := s.stopMotor .aux
    (s.setMode { s.mode with spacingNext := none, spacingT := none }).displayStage
  | _ => s.setMode { s.mode with spacingNext := none, spacingT := none }

/-- READERS_OFF and what follows it (R173). No side holds an uncompleted sale by then, so a gate that leaves OPEN here has
nothing to tell its side (R70). -/
def State.readersOffStage (s : State) : State :=
  (((s.toStage .readersOff).gateClaim .a).gateClaim .b).motorsOffStage

/-- DRAIN ends when no side is awaited (R172). -/
def State.drainTest (s : State) : State :=
  if s.mode.stage = some .drain ∧ s.mode.drainAwait = Both.same false then
    (s.setMode { s.mode with graceT := none }).readersOffStage
  else s

/-- A side reports that it holds no uncompleted sale (R71, R172). -/
def State.drainReport (s : State) (sd : Side) : State :=
  if s.mode.stage = some .drain ∧ (s.side sd).state.holdsSale = false then
    (s.setMode { s.mode with drainAwait := s.mode.drainAwait.set sd false }).drainTest
  else s

/-! ### Completions and what they bring -/

/-- A sale completes, the Price Table is told that it has left the blocking states, a start its release let through is
followed, and DRAIN is told (R67, R68, R71). -/
def State.finishSale (s : State) (sd : Side) (reason : Option EndReason) : State :=
  let blocked := (s.side sd).state.blocksSwap
  let s := s.completeSale sd reason
  let s := if blocked then s.swapTest else s
  (s.bothSides State.startingTest).drainReport sd

/-- The notice of a meter fault (R69). -/
def State.noticeMeterFault (s : State) (m : Meter) : State :=
  let attached := (s.chan m).attached.isSome
  match (s.side m.side).state with
  | .authorized => s.testReadiness m.side
  | .starting => if attached then s.finishSale m.side (some .meterFault) else s
  | .flowing => if attached then s.toEnding m.side .meterFault else s
  | .slow => if attached then s.toEnding m.side .meterFault else s
  | .suspended => if attached then s.toEnding m.side .meterFault else s
  | _ => s

/-- The FAILED notice of a product to one side (R69, R78). -/
def State.noticeMotorFailed (s : State) (sd : Side) (p : Product) : State :=
  let needs := match s.saleComp sd with | some c => c.uses p | none => false
  match (s.side sd).state with
  | .authorized => s.testReadiness sd
  | .starting => if needs then s.finishSale sd (some .noPump) else s
  | .flowing => if needs then s.toEnding sd .noPump else s
  | .slow => if needs then s.toEnding sd .noPump else s
  | .suspended => if needs then s.toEnding sd .noPump else s
  | _ => s

/-- The FAULT notice of a side's display (R69). -/
def State.noticeDisplayFault (s : State) (sd : Side) : State :=
  match (s.side sd).state with
  | .authorized => s.finishSale sd (some .displayFault)
  | .starting => s.finishSale sd (some .displayFault)
  | .flowing => s.toEnding sd .displayFault
  | .slow => s.toEnding sd .displayFault
  | .suspended => s.toEnding sd .displayFault
  | _ => s

/-- A READER-origin record takes READER_LOST (R70). -/
def State.markReaderLost (s : State) (sd : Side) : State :=
  let x := s.side sd
  match x.sale with
  | some o => s.setSide sd { x with sale := some { o with record := { o.record with readerLost := true } } }
  | none => s

/-- The notice that a side's gate has left OPEN (R70). -/
def State.noticeGate (s : State) (sd : Side) : State :=
  match (s.side sd).sale with
  | some o =>
    if o.record.origin = .reader then
      match (s.side sd).state with
      | .authorized => s.finishSale sd (some .revoked)
      | .starting => s.markReaderLost sd
      | .flowing => s.markReaderLost sd
      | .slow => s.markReaderLost sd
      | .suspended => s.markReaderLost sd
      | .ending => s.markReaderLost sd
      | _ => s
    else s
  | none => s

/-- The left-FAILED notice (R78): a side in AUTHORIZED retests its readiness. -/
def State.noticeLeftFailed (s : State) : State := s.bothSides State.testReadiness

/-- A meter fault (R4): a meter that is OK enters FAULT, with its event, STATUS and the notice to its side. -/
def State.meterFault (s : State) (m : Meter) (cause : FaultCause) (count : Nat) : State :=
  let c := s.chan m
  match c.fault with
  | some _ => s
  | none =>
    let s := s.setChan m { c with fault := some cause }
    ((s.raise .meterFault m.number (.faultCause cause) (.num count)).postStatus).noticeMeterFault m

/-! ### Opening -/

/-- Each IDLE side with a nozzle lifted moves to CALLING as the mode becomes OPEN (R45, R170). -/
def State.callIfLifted (s : State) (sd : Side) : State :=
  let x := s.side sd
  if x.state = .idle ∧ x.anyLifted then s.putSide sd { x with state := .calling } else s

/-- The mode becomes OPEN (R170). -/
def State.enterOpen (s : State) : State :=
  (s.changeMode .openMode none (.outcome s.mode.outcome)).bothSides State.callIfLifted

/-- One side's gate is settled for READERS once it is OPEN or TRIPPED (R170). A gate once settled stays so, whatever it does
while the other side's is awaited, and one that settled OPEN is not named: R170 leaves this open
(notes/assumptions/48.md). -/
def State.settleReader (s : State) (sd : Side) : State :=
  if s.mode.readersAwait.get sd then
    match (s.gate sd).state with
    | .opened => s.setMode { s.mode with readersAwait := s.mode.readersAwait.set sd false }
    | .tripped =>
      s.setMode { s.mode with
        readersAwait := s.mode.readersAwait.set sd false
        outcome := { s.mode.outcome with gates := s.mode.outcome.gates.set sd true } }
    | _ => s
  else s

/-- READERS ends when both gates are settled (R170). -/
def State.readersTest (s : State) : State :=
  if s.mode.stage = some .readers then
    let s := s.bothSides State.settleReader
    if s.mode.readersAwait = Both.same false then s.enterOpen else s
  else s

/-- The READERS stage: each gate that is OFF enters STARTING (R125, R170). -/
def State.readersStage (s : State) : State :=
  let s := s.toStage .readers
  let s := s.setMode { s.mode with readersAwait := Both.same true }
  (s.bothSides fun s sd => if (s.gate sd).state = .off then s.gateStart sd .readersStage else s).readersTest

/-- PRIME ends when every registered product is settled: PRIME is released from all of them (R169). -/
def State.primeTest (s : State) : State :=
  if s.mode.stage = some .prime ∧ s.mode.primeWait = PerProduct.same false then
    let s := s.releaseAll .prime
    (s.setMode { s.mode with primeReg := PerProduct.same false }).readersStage
  else s

/-- A product failed during PRIME is settled and named in the opening outcome (R169). -/
def State.primeFailed (s : State) (p : Product) : State :=
  if s.mode.stage = some .prime ∧ s.mode.primeReg.get p then
    s.setMode { s.mode with
      primeWait := s.mode.primeWait.set p false
      outcome := { s.mode.outcome with products := s.mode.outcome.products.set p true } }
  else s

/-- Some mapped grade needs a product (R169). -/
def State.mappedNeeds (s : State) (p : Product) : Bool :=
  (List.finRange 6).any fun g => mapped s.prices.maps g && (s.prices.grades.get g).comp.uses p

/-- PRIME registers with one product (R77, R169): a FAILED motor is settled at once. -/
def State.primeRegister (s : State) (p : Product) : State :=
  if s.mode.primeReg.get p then
    let s := s.register .prime p
    if (s.motor p).state = .failed then s.primeFailed p else s
  else s

/-- The PRIME stage (R169). -/
def State.primeStage (s : State) : State :=
  let s := s.toStage .prime
  let need : PerProduct Bool := ⟨s.mappedNeeds .low, s.mappedNeeds .high, s.mappedNeeds .aux⟩
  let s := s.setMode { s.mode with primeReg := need, primeWait := need }
  (((s.primeRegister .low).primeRegister .high).primeRegister .aux).primeTest

/-- What follows a motor's move: a RUNNING report may let a side leave STARTING or settle PRIME (R52, R169). -/
def State.afterMotors (s : State) : State := (s.bothSides State.startingTest).primeTest

/-- A lamp test's outcome reaches the LAMP stage (R101, R168). -/
def State.lampDone (s : State) (sd : Side) (failed : Bool) : State :=
  if s.mode.stage = some .lamp ∧ s.mode.lampAwait.get sd then
    let s := s.setMode { s.mode with
      lampAwait := s.mode.lampAwait.set sd false
      outcome := { s.mode.outcome with
        displays := if failed then s.mode.outcome.displays.set sd true else s.mode.outcome.displays } }
    if s.mode.lampAwait = Both.same false then s.primeStage else s
  else s

/-- The LAMP stage asks for a lamp test on each side that has none in hand (R168). -/
def State.lampStage (s : State) : State :=
  let s := s.toStage .lamp
  let s := s.setMode { s.mode with lampAwait := Both.same true }
  s.bothSides fun s sd => if (s.disp sd).lamp.isSome then s else s.beginLamp sd false

/-- The warm stage is reported done, with or without the cold detail (R107, R168). -/
def State.warmDone (s : State) (cold : Bool) : State :=
  if s.mode.stage = some .warm then
    (s.setMode { s.mode with outcome := { s.mode.outcome with cold := cold } }).lampStage
  else s

/-- The WARM stage (R107, R168). -/
def State.warmStage (s : State) : State :=
  let s := s.toStage .warm
  let warm := match s.display.temperature with | some t => decide (s.cfg.warmThreshold ≤ t) | none => false
  if warm then ({ s with display := { s.display with coldFlag := false, heater := false } }).warmDone false
  else
    { s with display := { s.display with
        coldFlag := false, heater := true, warmT := some (s.now + seconds (60 * s.cfg.warmLimit)) } }

/-- The opening returns to CLOSED (R171). -/
def State.returnToClosed (s : State) (cause : ModeCause) : State :=
  let s := ((s.releaseAll .prime).gateClaim .a).gateClaim .b
  let s := { s with display := { s.display with heater := false, warmT := none } }
  let s := s.goDark.darkReport
  let s := s.setMode { s.mode with
    wakeT := none, lampAwait := Both.same false, primeReg := PerProduct.same false
    primeWait := PerProduct.same false, readersAwait := Both.same false }
  s.changeMode .closed none (.modeCause cause)

/-- What CHECK finds first (R167): the reason, and the meter or grade number, or 0. -/
def State.checkFinds (s : State) : Option (CheckReason × Nat) :=
  if s.journal.empty then some (.journalEmpty, 0)
  else
    match Meter.all.find? fun m =>
        match PerMeter.get s.journal.master m with
        | some cf => decide (cf < 256 ∨ 16383 < cf)
        | none => true with
    | some m => some (.calibration, m.number)
    | none => (firstUnpriced s.prices.maps s.prices.active).map fun g => (.unpriced, g.val + 1)

/-- CHECK (R167). -/
def State.checkStage (s : State) : State :=
  let s := s.toStage .check
  match s.checkFinds with
  | some (r, n) =>
    (s.raise .stageFailed Stage.check.code (.checkReason r) (.num n)).returnToClosed .checkFailed
  | none => s.warmStage

/-- An opening begins (R167). -/
def State.beginOpening (s : State) (cause : ModeCause) : State :=
  let s := s.setMode { s.mode with outcome := Outcome.clear, wakeT := some (s.now + seconds 2) }
  (s.changeMode .opening (some .wake) (.modeCause cause)).supplyOn

/-! ### Closing begins, and night -/

/-- REFUSE completes a sale in AUTHORIZED (R71, R172). -/
def State.refuseSale (s : State) (sd : Side) : State :=
  if (s.side sd).state = .authorized then s.finishSale sd (some .cancelled) else s

/-- Closing begins (R172): REFUSE, then DRAIN at once with its grace timer running. -/
def State.beginClosing (s : State) (cause : ModeCause) : State :=
  let s := (s.changeMode .closing (some .refuse) (.modeCause cause)).bothSides State.refuseSale
  let s := s.toStage .drain
  (s.setMode { s.mode with
    graceT := some (s.now + seconds s.cfg.closeGrace)
    drainAwait := ⟨(s.side .a).state.holdsSale, (s.side .b).state.holdsSale⟩ }).drainTest

/-- A side in CALLING or ENDED enters IDLE at night entry (R71). -/
def State.nightSide (s : State) (sd : Side) : State :=
  let x := s.side sd
  match x.state with
  | .calling => s.putSide sd { x with state := .idle }
  | .ended => s.putSide sd { x with state := .idle, endedNozzle := none }
  | _ => s

/-- Some display or motor state changes at night entry (R90, R105). -/
def State.nightChanges (s : State) : Bool :=
  decide ((s.disp .a).state ≠ .dark) || decide ((s.disp .b).state ≠ .dark)
    || Product.all.any fun p => decide ((s.motor p).state = .failed)

/-- The Mode Controller with no stage, no stage progress and no stage timer (R176). -/
def ModeCtl.noStage (m : ModeCtl) : ModeCtl :=
  { ModeCtl.reset with
    mode := m.mode, outcome := m.outcome, clock := m.clock, clockUnset := m.clockUnset, schedule := m.schedule
    warning := m.warning, clearT := m.clearT, cleared := m.cleared }

/-- NIGHT (R174). -/
def State.night (s : State) : State :=
  let changes := s.nightChanges
  let s := (s.setMode s.mode.noStage).changeMode .closed none (.modeCause .night)
  let s := s.bothSides State.nightSide
  let s := { s with
    display := { s.display with side := s.display.side.map DispSide.night }
    motors := { s.motors with motor := s.motors.motor.map Motor.night, fifo := [] }
    journal := { s.journal with periodicT := none, periodicSum := 0 } }
  (if changes then s.postStatus else s).noticeLeftFailed

/-! ### Schedule -/

/-- A weekday's entry of the schedule. -/
def daySchedule (days : Vector (Nat × Nat) 7) (w : Nat) : Nat × Nat := days.toList.getD w (0, 0)

/-- An edge of the schedule acts at a new value of the clock (R164). -/
def State.clockForSchedule (s : State) : State :=
  if s.mode.clockUnset then s
  else
    match s.mode.schedule with
    | .alwaysOpen => s
    | .entries days =>
      let e := daySchedule days s.mode.clock.weekday
      if e.1 < e.2 then
        if s.mode.clock.second = e.1 then
          match s.mode.mode with
          | .closed => s.beginOpening .schedule
          | _ => s
        else if s.mode.clock.second = e.2 then
          match s.mode.mode with
          | .openMode => s.beginClosing .schedule
          | .opening => s.returnToClosed .aborted
          | _ => s
        else s
      else s

/-- A new value of the clock (R161): the Price Table's conditions, then the schedule's edges. -/
def State.newClock (s : State) : State := s.clockForPrices.clockForSchedule

/-- The schedule holds the dispenser open at the present clock (R165). -/
def ModeCtl.openNow (m : ModeCtl) : Bool :=
  match m.schedule with
  | .alwaysOpen => true
  | .entries days =>
    let e := daySchedule days m.clock.weekday
    decide (e.1 ≤ m.clock.second ∧ m.clock.second < e.2)

/-- The open-now test (R165). -/
def State.openNowTest (s : State) : State :=
  if s.mode.mode = .closed ∧ s.mode.openNow then s.beginOpening .schedule else s

/-! ### Gates -/

/-- What follows an operation on a side's gate: the notice when it has left OPEN (R118), and the READERS stage (R170). -/
def State.afterGate (s : State) (sd : Side) (old : GateState) : State :=
  let s := if old = .opened ∧ (s.gate sd).state ≠ .opened then s.noticeGate sd else s
  s.readersTest

/-- Run an operation on a side's gate and follow it. -/
def State.onGate (s : State) (sd : Side) (f : State → State) : State :=
  (f s).afterGate sd (s.gate sd).state

/-! ### Motors -/

/-- A motor fails, with its notices (R78, R85), and the arbiter tests the freed slot (R80), after the notices: no rule orders
the two (notes/assumptions/37.md). -/
def State.motorFails (s : State) (p : Product) (cause : MotorCause) : State :=
  let s := s.failMotor p cause
  let s := (s.noticeMotorFailed .a p).noticeMotorFailed .b p
  ((s.primeFailed p).arbiterTest).afterMotors

/-- A motor leaves FAILED, with its notice, and starts again if it has users (R86). -/
def State.motorRecovers (s : State) (p : Product) : State :=
  (((s.unfailMotor p).noticeLeftFailed).rejoin p).afterMotors

/-! ### Displays -/

/-- A zero check in hand is answered failed (R100, R103): the side that still waits for it in STARTING ends its sale with
DISPLAY_FAULT (R52, R68). -/
def State.zeroFailed (s : State) (sd : Side) : State :=
  match (s.disp sd).zero with
  | some z =>
    match (s.side sd).sale with
    | some o =>
      if (s.side sd).state = .starting ∧ o.record.number = z.sale then s.finishSale sd (some .displayFault) else s
    | none => s
  | none => s

/-- A side's display enters FAULT (R103), in the order of the rule: a zero check in hand is answered failed and a lamp test in
hand reports its failure, a retest that had not begun is answered, the fault is entered, and the side is told. A fault found as
the displays go dark counts the side as dark, so the supply can go off while its blanking still runs: R103 and R104 do not say
which of FAULT and DARK follows (notes/assumptions/52.md). -/
def State.displayFails (s : State) (sd : Side) (cause : DispCause) (index : Nat) : State :=
  let test := (s.disp sd).lamp.isSome
  let s := (s.releaseRetest sd).zeroFailed sd
  let s := if test then s.lampDone sd true else s
  ((s.displayFault sd cause index).noticeDisplayFault sd).darkReport

/-- The zero check is verified for a sale (R52, R100). -/
def State.zeroVerified (s : State) (sd : Side) (sale : Nat) : State :=
  let x := s.side sd
  match x.sale with
  | some o =>
    if x.state = .starting ∧ o.record.number = sale then
      (s.setSide sd { x with needZero := false }).startingTest sd
    else s
  | none => s

end Sys2Proof.Machine
end

