-- ==== Sys2Proof/Machine/Operands.lean ====
section
/-!
DEFINITION. The layouts of the exchange memory: headers and posted bodies as bytes (10, Folios and Folio bodies), the
CONFIG layout with its clamping (R184), and the request bodies both ways. Codes the layouts leave open are the opaque
constants of Config.lean (notes/assumptions/6.md).
-/
namespace Sys2Proof.Machine

/-! ### Numbers in bytes -/

/-- The number some bytes spell, most significant first. -/
def ofBe : List Byte → Nat
  | [] => 0
  | b :: bs => b.toNat * 256 ^ bs.length + ofBe bs

/-- The number in a field of a body. -/
def fieldNat (b : List Byte) (off len : Nat) : Nat := ofBe ((b.drop off).take len)

/-- The byte at a place of a body. -/
def fieldByte (b : List Byte) (off : Nat) : Byte := b.getD off 0

/-- A number as one byte. -/
def byte1 (n : Nat) : List Byte := [BitVec.ofNat 8 n]

/-! ### Headers -/

/-- Result codes (R185). -/
def Result.code : Result → Nat
  | .done => 0
  | .wrongState => 1
  | .mode => 2
  | .backlog => 3
  | .displayFault => 4
  | .gateNotOpen => 5
  | .metrologySwitch => 6
  | .invalidLimit => 7
  | .gradeMaskEmpty => 8
  | .invalidOrigin => 9
  | .unknownOrder => 10
  | .tooLate => 11
  | .invalidPrice => 12
  | .invalidGrade => 13
  | .invalidClock => 14
  | .clockUnset => 15
  | .invalidMeter => 16
  | .invalidProduct => 17
  | .invalidSide => 18
  | .tamper => 19
  | .invalidModule => 20
  | .invalidFrame => 21
  | .gateClosed => 22
  | .notAdmitted => 23
  | .moduleBusy => 24
  | .noAnswer => 25
  | .invalidWatch => 26
  | .alreadyPast => 27
  | .outOfStep => 28
  | .meterBusy => 29
  | .busySequence => 30
  | .invalidSchedule => 31
  | .invalidLength => 32
  | .reset => 33

/-- The sixteen bytes of a folio's header (10, Folios). -/
def Header.bytes (h : Header) (f : Folio) : List Byte :=
  byte1 ((match h.holder with | .host => 128 | .part => 0) + f.val) ++ byte1 h.result.code ++ be 2 h.count
    ++ be 4 h.detail.toNat ++ be 4 h.ref.toNat ++ [h.len] ++ be 3 h.stamp

/-! ### Posted bodies -/

/-- Kinds of event (R185). -/
def EventKind.code : EventKind → Nat
  | .mode => 1
  | .stageFailed => 2
  | .priceSwap => 3
  | .priceSuperseded => 4
  | .meterFault => 5
  | .meterCleared => 6
  | .strayFlow => 7
  | .nightFlow => 8
  | .motorFailed => 9
  | .motorRunning => 10
  | .displayFault => 11
  | .displayOk => 12
  | .gate => 13
  | .moduleAdmitted => 14
  | .frameRefused => 15
  | .tamper => 16
  | .calibration => 17
  | .watch => 18
  | .journalSlotBad => 19
  | .clockSet => 20
  | .powerWarning => 21

/-- A detail word as a number: its own value where the spec gives one, else its coding. -/
def Detail.word (d : Detail) : Nat :=
  match d with
  | .num n => n % 2 ^ 32
  | d => (Config.detailCode d).toNat

/-- The sixteen bytes of an event entry (R185). -/
def Event.bytes (e : Event) : List Byte :=
  be 4 e.seq ++ be 3 (e.clock.toNat * 16 + e.object % 16) ++ byte1 e.kind.code ++ be 4 e.d1.word ++ be 4 e.d2.word

/-- An entry of the ring: zeros in a position never written (R185). -/
def entryBytes : Option Event → List Byte
  | some e => e.bytes
  | none => List.replicate 16 0

/-- The entry at a place of an EVENTS folio (0 for EVENTS 1). -/
def Exchange.entry (x : Exchange) (folio place : Nat) : Option Event :=
  x.ring.get ⟨(14 * folio + place) % 56, Nat.mod_lt _ (by decide)⟩

/-- The body of an EVENTS folio (0 for EVENTS 1): 14 entries. -/
def Exchange.eventsBody (x : Exchange) (folio : Nat) : List Byte :=
  (List.range 14).flatMap fun i => entryBytes (x.entry folio i)

/-- A total in six bytes; 2^48 or more shows as all ones (10, Folio bodies). -/
def totalBytes (n : Nat) : List Byte := be 6 (min n (2 ^ 48 - 1))

/-- One value of each meter, in the order of the meter numbers. -/
def meterList (t : PerMeter Nat) : List Nat := Meter.all.map (PerMeter.get t)

/-- The 36 totals in the order of R139's table. -/
def Totals.list (t : Totals) : List Nat :=
  meterList t.meter ++ meterList t.unattributed ++ meterList t.test ++ t.volume.toList ++ t.money.toList ++ t.count.toList

/-- The body of TOTALS. -/
def TotalsView.bytes (v : TotalsView) : List Byte := v.totals.list.flatMap totalBytes ++ Config.totalsTailBytes v

/-- The body of PRICE VIEW: the six ACTIVE prices in three bytes each, and the fields that follow them. -/
def PriceView.bytes (v : PriceView) : List Byte := v.active.toList.flatMap (be 3) ++ Config.priceViewTailBytes v

/-- The body of a posted folio; one never updated is zeros (R182). -/
def Exchange.postedBody (x : Exchange) (f : Folio) : List Byte :=
  match f.val with
  | 0 => (x.status.map Config.statusBytes).getD []
  | 1 => (x.priceView.map PriceView.bytes).getD []
  | 2 => (x.totalsView.map TotalsView.bytes).getD []
  | n => x.eventsBody (n - 3)

/-- The byte of the exchange memory at an address below 8192 (R177). -/
def State.readByte (s : State) (a : Nat) : Byte :=
  if h : a / 256 < 27 then
    let f : Folio := ⟨a / 256, h⟩
    if a % 256 < 16 then fieldByte ((s.header f).bytes f) (a % 256)
    else if f.posted then fieldByte (s.exch.postedBody f) (a % 256 - 16)
    else Memory.read s.exch.mem a
  else Memory.read s.exch.mem a

/-! ### CONFIG (R184) -/

/-- A field judged against its range: the clamped value, and whether it was clamped. -/
def clampNat (lo hi n : Nat) : Nat × Bool := (max lo (min hi n), decide (n < lo ∨ hi < n))

/-- WARM_THRESHOLD: a signed byte clamped to -30 to +10. -/
def clampThreshold (b : Byte) : Int × Bool := (max (-30) (min 10 b.toInt), decide (b.toInt < -30 ∨ 10 < b.toInt))

/-- ADMISSION_MODE; an unknown code takes the default. -/
def admissionModeOf (b : Byte) : AdmissionMode × Bool :=
  match b.toNat with
  | 0 => (.openAll, false)
  | 1 => (.check, false)
  | 2 => (.checkRefer, false)
  | _ => (.openAll, true)

/-- KEYPAD_FITTED; an unknown code takes the default. -/
def keypadFittedOf (b : Byte) : Bool × Bool :=
  match b.toNat with
  | 0 => (false, false)
  | 1 => (true, false)
  | _ => (true, true)

/-- ROUNDING (R35); an unknown code takes the default. -/
def roundingOf (b : Byte) : Rounding × Bool :=
  match b.toNat with
  | 0 => (.nearest, false)
  | 1 => (.down, false)
  | _ => (.nearest, true)

/-- Maximum flow of the meter whose field begins at `off`. -/
def maxFlowAt (b : List Byte) (off : Nat) : Nat × Bool := clampNat 1000 15000 (fieldNat b off 2)

/-- The six maximum flows, bytes 10 to 21. -/
def maxFlowsAt (b : List Byte) : PerMeter Nat :=
  ⟨⟨(maxFlowAt b 10).1, (maxFlowAt b 12).1, (maxFlowAt b 14).1⟩,
    ⟨(maxFlowAt b 16).1, (maxFlowAt b 18).1, (maxFlowAt b 20).1⟩⟩

/-- The accepted values of a CONFIG body (R184). -/
def Settings.ofBytes (b : List Byte) : Settings where
  noflowTimeout := (clampNat 10 180 (fieldNat b 0 2)).1
  suspendTimeout := (clampNat 30 600 (fieldNat b 2 2)).1
  settleTime := (clampNat 1 5 (fieldNat b 4 1)).1
  valveStagger := (clampNat 0 1000 (fieldNat b 5 2)).1
  authTimeout := (clampNat 10 600 (fieldNat b 7 2)).1
  blendBand := (clampNat 5 50 (fieldNat b 9 1)).1
  maxFlow := maxFlowsAt b
  motorGap := (clampNat 1 30 (fieldNat b 22 1)).1
  pressureTimeout := (clampNat 2 30 (fieldNat b 23 1)).1
  restartGap := (clampNat 2 60 (fieldNat b 24 1)).1
  idleRun := (clampNat 0 600 (fieldNat b 25 2)).1
  failHold := (clampNat 30 900 (fieldNat b 27 2)).1
  warmThreshold := (clampThreshold (fieldByte b 29)).1
  warmLimit := (clampNat 1 30 (fieldNat b 30 1)).1
  darkDelay := (clampNat 0 600 (fieldNat b 31 2)).1
  divisor := fieldNat b 33 1
  pollInterval := (clampNat 50 500 (fieldNat b 34 2)).1
  answerTimeout := (clampNat 5 50 (fieldNat b 36 1)).1
  readerStartTimeout := (clampNat 2 60 (fieldNat b 37 1)).1
  downlinkRetries := (clampNat 0 3 (fieldNat b 38 1)).1
  admissionMode := ⟨(admissionModeOf (fieldByte b 39)).1, (admissionModeOf (fieldByte b 40)).1⟩
  keypadFitted := ⟨(keypadFittedOf (fieldByte b 41)).1, (keypadFittedOf (fieldByte b 42)).1⟩
  closeGrace := (clampNat 60 1800 (fieldNat b 43 2)).1
  rounding := (roundingOf (fieldByte b 45)).1

/-- Whether each field of the layout was clamped or unknown, in the order of the layout; the six maximum flows and the two
sides of a per-side field count as fields of their own. -/
def configFlags (b : List Byte) : List Bool :=
  [(clampNat 10 180 (fieldNat b 0 2)).2, (clampNat 30 600 (fieldNat b 2 2)).2, (clampNat 1 5 (fieldNat b 4 1)).2,
   (clampNat 0 1000 (fieldNat b 5 2)).2, (clampNat 10 600 (fieldNat b 7 2)).2, (clampNat 5 50 (fieldNat b 9 1)).2,
   (maxFlowAt b 10).2, (maxFlowAt b 12).2, (maxFlowAt b 14).2, (maxFlowAt b 16).2, (maxFlowAt b 18).2,
   (maxFlowAt b 20).2, (clampNat 1 30 (fieldNat b 22 1)).2, (clampNat 2 30 (fieldNat b 23 1)).2,
   (clampNat 2 60 (fieldNat b 24 1)).2, (clampNat 0 600 (fieldNat b 25 2)).2, (clampNat 30 900 (fieldNat b 27 2)).2,
   (clampThreshold (fieldByte b 29)).2, (clampNat 1 30 (fieldNat b 30 1)).2, (clampNat 0 600 (fieldNat b 31 2)).2,
   false, (clampNat 50 500 (fieldNat b 34 2)).2, (clampNat 5 50 (fieldNat b 36 1)).2,
   (clampNat 2 60 (fieldNat b 37 1)).2, (clampNat 0 3 (fieldNat b 38 1)).2, (admissionModeOf (fieldByte b 39)).2,
   (admissionModeOf (fieldByte b 40)).2, (keypadFittedOf (fieldByte b 41)).2, (keypadFittedOf (fieldByte b 42)).2,
   (clampNat 60 1800 (fieldNat b 43 2)).2, (roundingOf (fieldByte b 45)).2]

/-- The result detail of an accepted CONFIG: the first field clamped, by its position (R184, R185). CLAMPED is set for an
unknown code that takes its default, too, which R184 leaves open (notes/assumptions/33.md). -/
def configDetail (b : List Byte) : Word32 :=
  match (configFlags b).findIdx? id with
  | some i => clampedBit ||| Config.configFieldDetail i
  | none => 0

/-! ### Request bodies -/

/-- The text a MESSAGE folio holds: as many characters as its body length says. -/
def State.messageOf (s : State) (sd : Side) : List Byte :=
  (s.bodyBytes (Folio.message sd)).take (s.header (Folio.message sd)).len.toNat

end Sys2Proof.Machine

namespace Sys2Proof

open Machine

/-- The code of an origin; `none` is a code of no origin. -/
def originByte : Option Origin → Byte
  | some o => Config.originCode o
  | none => Config.unknownCode

/-- The origin a byte spells. -/
def originOf (b : Byte) : Option Origin :=
  [Origin.attendant, .reader, .test].find? fun o => decide (Config.originCode o = b)

/-- The code of a limit kind; `none` is a code of no kind. -/
def limitByte : Option LimitKind → Byte
  | some k => Config.limitKindCode k
  | none => Config.unknownCode

/-- The limit kind a byte spells. -/
def limitOf (b : Byte) : Option LimitKind :=
  [LimitKind.money, .volume, .unlimited].find? fun k => decide (Config.limitKindCode k = b)

/-- An AUTHORIZE body. -/
def AuthReq.bytes (r : AuthReq) : List Byte :=
  [Config.orderCode 0, originByte r.origin, limitByte r.limit.kind] ++ be 3 r.limit.amount ++ [r.mask]

/-- The AUTHORIZE a body spells. -/
def AuthReq.ofBytes (b : List Byte) : AuthReq :=
  ⟨originOf (fieldByte b 1), ⟨limitOf (fieldByte b 2), fieldNat b 3 3⟩, fieldByte b 6⟩

/-- A CHANGE_LIMIT body. -/
def LimitReq.bytes (r : LimitReq) : List Byte := [Config.orderCode 1, limitByte r.kind] ++ be 3 r.amount

/-- The CHANGE_LIMIT a body spells. -/
def LimitReq.ofBytes (b : List Byte) : LimitReq := ⟨limitOf (fieldByte b 1), fieldNat b 2 3⟩

/-- A grade record. -/
def GradeReq.bytes (g : GradeReq) : List Byte := byte1 g.comp ++ byte1 g.margin ++ g.text.toList

/-- The GRADES body. -/
def GradesReq.bytes (r : GradesReq) : List Byte :=
  r.grades.toList.flatMap GradeReq.bytes ++ r.maps.a.toList.flatMap byte1 ++ r.maps.b.toList.flatMap byte1

/-- The GRADES a body spells. -/
def GradesReq.ofBytes (b : List Byte) : GradesReq where
  grades := Vector.ofFn fun i =>
    { comp := fieldNat b (6 * i.val) 1, margin := fieldNat b (6 * i.val + 1) 1,
      text := Vector.ofFn fun j => fieldByte b (6 * i.val + 2 + j.val) }
  maps := ⟨Vector.ofFn fun j => fieldNat b (36 + j.val) 1, Vector.ofFn fun j => fieldNat b (40 + j.val) 1⟩

/-- The PRICE STAGING body. -/
def StagingReq.bytes (r : StagingReq) : List Byte :=
  r.prices.toList.flatMap (be 3) ++ be 4 r.tag.toNat ++ byte1 r.cond ++ byte1 r.weekday ++ be 3 r.second

/-- The PRICE STAGING a body spells. -/
def StagingReq.ofBytes (b : List Byte) : StagingReq where
  prices := Vector.ofFn fun i => fieldNat b (3 * i.val) 3
  tag := BitVec.ofNat 32 (fieldNat b 18 4)
  cond := fieldNat b 22 1
  weekday := fieldNat b 23 1
  second := fieldNat b 24 3

/-- One CALIBRATION entry. -/
def CalEntry.bytes : CalEntry → List Byte
  | .leave => [0, 0, 0]
  | .set cf => 1 :: be 2 cf

/-- The CALIBRATION entry a body spells. -/
def CalEntry.ofBytes (b : List Byte) (off : Nat) : CalEntry :=
  let cf := fieldNat b (off + 1) 2
  match (fieldByte b off).toNat with
  | 0 => .leave
  | 1 => .set cf
  | _ => if Config.calActionIsSet (fieldByte b off) then .set cf else .leave

/-- The CALIBRATION body. -/
def calBytes (r : CalReq) : List Byte := Meter.all.flatMap fun m => (PerMeter.get r m).bytes

/-- The CALIBRATION a body spells. -/
def calOfBytes (b : List Byte) : CalReq :=
  ⟨⟨.ofBytes b 0, .ofBytes b 3, .ofBytes b 6⟩, ⟨.ofBytes b 9, .ofBytes b 12, .ofBytes b 15⟩⟩

/-- A byte with one bit, if `on`. -/
def markByte (c : FrameClass) (on : Bool) : Byte := if on then 1#8 <<< (Config.classMark c).val else 0

/-- The byte of an uplink class set. -/
def UpSet.byte (u : UpSet) : Byte := markByte .card u.card ||| markByte .entry u.entry ||| markByte .payload u.payload

/-- The byte of a downlink class set. -/
def DownSet.byte (d : DownSet) : Byte := markByte .prompt d.prompt ||| markByte .payload d.payload

/-- A class is marked in a class-set byte. -/
def marks (b : Byte) (c : FrameClass) : Bool := b.getLsbD (Config.classMark c).val

/-- The uplink class set a byte spells; marks for classes outside its direction are disregarded (R126). -/
def upSetOf (b : Byte) : UpSet := ⟨marks b .card, marks b .entry, marks b .payload⟩

/-- The downlink class set a byte spells; marks for classes outside its direction are disregarded (R126). -/
def downSetOf (b : Byte) : DownSet := ⟨marks b .prompt, marks b .payload⟩

/-- One side of the ADMISSION body. -/
def AdmissionSide.bytes (r : AdmissionSide) : List Byte :=
  r.keys.toList.flatMap (fun k => be 2 k.toNat)
    ++ [r.up.unit.byte, r.down.unit.byte, r.up.group.byte, r.down.group.byte, r.up.other.byte, r.down.other.byte]

/-- One side of the ADMISSION a body spells. -/
def AdmissionSide.ofBytes (b : List Byte) (off : Nat) : AdmissionSide where
  keys := Vector.ofFn fun i => BitVec.ofNat 16 (fieldNat b (off + 2 * i.val) 2)
  up := ⟨upSetOf (fieldByte b (off + 8)), upSetOf (fieldByte b (off + 10)), upSetOf (fieldByte b (off + 12))⟩
  down := ⟨downSetOf (fieldByte b (off + 9)), downSetOf (fieldByte b (off + 11)), downSetOf (fieldByte b (off + 13))⟩

/-- The ADMISSION body. -/
def admissionBytes (r : AdmissionReq) : List Byte := r.a.bytes ++ r.b.bytes

/-- The ADMISSION a body spells. -/
def admissionOfBytes (b : List Byte) : AdmissionReq := ⟨.ofBytes b 0, .ofBytes b 14⟩

/-- The WATCH body. -/
def watchBytes (r : Vector WatchReq 4) : List Byte :=
  r.toList.flatMap fun w => byte1 w.action ++ byte1 w.object ++ be 8 w.threshold

/-- The WATCH a body spells. -/
def watchOfBytes (b : List Byte) : Vector WatchReq 4 :=
  Vector.ofFn fun i => ⟨fieldNat b (10 * i.val) 1, fieldNat b (10 * i.val + 1) 1, fieldNat b (10 * i.val + 2) 8⟩

/-- The SCHEDULE body; a form that is neither is spelt by an open code. -/
def ScheduleReq.bytes : ScheduleReq → List Byte
  | .entries days => 0 :: days.toList.flatMap fun d => be 3 d.1 ++ be 3 d.2
  | .alwaysOpen => [1]
  | .other => [Config.unknownCode]

/-- The SCHEDULE a body spells. The form byte and the pairs are read at their places, whatever the body length says
(notes/assumptions/33.md). -/
def ScheduleReq.ofBytes (b : List Byte) : ScheduleReq :=
  match (fieldByte b 0).toNat with
  | 0 => .entries (Vector.ofFn fun i => (fieldNat b (1 + 6 * i.val) 3, fieldNat b (4 + 6 * i.val) 3))
  | 1 => .alwaysOpen
  | _ => .other

/-- The classes a DOWNLINK body may name. -/
def frameClasses : List FrameClass :=
  [.poll, .nothing, .hello, .card, .entry, .payload, .prompt, .ack, .busy, .tamper]

/-- The frame class a byte spells. -/
def frameClassOf (b : Byte) : FrameClass :=
  (frameClasses.find? fun c => decide (Config.frameClassCode c = b)).getD .other

/-- The DOWNLINK body. -/
def DownlinkReq.bytes (r : DownlinkReq) : List Byte :=
  byte1 r.addr ++ [Config.frameClassCode r.cls] ++ byte1 r.payload.length ++ r.payload

/-- The DOWNLINK a body spells. -/
def DownlinkReq.ofBytes (b : List Byte) : DownlinkReq :=
  ⟨fieldNat b 0 1, frameClassOf (fieldByte b 1), (b.drop 3).take (fieldNat b 2 1)⟩

/-- A SITE ORDER body with an argument of one byte, or none. -/
def siteBytes (index : Nat) (arg : List Byte) : List Byte := Config.siteOrderCode index :: arg

end Sys2Proof
end

