-- ==== Sys2Proof/Machine/Recovery.lean ====
section
/-!
DEFINITION. The journal's writes (R150), recovery (R152 to R154), host reset (R155), the power-fail warning (R151, R175) and
the cold start (R152, R186).
-/
namespace Sys2Proof.Machine

/-! ### Choosing the slot -/

/-- The first sequence number is newer than the second (R147). -/
def newerSeq (a b : Nat) : Bool :=
  let d := (a + 2 ^ 32 - b) % 2 ^ 32
  decide (0 < d ∧ d < 2 ^ 31)

/-- A VALID slot's number, sequence number and snapshot. -/
abbrev Found := Fin 16 × Nat × Snapshot

/-- The newer of what has been found and one more slot (R152). -/
def betterSlot (slots : Vector Slot 16) (best : Option Found) (i : Fin 16) : Option Found :=
  let q := slots.get i
  match q.kind with
  | .valid =>
    match best with
    | some b => if newerSeq q.found.1 b.2.1 then some (i, q.found) else best
    | none => some (i, q.found)
  | _ => best

/-- The newest VALID slot (R152). -/
def newestSlot (slots : Vector Slot 16) : Option Found := (List.finRange 16).foldl (betterSlot slots) none

/-- The BAD slots that follow a slot round the ring, up to the first that is not BAD; at most `k` are examined (R152). -/
def passedOver (slots : Vector Slot 16) : Nat → Fin 16 → List (Fin 16)
  | 0, _ => []
  | k + 1, i =>
    match (slots.get (slotAfter i)).kind with
    | .bad => slotAfter i :: passedOver slots k (slotAfter i)
    | _ => []

/-! ### Restoring -/

/-- Deliver a master CF to a channel at recovery (R8, R153); an UNSET factor leaves the 1024 of a part without one (R154). -/
def Channel.recovered (cf : Option Nat) (fault : Option FaultCause) : Channel :=
  { Channel.reset with cf := cf.getD 1024, fault := fault }

/-- The six channels after recovery (R21, R153). -/
def channelsOf (snap : Snapshot) : PerMeter Channel :=
  let one := fun m => Channel.recovered (PerMeter.get snap.master m) (PerMeter.get snap.faults m)
  ⟨⟨one ⟨.a, .low⟩, one ⟨.a, .high⟩, one ⟨.a, .aux⟩⟩, ⟨one ⟨.b, .low⟩, one ⟨.b, .high⟩, one ⟨.b, .aux⟩⟩⟩

/-- A side's records as recovery restores them (R144): the pending records without a mark. -/
def recordsOf (snap : Snapshot) (sd : Side) : Records where
  pending := (snap.pending.get sd).map fun r => ⟨r, false⟩
  unreported := snap.unreported.get sd
  inFolio := none

/-- The open sale of a snapshot as a POWER_LOST record (R153). -/
def SnapSale.lost (q : SnapSale) (snap : Snapshot) : SaleRecord :=
  let comp := match q.sale.cap with | some c => (snap.grades.get c.grade).comp | none => .aux
  { q.sale.final comp q.fines snap.clock with reason := some .powerLost }

/-- A side's open sale in the recovered slot becomes a pending record (R144, R153). -/
def State.loseSale (s : State) (snap : Snapshot) (sd : Side) : State :=
  match snap.sales.get sd with
  | some q => s.takeRecord (q.lost snap)
  | none => s

/-- Each slot passed over raises JOURNAL_SLOT_BAD (R152). -/
def State.raisePassed (s : State) : List (Fin 16) → State
  | [] => s
  | i :: rest => (s.raise .journalSlotBad i.val (.num 0) .unstated).raisePassed rest

/-- The motors at a recovery (R90): at a cold start the moment of power-on is their time of last stop. After a host reset
they stand as the reset left them. -/
def State.recoverMotors (s : State) (fromReset : Bool) : State := if fromReset then s else s.motorsReset

/-- What recovery restores from a slot: every owner's items (R153), the gates (R131), the motors' rest (R90). The divisor in
effect stands until the domain's next power-on (R111, R131). -/
def State.restore (s : State) (snap : Snapshot) (fromReset : Bool) : State :=
  let s := { s with
    pfe := { s.pfe with channels := channelsOf snap, stray := Both.same ⟨0, false⟩ }
    prices := { grades := snap.grades, maps := snap.maps, active := snap.active, staged := snap.staged, swapDue := false }
    store := { counter := snap.counter, records := ⟨recordsOf snap .a, recordsOf snap .b⟩
               totals := snap.totals, watches := snap.watches }
    gates := ⟨gateAtReset (snap.config.keypadFitted.get .a) (snap.trips.get .a) (snap.admission.get .a)
                (s.gate .a).divisor,
              gateAtReset (snap.config.keypadFitted.get .b) (snap.trips.get .b) (snap.admission.get .b)
                (s.gate .b).divisor⟩
    mode := { s.mode with
      schedule := snap.schedule
      clock := if fromReset then s.mode.clock else snap.clock
      clockUnset := if fromReset then s.mode.clockUnset else true }
    exch := { s.exch with config := snap.config } }
  s.recoverMotors fromReset

/-- At the end of recovery a restored bank that is staged AT_ONCE is due (R41). -/
def PriceTable.dueAtEnd (p : PriceTable) : Bool :=
  match p.staged with
  | some b => decide (b.cond = Condition.atOnce)
  | none => false

/-- The mode leaves COLD for CLOSED (R153, R154): READY becomes 1, inputs are read afresh, the posted folios are posted with
their fresh bits (R182), the swap is due (R41) and tested (R31), records flow (R136), and the open-now test is made
(R165). -/
def State.leaveCold (s : State) : State :=
  let place := fun m (c : Channel) =>
    { c with posA := PerMeter.get s.pins.phaseA m, posB := PerMeter.get s.pins.phaseB m, acc := 0,
             edgeA := none, edgeB := none }
  let ch := fun m => place m (s.chan m)
  let s := { s with
    exch := { s.exch with ready := true }
    prices := { s.prices with swapDue := s.prices.dueAtEnd }
    pfe := { s.pfe with channels :=
      ⟨⟨ch ⟨.a, .low⟩, ch ⟨.a, .high⟩, ch ⟨.a, .aux⟩⟩, ⟨ch ⟨.b, .low⟩, ch ⟨.b, .high⟩, ch ⟨.b, .aux⟩⟩⟩ }
    sides := ⟨{ s.sides.a with nozzles := s.pins.nozzles.a }, { s.sides.b with nozzles := s.pins.nozzles.b }⟩
    journal := { s.journal with switchClosed := s.pins.metrologyClosed }
    gates := ⟨{ s.gates.a with tamper := s.pins.tamperOpen.a }, { s.gates.b with tamper := s.pins.tamperOpen.b }⟩ }
  let s := s.changeMode .closed none (.modeCause .recovery)
  let s := s.bothSides fun s sd => if (s.gate sd).tamper then s.gateTamper sd 0 else s
  let s := s.swapTest.postPriceView.setFresh Folio.totals
  let s := ((s.reportFlow .a).reportFlow .b).postStatus
  if s.mode.clockUnset then s else s.openNowTest

/-- A gate takes its values of a recovery with no VALID slot (R131, R154): OFF, which a gate still TRIPPED at a host reset enters
by a change of gate state (R118). -/
def State.gateEmpty (s : State) (sd : Side) : State :=
  s.gateToReset sd (gateAtReset true none AdmissionSide.reset (s.gate sd).divisor)

/-- Recovery with no VALID slot (R154): every block takes its defaults, and READY becomes 1 at once. TOTALS, which no slot
backs, names no slot and sequence number 0 (notes/assumptions/39.md). -/
def State.recoverEmpty (s : State) (fromReset : Bool) : State :=
  let s := s.bothSides State.gateEmpty
  let s := { s with
    pfe := ⟨PerMeter.same Channel.reset, Both.same ⟨0, false⟩, s.pfe.nightFlag⟩
    prices := PriceTable.reset
    store := SaleStore.reset
    journal := { Journal.reset with slots := s.journal.slots, switchClosed := s.journal.switchClosed }
    mode := { s.mode with
      schedule := Schedule.closed
      clock := if fromReset then s.mode.clock else ⟨0, 0⟩
      clockUnset := if fromReset then s.mode.clockUnset else true }
    exch := { s.exch with config := Settings.default } }
  let s := { s with exch := { s.exch with
    totalsView := some { totals := Totals.zero, slot := none, seq := 0, counter := s.store.counter,
                         watches := watchView s.store.watches } } }
  ((s.recoverMotors fromReset).bump Folio.totals).leaveCold

/-- The next slot after recovery (R152): the one after the last slot passed over, which is never the newest slot (R150), or
the one after the recovered slot. -/
def nextAfterRecovery (i : Fin 16) (passed : List (Fin 16)) : Fin 16 :=
  match passed.getLast? with
  | some l => slotAfterFailed l (some i)
  | none => slotAfter i

/-- Recovery from the newest VALID slot (R152, R153): the slots passed over, the owners' items, the POWER_LOST records, the
sale numbers (R145), and the fresh snapshot. The clock is the slot's by the time the slots passed over raise their events
(notes/assumptions/25.md). STATUS's update here is no gathered one: the 100 ms of R182 do not run from it
(notes/assumptions/16.md). -/
def State.recoverFrom (s : State) (found : Found) (fromReset : Bool) : State :=
  let (i, seq, snap) := found
  let passed := passedOver s.journal.slots 15 i
  let s := (s.restore snap fromReset).raisePassed passed
  let s := { s with journal := { s.journal with
    newest := some i, seq := succ32 seq, next := nextAfterRecovery i passed, inFlight := none, request := false
    empty := false, master := snap.master, metrology := snap.metrology, periodicT := none, periodicSum := 0
    phase := .fresh, calWait := .idle, initWait := .idle, closeWait := .idle } }
  let s := (s.loseSale snap .a).loseSale snap .b
  let s := if fromReset then s
    else { s with store := { s.store with counter := advance32 (16 * (1 + passed.length)) s.store.counter } }
  let s := ((s.reportFlow .a).reportFlow .b).updateTotals i seq snap
  s.updatePriceView.rewriteStatus.beginWrite

/-- Recovery (R152 to R154). -/
def State.recover (s : State) (fromReset : Bool) : State :=
  match newestSlot s.journal.slots with
  | some found => s.recoverFrom found fromReset
  | none => s.recoverEmpty fromReset

/-! ### Cold start -/

/-- The bytes of SCRATCH, folios 27 to 31. -/
def scratchOf (m : Memory) : Memory := m.filter fun c => decide (27 * 256 ≤ c.1)

/-- The part at a cold start (R152, R186), before recovery: every block at its power-on values, with the time, the pins, the
queue and the store. -/
def State.coldState (s : State) (pins : Pins) (slots : Vector Slot 16) (scratch : Memory) : State :=
  { State.reset with
    now := s.now
    pins := pins
    pending := s.pending
    journal := { Journal.reset with slots := slots, switchClosed := pins.metrologyClosed }
    mode := { ModeCtl.reset with warning := pins.warning }
    exch := { Exchange.reset with mem := scratch } }

/-- The cold start that follows a cleared warning (R175, R186): SCRATCH is kept. -/
def State.coldStart (s : State) : State :=
  (s.coldState s.pins s.journal.slots (scratchOf s.exch.mem)).recover false

/-- In HOLDUP, the cold start waits for the warning to have cleared and the journal to have reported (R175). -/
def State.holdupTest (s : State) : State :=
  if s.mode.mode = .holdup ∧ s.mode.cleared ∧ s.journal.phase = .done then s.coldStart else s

/-! ### The special snapshots -/

/-- Put the journal in a phase. -/
def State.toPhase (s : State) (p : JPhase) : State := { s with journal := { s.journal with phase := p } }

/-- The pending request is cleared. -/
def State.clearRequest (s : State) : State := { s with journal := { s.journal with request := false } }

/-- With no write in flight, the reset snapshot begins; with JOURNAL_EMPTY set, recovery is made at once (R155). -/
def State.beginReset (s : State) : State :=
  if s.journal.empty then s.clearRequest.recover true else (s.toPhase .resetWriting).beginWrite

/-- With no write in flight, the final snapshot begins; with JOURNAL_EMPTY set, none is written (R151). The flag is judged now,
so a JOURNAL_INIT write that was in flight at the warning and has completed lets a final snapshot follow: R150 and R151 leave
open whether the moment of the warning counts (notes/assumptions/47.md). -/
def State.beginFinal (s : State) : State :=
  if s.journal.empty then (s.clearRequest.toPhase .done).holdupTest else (s.toPhase .finalWriting).beginWrite

/-! ### A write ends (R150) -/

/-- A party's wait after a failed write: the write that follows serves it. -/
def WriteWait.failed : WriteWait → WriteWait
  | .inWrite => .toBegin
  | w => w

/-- A party's wait after a completed write. -/
def WriteWait.completed : WriteWait → WriteWait
  | .inWrite => .idle
  | w => w

/-- The slot as it reads back after a write (R150). -/
def Write.readBack (w : Write) (damage : List Byte) : Slot := (Slot.written w.seq w.snap).spoil damage

/-- The slot's outcome is taken: a completed write, one whose slot reads back VALID, makes its slot the newest (R150), a failed
one leaves the newest slot. -/
def State.settleWrite (s : State) (w : Write) (q : Slot) : State :=
  let j := s.journal
  if q.kind = .valid then
    { s with journal := { j with
      slots := j.slots.set w.slot.val q, newest := some w.slot, next := slotAfter w.slot
      inFlight := none, empty := false
      calWait := j.calWait.completed, initWait := j.initWait.completed, closeWait := j.closeWait.completed } }
  else
    { s with journal := { j with
      slots := j.slots.set w.slot.val q, next := slotAfterFailed w.slot j.newest, inFlight := none
      calWait := j.calWait.failed, initWait := j.initWait.failed, closeWait := j.closeWait.failed } }

/-- The parties a completed write served: CALIBRATION's and JOURNAL_INIT's folios are handed back (R157, R158). -/
def State.serveWaits (s : State) (cal init : WriteWait) : State :=
  let s := if cal = .inWrite then s.handOver Folio.calibration .done (detailNum (s.journal.metrology.getD 0)) else s
  if init = .inWrite then s.handOver Folio.siteOrder .done else s

/-- What a completed write brings (R135, R141, R150, R157, R158): TOTALS with its fresh bit when it records a sale record or
is the one written for JOURNAL_INIT. -/
def State.writeDone (s : State) (w : Write) (q : Slot) : State :=
  let j := s.journal
  let recorded := s.anyMarked
  let s := s.settleWrite w q
  let s := (s.updateTotals w.slot w.seq w.snap).recordMarked w.slot
  let s := if recorded || w.forInit then s.setFresh Folio.totals else s
  let s := s.serveWaits j.calWait j.initWait
  if j.empty then s.postStatus else s

/-- A failed write (R150): JOURNAL_SLOT_BAD, and nothing is recorded. -/
def State.writeFailed (s : State) (w : Write) (q : Slot) : State :=
  (s.settleWrite w q).raise .journalSlotBad w.slot.val (.num w.seq) .unstated

/-- The next write begins when one is pending and none is in flight (R150). -/
def State.nextWrite (s : State) : State :=
  if s.journal.request && !s.journal.empty && s.journal.inFlight.isNone then s.beginWrite else s

/-- JOURNAL_INIT waits for the write in flight to end before its own begins (R158). -/
def State.nextAfterWrite (s : State) : State :=
  if s.journal.initWait = .toBegin then s.beginWrite else s.nextWrite

/-- A write that completes while the journal works as usual: the closing SNAPSHOT stage may end (R173). -/
def State.normalDone (s : State) (close : WriteWait) : State :=
  let s := s.nextAfterWrite
  if close = .inWrite ∧ s.mode.stage = some .snapshot then s.night else s

/-- What follows a completed write, by where the journal stands (R150 to R155). -/
def State.afterDone (s : State) (phase : JPhase) (close : WriteWait) : State :=
  match phase with
  | .normal => s.normalDone close
  | .fresh => ((s.toPhase .normal).leaveCold).nextWrite
  | .resetWait => s.beginReset
  | .resetWriting => s.clearRequest.recover true
  | .finalWait => s.beginFinal
  | .finalWriting => (s.toPhase .done).holdupTest
  | .coldWait => (s.toPhase .done).holdupTest
  | .done => s

/-- What follows a failed write: it is repeated at once, except on the way to HOLDUP's end (R150, R151, R155). -/
def State.afterFailed (s : State) (phase : JPhase) : State :=
  match phase with
  | .normal => s.beginWrite
  | .fresh => s.beginWrite
  | .resetWait => s.beginReset
  | .resetWriting => s.beginWrite
  | .finalWait => s.beginFinal
  | .finalWriting => (s.toPhase .done).holdupTest
  | .coldWait => (s.toPhase .done).holdupTest
  | .done => s

/-- The write in flight ends: the slot is read back and its CRC checked (R150). -/
def State.writeEnds (s : State) (damage : List Byte) : State :=
  match s.journal.inFlight with
  | none => s
  | some w =>
    let phase := s.journal.phase
    let close := s.journal.closeWait
    let q := w.readBack damage
    if q.kind = .valid then (s.writeDone w q).afterDone phase close else (s.writeFailed w q).afterFailed phase

/-! ### Host reset (R155) -/

/-- A folio at a host reset (R186): one that starts host-held and is held by the part is handed back with RESET; REPORT and
UPLINK return to PART with their fresh bits cleared. -/
def State.resetFolio (s : State) (f : Folio) : State :=
  if f.posted then s
  else
    match holderAtPowerOn f.val with
    | .host => if (s.header f).holder = Holder.part then s.handOver f .reset else s
    | .part => (s.setHeader f { s.header f with holder := .part }).clearFresh f

/-- Every folio of a list at a host reset. -/
def State.resetFolios (s : State) : List Folio → State
  | [] => s
  | f :: rest => (s.resetFolio f).resetFolios rest

/-- A channel at a host reset (R21): its fault and CF stand until the snapshot has been taken. -/
def Channel.hostReset (c : Channel) : Channel := { Channel.reset with cf := c.cf, fault := c.fault }

/-- A side at a host reset (R75). -/
def SideCtl.hostReset (x : SideCtl) : SideCtl := { x with last := LastSale.zero }

/-- A gate at a host reset (R131): a TRIPPED gate stays TRIPPED for the snapshot, any other is OFF at once. -/
def GateCtl.hostReset (g : GateCtl) : GateCtl :=
  gateAtReset g.keypad.configured (if g.state = .tripped then g.trip else none) g.admission g.divisor

/-- A side's gate takes its values of a host reset (R131). One that leaves STARTING, OPEN or RESTARTING for OFF does so by a
change of gate state (R118). The downlink in flight has been answered RESET before. -/
def State.gateReset (s : State) (sd : Side) : State := s.gateToReset sd (s.gate sd).hostReset

/-- The mode becomes COLD at a host reset (R155, R176): no stage, the opening outcome cleared, the warning input read
afresh. -/
def State.modeReset (s : State) : State :=
  (s.setMode { s.mode.noStage with outcome := Outcome.clear, warning := s.pins.warning }).changeMode .cold none
    (.modeCause .reset)

/-- A host reset (R155), in the order of its text: READY becomes 0 and the mode COLD, the sides complete their sales with
RESET, the motors, gates and displays take their reset values, and the journal begins its reset snapshot once no write is in
flight. It is taken while READY is 1 and the mode is not HOLDUP. -/
def State.hostReset (s : State) : State :=
  if s.exch.ready ∧ s.mode.mode ≠ .holdup then
    let s := ({ s with exch := { s.exch with ready := false } }).modeReset
    let s := (s.toPhase .resetWait).bothSides fun s sd => s.cutSale sd .reset
    let s := s.bothSides fun s sd => s.downlinkResult sd .reset
    let s := (s.motorsReset.bothSides State.gateReset).displaysReset
    let s := s.resetFolios (List.finRange 27)
    let s := { s with
      sides := s.sides.map SideCtl.hostReset
      pfe := { s.pfe with channels := s.pfe.channels.map (PerProduct.map Channel.hostReset)
                          stray := Both.same ⟨0, false⟩ }
      journal := { s.journal with calWait := .idle, initWait := .idle, closeWait := .idle } }
    let s := s.postStatus
    match s.journal.inFlight with
    | some _ => s
    | none => s.beginReset
  else s

/-! ### The power-fail warning (R151, R175) -/

/-- The journal takes the warning (R151, R155). -/
def State.journalWarning (s : State) (before : JPhase) : State :=
  let flying := s.journal.inFlight.isSome
  match before with
  | .normal => if flying then s else s.beginFinal
  | .resetWait => if s.journal.empty then s.toPhase .coldWait else s
  | .resetWriting => s.toPhase .finalWriting
  | .fresh => s.toPhase (if flying then .coldWait else .done)
  | _ => s.toPhase (if flying then .coldWait else .done)

/-- The mode enters HOLDUP (R175). The sales are completed before the gates leave OPEN: no rule orders R72 and R70 here
(notes/assumptions/37.md). -/
def State.enterHoldup (s : State) : State :=
  let before := s.journal.phase
  let s := (s.toPhase .finalWait).setMode { s.mode.noStage with warning := true, clearT := none, cleared := false }
  let s := { s with exch := { s.exch with ready := false } }
  let s := (s.changeMode .holdup none (.modeCause .warning)).raise .powerWarning 0 .unstated .unstated
  let s := s.bothSides fun s sd => s.cutSale sd .powerLost
  let s := ((s.motorsHoldup.gateClaim .a).gateClaim .b).displaysHoldup
  let s := { s with journal := { s.journal with
    periodicT := none, periodicSum := 0, closeWait := .idle } }
  s.postStatus.journalWarning before

/-- The level of the power-fail warning input at its pin. -/
def State.pinWarning (s : State) (on : Bool) : State := { s with pins := { s.pins with warning := on } }

/-- The warning input is asserted (R175). In HOLDUP the 1 s is waited for again, and a clear already reached is taken back
while the cold start still waits for the journal (notes/assumptions/40.md). -/
def State.warningAsserted (s : State) : State :=
  match s.mode.mode with
  | .holdup => s.setMode { s.mode with warning := true, clearT := none, cleared := false }
  | _ => s.enterHoldup

/-- The part starts from its store (R152, R176): a warning input found asserted ends recovery where it stands (R151,
R175; notes/assumptions/25.md). -/
def State.startCold (s : State) : State := if s.mode.warning then s.motorsReset.enterHoldup else s.recover false

end Sys2Proof.Machine
end

