-- ==== Sys2Proof/Machine/DisplayCmds.lean ====
section
/-!
DEFINITION. The Display Controller's commands (05).
-/
namespace Sys2Proof.Machine

/-! ### Transfers -/

/-- What a transfer's echo must equal (R91, R99 to R101): the last latched image, or the pattern its purpose names; `none` is
an echo that is not compared. -/
def Purpose.expects (p : Purpose) (latched : Option (List Byte)) : Option (List Byte) :=
  match p with
  | .refresh => latched
  | .z1 => latched
  | .z2 => some allOn
  | .t1 => none
  | .t2 => some allOn
  | .t3 => some allOff
  | .blank => none

/-- The judgement of an echo: the first byte that differs, or a match (R91, R103). -/
def judge (expected : Option (List Byte)) (echo : List Byte) : Option Nat :=
  match expected with
  | some img => firstDiff img echo 0
  | none => none

/-- The latch is pulsed (R91): the frame sent becomes the last latched image, unknown after a blanking transfer. -/
def DispSide.latch (d : DispSide) (t : Transfer) : DispSide :=
  { d with transfer := none, latched := if t.purpose = .blank then none else some t.frame }

/-- A refresh is judged (R99). -/
def State.refreshEnds (s : State) (sd : Side) (known : Bool) (diff : Option Nat) : State :=
  let d := s.disp sd
  match diff with
  | some i =>
    if d.mismatch + 1 ≥ 3 then s.displayFails sd .refresh i else s.setDisp sd { d with mismatch := d.mismatch + 1 }
  | none => if known then s.setDisp sd { d with mismatch := 0 } else s

/-- Z1 is judged (R100): the hold of 1 s follows a match. A check abandoned meanwhile is not judged. -/
def State.z1Ends (s : State) (sd : Side) (diff : Option Nat) : State :=
  let d := s.disp sd
  match d.zero with
  | some z =>
    if z.step = .z1 then
      match diff with
      | some i => s.displayFails sd .zeroCheck i
      | none => s.setDisp sd { d.zeroAt .hold with mismatch := 0, holdT := some (s.now + seconds 1) }
    else s
  | none => s

/-- Z2 is judged (R100): a match verifies the zero check. -/
def State.z2Ends (s : State) (sd : Side) (diff : Option Nat) : State :=
  let d := s.disp sd
  match d.zero with
  | some z =>
    if z.step = .z2 then
      match diff with
      | some i => s.displayFails sd .zeroCheck i
      | none => (s.setDisp sd { d with zero := none, mismatch := 0 }).zeroVerified sd z.sale
    else s
  | none => s

/-- A lamp test stands at a step. -/
def DispSide.testing (d : DispSide) (step : LampStep) : Bool :=
  match d.lamp with
  | some l => decide (l.step = step)
  | none => false

/-- T1 has ended (R101). It is not compared, so the mismatch count stays as it stood: R91 and R99 leave open whether T1 counts as
a check transfer that matches (notes/assumptions/51.md). -/
def State.t1Ends (s : State) (sd : Side) : State :=
  let d := s.disp sd
  if d.testing .t1 then s.setDisp sd { d.lampAt .hold1 with holdT := some (s.now + seconds 1) } else s

/-- T2 is judged (R101). -/
def State.t2Ends (s : State) (sd : Side) (diff : Option Nat) : State :=
  let d := s.disp sd
  if d.testing .t2 then
    match diff with
    | some i => s.displayFails sd .lampTest i
    | none => s.setDisp sd { d.lampAt .hold2 with mismatch := 0, holdT := some (s.now + seconds 1) }
  else s

/-- A lamp test passes (R101): the side enters LIT, and the opening hears of it. -/
def State.lampPasses (s : State) (sd : Side) (l : LampTest) : State :=
  let s := (s.setDisp sd { s.disp sd with state := .lit, mismatch := 0, lamp := none }).postStatus
  let s := if l.fromFault then s.raise .displayOk sd.number .unstated .unstated else s
  s.lampDone sd false

/-- T3 is judged (R101). -/
def State.t3Ends (s : State) (sd : Side) (diff : Option Nat) : State :=
  match (s.disp sd).lamp with
  | some l =>
    if l.step = .t3 then
      match diff with
      | some i => s.displayFails sd .lampTest i
      | none => s.lampPasses sd l
    else s
  | none => s

/-- A retest of a LIT side begins once its blanking transfer has ended (R102): the side enters TESTING and its folio goes
back. -/
def State.retestBegins (s : State) (sd : Side) (l : LampTest) : State :=
  let s := (s.setDisp sd { s.disp sd with
    state := .testing, lamp := some { l with step := .wait, order := false } }).postStatus
  if l.order then s.handOver Folio.siteOrder .done else s

/-- The LAMP stage still awaits a side's lamp test (R168). -/
def State.lampAsked (s : State) (sd : Side) : Bool :=
  decide (s.mode.stage = some .lamp) && s.mode.lampAwait.get sd

/-- A side enters DARK once it has blanked (R104). A retest that still waited is answered (R102), and a lamp test that the
next opening's LAMP stage has asked for meanwhile begins (R168). -/
def State.blankedDark (s : State) (sd : Side) : State :=
  let s := ((s.releaseRetest sd).setDisp sd (s.disp sd).enterDark).postStatus
  (if s.lampAsked sd then s.beginLamp sd false else s).darkReport

/-- A blanking transfer has ended (R102 to R104). -/
def State.blankEnds (s : State) (sd : Side) : State :=
  let d := s.disp sd
  if d.goingDark then s.blankedDark sd
  else
    match d.lamp with
    | some l => if l.step = .blanking then s.retestBegins sd l else s
    | none => s

/-- A transfer has ended and is judged under its purpose (R91). -/
def State.judgeTransfer (s : State) (sd : Side) (p : Purpose) (known : Bool) (diff : Option Nat) : State :=
  match p with
  | .refresh => s.refreshEnds sd known diff
  | .z1 => s.z1Ends sd diff
  | .z2 => s.z2Ends sd diff
  | .t1 => s.t1Ends sd
  | .t2 => s.t2Ends sd diff
  | .t3 => s.t3Ends sd diff
  | .blank => s.blankEnds sd

/-- TRANSFER_END (R91): the latch is pulsed, the echo judged, and the transfer that waits begins. A transfer that ends on a
side gone DARK with the mode in HOLDUP is finished and not judged (R106). -/
def execTransferEnd (dt : Nat) (sd : Side) (echo : List Byte) (s : State) : Host.Outcome State Fault Refusal :=
  let s := s.elapse dt
  let d := s.disp sd
  .next (match d.transfer with
    | none => s
    | some t =>
      if d.state = .dark then s.setDisp sd { d with transfer := none } else
      let diff := judge (t.purpose.expects d.latched) echo
      ((s.setDisp sd (d.latch t)).judgeTransfer sd t.purpose d.latched.isSome diff).nextTransfer sd)

/-- The condition under which a refresh begins on a LIT side (R98). -/
def DispSide.refreshDue (d : DispSide) (t : Word32) : Bool :=
  decide (d.state = .lit) && d.transfer.isNone && d.zero.isNone && d.lamp.isNone && !d.goingDark
    && (d.recompose || (d.figures && passed t d.composedAt 100000) || passed t d.transferAt 500000)

/-- REFRESH_START (R98). -/
def execRefreshStart (dt : Nat) (sd : Side) (s : State) : Host.Outcome State Fault Refusal :=
  let s := s.elapse dt
  .next (if (s.disp sd).refreshDue s.capture then s.startComposed sd .refresh else s)

/-! ### Holds -/

/-- The zero check's hold is running and due (R100). -/
def DispSide.zeroHoldDue (d : DispSide) (now : Nat) : Bool :=
  (match d.zero with | some z => decide (z.step = .hold) | none => false) && d.holdT.due now

/-- ZERO_CHECK_HOLD (R100): Z2, a composed frame, is sent. -/
def execZeroCheckHold (dt : Nat) (sd : Side) (s : State) : Host.Outcome State Fault Refusal :=
  let s := s.elapse dt
  let d := s.disp sd
  .next (if d.zeroHoldDue s.now then (s.setDisp sd { d.zeroAt .z2 with holdT := none }).startComposed sd .z2 else s)

/-- LAMP_TEST_HOLD (R101): T2 follows the first hold, T3 the second. -/
def execLampTestHold (dt : Nat) (sd : Side) (s : State) : Host.Outcome State Fault Refusal :=
  let s := s.elapse dt
  let d := s.disp sd
  .next (if d.holdT.due s.now then
      if d.testing .hold1 then (s.setDisp sd { d.lampAt .t2 with holdT := none }).startTransfer sd allOff .t2
      else if d.testing .hold2 then (s.setDisp sd { d.lampAt .t3 with holdT := none }).startComposed sd .t3
      else s
    else s)

/-! ### DISPLAY_RETEST -/

/-- The states of a side in which a lamp test would replace the frames of a captured sale (R102). -/
def SideState.hasFrames : SideState → Bool
  | .starting => true
  | .flowing => true
  | .slow => true
  | .suspended => true
  | .ending => true
  | .ended => true
  | _ => false

/-- DISPLAY_RETEST is refused with WRONG_STATE (R102). -/
def State.retestRefused (s : State) (sd : Side) : Bool :=
  let d := s.disp sd
  decide (d.state = .dark) || decide (d.state = .testing) || !s.display.supply || (s.side sd).state.hasFrames

/-- DISPLAY_RETEST as the controller takes it (R102): the folio is handed back as the test begins. Once the dark timer has
expired the test is abandoned as it is taken, and the side goes dark with the others (R104; notes/assumptions/14.md). -/
def State.serveRetest (s : State) (n : Nat) : State :=
  let f := Folio.siteOrder
  match Side.ofNumber n with
  | none => s.handOver f .invalidSide
  | some sd =>
    if s.retestRefused sd then s.handOver f .wrongState
    else
      let s :=
        match (s.disp sd).state with
        | .lit => s.beginLamp sd true
        | _ => (s.beginLamp sd false).handOver f .done
      if s.display.darkening then s.darkenSide sd else s

/-- DISPLAY_RETEST (R102). -/
def execDisplayRetest (dt : Nat) (ref : Word32) (n : Nat) (s : State) : Host.Outcome State Fault Refusal :=
  .next ((s.elapse dt).request Folio.siteOrder ref (siteBytes 5 (byte1 n)) fun s => s.serveRetest n)

/-! ### Dark timer, message, heater -/

/-- DARK_DELAY (R104). -/
def execDarkDelay (dt : Nat) (s : State) : Host.Outcome State Fault Refusal :=
  let s := s.elapse dt
  .next (if s.display.darkT.due s.now then s.darkExpire.darkReport else s)

/-- A character of the host text (R97): digits, capital letters, space, '-' and '.' as given, any other a blank. Their
codes are ASCII's, which no rule says (notes/assumptions/49.md). -/
def textChar (c : Byte) : Byte :=
  let n := c.toNat
  if (48 ≤ n ∧ n ≤ 57) ∨ (65 ≤ n ∧ n ≤ 90) ∨ n = 32 ∨ n = 45 ∨ n = 46 then c else 0x20#8

/-- MESSAGE as the controller takes it (R97). -/
def State.serveMessage (s : State) (sd : Side) : State :=
  let text := s.messageOf sd
  let s := s.setDisp sd { s.disp sd with hostText := (text.take 8).map textChar }
  (s.recompose sd).handOver (Folio.message sd) .done (if 8 < text.length then clampedBit else 0)

/-- MESSAGE (R97). -/
def execMessage (dt : Nat) (sd : Side) (ref : Word32) (text : List Byte) (s : State) :
    Host.Outcome State Fault Refusal :=
  .next ((s.elapse dt).request (Folio.message sd) ref text fun s => s.serveMessage sd)

/-- A reading in range becomes the last reading (R107). -/
def State.takeReading (s : State) (t : Int) : State :=
  let s := { s with display := { s.display with temperature := some t } }
  if s.display.heater ∧ s.cfg.warmThreshold + 2 ≤ t then
    ({ s with display := { s.display with heater := false, warmT := none } }).warmDone false
  else s

/-- TEMPERATURE_SAMPLE (R107): a reading outside -40 to +85 leaves the last one held; none is taken in COLD and HOLDUP. -/
def execTemperatureSample (dt : Nat) (reading : Int) (s : State) : Host.Outcome State Fault Refusal :=
  let s := s.elapse dt
  .next (if !s.dormant && decide (-40 ≤ reading ∧ reading ≤ 85) then s.takeReading reading else s)

/-- WARM_LIMIT (R107): the stage is done with the cold detail. -/
def execWarmLimit (dt : Nat) (s : State) : Host.Outcome State Fault Refusal :=
  let s := s.elapse dt
  .next (if s.display.warmT.due s.now then
      ({ s with display := { s.display with heater := false, warmT := none, coldFlag := true } }).warmDone true
    else s)

end Sys2Proof.Machine
end

