-- ==== Sys2Proof/Machine/JournalCmds.lean ====
section
/-!
DEFINITION. The Metrology Journal's commands (08), and the resets that recovery serves.
-/
namespace Sys2Proof.Machine

/-- PERIODIC_TIMER (R149): a snapshot is asked for. -/
def execPeriodicTimer (dt : Nat) (s : State) : Host.Outcome State Fault Refusal :=
  let s := s.elapse dt
  .next (if s.journal.periodicT.due s.now then s.requestSnapshot else s)

/-- JOURNAL_WRITE_COMPLETE (R150): the slot is read back, with the bits of `damage` wrong. -/
def execJournalWriteComplete (dt : Nat) (damage : List Byte) (s : State) : Host.Outcome State Fault Refusal :=
  .next ((s.elapse dt).writeEnds damage)

/-- The switch is taken (R156): STATUS is posted and the change is a source change for both sides. -/
def State.takeSwitch (s : State) (closed : Bool) : State :=
  if s.journal.switchClosed = closed then s
  else ({ s with journal := { s.journal with switchClosed := closed } }).recomposeBoth.postStatus

/-- METROLOGY_SWITCH_CHANGE (R156): not watched in HOLDUP. -/
def execMetrologySwitchChange (dt : Nat) (closed : Bool) (s : State) : Host.Outcome State Fault Refusal :=
  let s := s.elapse dt
  let s := { s with pins := { s.pins with metrologyClosed := closed } }
  .next (if s.mode.mode = .holdup then s else s.takeSwitch closed)

/-! ### CALIBRATION -/

/-- A new CF is out of range, or further than one sixteenth from a factor that is not UNSET (R157). -/
def outOfStep (old : Option Nat) (new : Nat) : Bool :=
  decide (new < 256) || decide (16383 < new)
    || match old with
      | some o => decide (o < (if o ≤ new then new - o else o - new) * 16)
      | none => false

/-- The check of R157 a meter's entry fails, after the switch's. -/
def State.calRefusal (s : State) (r : CalReq) (m : Meter) : Option Result :=
  match PerMeter.get r m with
  | .leave => none
  | .set cf =>
    if outOfStep (PerMeter.get s.journal.master m) cf then some .outOfStep
    else if (s.side m.side).state.blocksSwap then some .meterBusy
    else none

/-- The first entry, in meter order, that fails, with its first failing check (R157; notes/assumptions/15.md). -/
def State.firstBadCal (s : State) (r : CalReq) : Option (Meter × Result) :=
  Meter.all.findSome? fun m => (s.calRefusal r m).map fun e => (m, e)

/-- A new CF reaches its channel (R8): at once, or when the attachment ends. -/
def Channel.deliver (c : Channel) (cf : Nat) : Channel :=
  match c.attached with
  | some _ => { c with cfAside := some cf }
  | none => { c with cf := cf }

/-- One SET entry is applied (R157). -/
def State.applyCal (s : State) (m : Meter) (e : CalEntry) : State :=
  match e with
  | .leave => s
  | .set cf =>
    let old := (PerMeter.get s.journal.master m).getD 0
    let s := { s with journal := { s.journal with
      master := PerMeter.set s.journal.master m (some cf), metrology := advanceMetrology s.journal.metrology } }
    (s.raise .calibration m.number (.num old) (.num cf)).setChan m ((s.chan m).deliver cf)

/-- The entries of a list of meters are applied in order (R157). -/
def State.applyCals (s : State) (r : CalReq) : List Meter → State
  | [] => s
  | m :: rest => (s.applyCal m (PerMeter.get r m)).applyCals r rest

/-- Every entry is LEAVE. -/
def calAllLeave (r : CalReq) : Bool := Meter.all.all fun m => decide (PerMeter.get r m = .leave)

/-- The journal asks itself for a snapshot that its CALIBRATION folio waits for (R157). -/
def State.awaitCal (s : State) : State :=
  ({ s with journal := { s.journal with calWait := .toBegin } }).requestSnapshot

/-- CALIBRATION as the journal takes it (R157). -/
def State.serveCalibration (s : State) (r : CalReq) : State :=
  let f := Folio.calibration
  if s.journal.switchClosed = false then s.handOver f .metrologySwitch
  else
    match s.firstBadCal r with
    | some (m, e) => s.handOver f e (detailNum m.number)
    | none => if calAllLeave r then s.handOver f .done else (s.applyCals r Meter.all).awaitCal

/-- CALIBRATION (R157). -/
def execCalibration (dt : Nat) (ref : Word32) (req : CalReq) (s : State) : Host.Outcome State Fault Refusal :=
  .next ((s.elapse dt).request Folio.calibration ref (calBytes req) fun s => s.serveCalibration req)

/-! ### JOURNAL_INIT -/

/-- The first meter whose master CF is UNSET (R158). -/
def firstUnset (t : PerMeter (Option Nat)) : Option Meter := Meter.all.find? fun m => (PerMeter.get t m).isNone

/-- JOURNAL_INIT is accepted (R158): the totals are zeroed, the counter advances, and its write begins, or begins when the
write in flight ends. -/
def State.initJournal (s : State) : State :=
  let counter := advanceMetrology s.journal.metrology
  let s := { s with
    store := { s.store with totals := Totals.zero }
    journal := { s.journal with metrology := counter, initWait := .toBegin } }
  let s := s.raise .calibration 0 (.num 0) (.num (counter.getD 0))
  match s.journal.inFlight with
  | some _ => s
  | none => s.beginWrite

/-- JOURNAL_INIT as the journal takes it (R158). -/
def State.serveJournalInit (s : State) : State :=
  let f := Folio.siteOrder
  if s.journal.switchClosed = false then s.handOver f .metrologySwitch
  else if s.mode.mode ≠ .closed then s.handOver f .mode
  else
    match firstUnset s.journal.master with
    | some m => s.handOver f .outOfStep (detailNum m.number)
    | none => s.initJournal

/-- JOURNAL_INIT (R158): the folio stays part-held until its write completes. -/
def execJournalInit (dt : Nat) (ref : Word32) (s : State) : Host.Outcome State Fault Refusal :=
  .next ((s.elapse dt).request Folio.siteOrder ref (siteBytes 8 []) fun s => s.serveJournalInit)

/-! ### Resets -/

/-- The store after power has gone: a write in flight had put its first bytes there (R152). -/
def slotsAfterCut (j : Journal) (taken : Nat) : Vector Slot 16 :=
  match j.inFlight with
  | some w => j.slots.set w.slot.val ((j.slots.get w.slot).torn (Slot.written w.seq w.snap) taken)
  | none => j.slots

/-- Slots whose contents have decayed (R152). -/
def decaySlots (slots : Vector Slot 16) : List (Fin 16 × List Byte) → Vector Slot 16
  | [] => slots
  | d :: rest => decaySlots (slots.set d.1.val ((slots.get d.1).spoil d.2)) rest

/-- POWER_ON (R152): the exchange memory is rebuilt (R186), SCRATCH is zeros, and the part starts from the store. -/
def execPowerOn (dt : Nat) (pins : Pins) (taken : Nat) (decay : List (Fin 16 × List Byte)) (s : State) :
    Host.Outcome State Fault Refusal :=
  let s := s.elapse dt
  .next ((s.coldState pins (decaySlots (slotsAfterCut s.journal taken) decay) []).startCold)

/-- HOST_RESET (R155): the host writes 1 to CONTROL's RESET bit. -/
def execHostReset (dt : Nat) (s : State) : Host.Outcome State Fault Refusal := .next (s.elapse dt).hostReset

end Sys2Proof.Machine
end

