-- ==== Sys2Proof/Machine/MeterCmds.lean ====
section
/-!
DEFINITION. The Pulse Front End's commands (01): PULSER_EDGE, RATE_EXPIRY and METER_CLEAR.
-/
namespace Sys2Proof.Machine

/-! ### The glitch filter and the decoder -/

/-- The level of one phase of a meter's pulser changes at its pin. -/
def State.togglePhase (s : State) (m : Meter) (ph : Phase) : State :=
  match ph with
  | .a => { s with pins := { s.pins with phaseA := PerMeter.set s.pins.phaseA m (!PerMeter.get s.pins.phaseA m) } }
  | .b => { s with pins := { s.pins with phaseB := PerMeter.set s.pins.phaseB m (!PerMeter.get s.pins.phaseB m) } }

/-- The last edge time of a phase. -/
def Channel.edge (c : Channel) : Phase → Option Word32
  | .a => c.edgeA
  | .b => c.edgeB

/-- An edge's time becomes its phase's last edge time (R2). -/
def Channel.setEdge (c : Channel) (ph : Phase) (t : Word32) : Channel :=
  match ph with
  | .a => { c with edgeA := some t }
  | .b => { c with edgeB := some t }

/-- An edge is ignored less than 20 us after the previous edge on its phase (R2). -/
def Channel.ignores (c : Channel) (ph : Phase) (t : Word32) : Bool :=
  match c.edge ph with
  | some e => decide ((t - e).toNat < 20)
  | none => false

/-- The noise count increases by 1, held at 65 535 (R1, R2). -/
def Channel.addNoise (c : Channel) : Channel := { c with noise := min 65535 (c.noise + 1) }

/-- The noise fault's condition after an increase (R19). -/
def State.noiseTest (s : State) (m : Meter) : State :=
  let c := s.chan m
  if c.attached.isSome ∧ c.noise = 65 then s.meterFault m .noise 65 else s

/-- The single-phase run after an accepted edge (R5). -/
def Channel.run (c : Channel) (ph : Phase) : Channel :=
  if c.runPhase = ph ∧ 0 < c.runCount then { c with runCount := min 255 (c.runCount + 1) }
  else { c with runPhase := ph, runCount := 1 }

/-- The place of a decoder position on R1's ring: (low, low), (high, low), (high, high), (low, high). -/
def ringPlace (a b : Bool) : Nat :=
  match a, b with
  | false, false => 0
  | true, false => 1
  | true, true => 2
  | false, true => 3

/-- What a decoder's move comes to (R1). -/
inductive Move where
  | stay
  | forward
  | backward
  | unresolved
deriving DecidableEq, Repr

/-- The move from one position to another (R1). -/
def moveOf (fromA fromB toA toB : Bool) : Move :=
  match (ringPlace toA toB + 4 - ringPlace fromA fromB) % 4 with
  | 0 => .stay
  | 1 => .forward
  | 2 => .unresolved
  | _ => .backward

/-- The quarter-step of a move. -/
def Move.step : Move → Int
  | .forward => 1
  | .backward => -1
  | .stay => 0
  | .unresolved => 0

/-- What the step accumulator completes (R3). -/
inductive Cycle where
  | none
  | forward
  | reverse
deriving DecidableEq, Repr

/-- The step accumulator after a quarter-step, and the cycle it completes (R3). -/
def accumulate (acc step : Int) : Int × Cycle :=
  let a := acc + step
  if a = 4 then (0, .forward) else if a = -4 then (0, .reverse) else (a, .none)

/-! ### Counted cycles -/

/-- A counted cycle's period goes into the capture window, and the present time becomes the stamp (R15). -/
def Channel.stampCycle (c : Channel) (t : Word32) : Channel :=
  match c.stamp with
  | some t0 =>
    { c with window := (c.window ++ [(t - t0).toNat]).drop (c.window.length + 1 - 16), stamp := some t }
  | none => { c with stamp := some t }

/-- An unattributed cycle while OPENING, OPEN or CLOSING feeds the side's stray-flow sum (R12). -/
def State.strayFlow (s : State) (m : Meter) (cf : Nat) : State :=
  let q := s.pfe.stray.get m.side
  let sum := q.sum + cf
  let crosses := decide (20480 < sum) && !q.reported
  let s := { s with pfe := { s.pfe with stray := s.pfe.stray.set m.side ⟨sum, q.reported || crosses⟩ } }
  if crosses then s.raise .strayFlow m.side.number (.num m.number) (.num sum) else s

/-- An unattributed cycle in CLOSED raises NIGHT_FLOW once (R13). -/
def State.nightFlow (s : State) (m : Meter) (cf : Nat) : State :=
  if s.pfe.nightFlag then s
  else ({ s with pfe := { s.pfe with nightFlag := true } }).raise .nightFlow m.number (.num cf) (.num 0)

/-- Where an unattributed cycle is noted, by the mode (R9, R12, R13). -/
def State.unattributedFlow (s : State) (m : Meter) (cf : Nat) : State :=
  match s.mode.mode with
  | .opening => s.strayFlow m cf
  | .openMode => s.strayFlow m cf
  | .closing => s.strayFlow m cf
  | .closed => s.nightFlow m cf
  | _ => s

/-- A counted cycle's destination (R9): the accumulator of the sale the channel is attached to, with its notice, or the
unattributed total. -/
def State.attribute (s : State) (m : Meter) (cf : Nat) : State :=
  let c := s.chan m
  match c.attached with
  | some a =>
    let s := s.setChan m { c with attached := some { a with fine := satAdd64 a.fine cf } }
    (s.noticeCycle m.side).periodicAdd cf
  | none => (s.addUnattributed m cf).unattributedFlow m cf

/-- The overspeed comparison (R18). -/
def State.overspeedTest (s : State) (m : Meter) : State :=
  let rate := s.meterRate m
  if (s.chan m).window.length = 16 ∧ PerMeter.get s.cfg.maxFlow m < rate then s.meterFault m .overspeed rate else s

/-- A counted cycle (R9, R15, R18). -/
def State.countCycle (s : State) (m : Meter) : State :=
  let cf := (s.chan m).cf
  let s := (s.addMeterTotal m cf).attribute m cf
  (s.setChan m ((s.chan m).stampCycle s.capture)).overspeedTest m

/-- A forward cycle repays the back count, or is counted (R7). -/
def State.forwardCycle (s : State) (m : Meter) : State :=
  let c := s.chan m
  if 0 < c.back then s.setChan m { c with back := c.back - 1 } else s.countCycle m

/-- A reverse cycle adds to the back count, or is a REVERSE fault (R6). -/
def State.reverseCycle (s : State) (m : Meter) : State :=
  let c := s.chan m
  if c.back = 16 then s.meterFault m .reverse 17 else s.setChan m { c with back := c.back + 1 }

/-- An accepted edge's quarter-step goes to the accumulator, unless the run has marked it as lost (R1, R3, R5). -/
def State.decodeEdge (s : State) (m : Meter) (lost : Bool) : State :=
  let c := s.chan m
  let a := PerMeter.get s.pins.phaseA m
  let b := PerMeter.get s.pins.phaseB m
  let move := moveOf c.posA c.posB a b
  let c := { c with posA := a, posB := b }
  if move = .unresolved then (s.setChan m c.addNoise).noiseTest m
  else if lost then s.setChan m c
  else
    let (acc, cycle) := accumulate c.acc move.step
    let s := s.setChan m { c with acc := acc }
    match cycle with
    | .none => s
    | .forward => s.forwardCycle m
    | .reverse => s.reverseCycle m

/-- An accepted edge (R1, R5). -/
def State.acceptEdge (s : State) (m : Meter) (ph : Phase) : State :=
  let before := (s.chan m).runCount
  let c := (s.chan m).run ph
  let s := s.setChan m c
  let s := if c.runCount = 8 ∧ before = 7 then s.meterFault m .phaseLoss 8 else s
  s.decodeEdge m (decide (8 ≤ c.runCount))

/-- An edge at the channel (R2). -/
def State.channelEdge (s : State) (m : Meter) (ph : Phase) : State :=
  let c := s.chan m
  let t := s.capture
  let c' := c.setEdge ph t
  if c.ignores ph t then (s.setChan m c'.addNoise).noiseTest m else (s.setChan m c').acceptEdge m ph

/-- PULSER_EDGE (R2): the pin changes in every mode; the channels take no edges in COLD and HOLDUP (R14). -/
def execPulserEdge (dt : Nat) (m : Meter) (ph : Phase) (s : State) : Host.Outcome State Fault Refusal :=
  let s := (s.elapse dt).togglePhase m ph
  .next (if s.dormant then s else s.channelEdge m ph)

/-! ### RATE_EXPIRY -/

/-- One second has passed since the last-count stamp (R16). -/
def Channel.expires (c : Channel) (t : Word32) : Bool :=
  match c.stamp with
  | some t0 => decide (1000000 ≤ (t - t0).toNat)
  | none => false

/-- RATE_EXPIRY (R16): the window empties and the stamp becomes absent; held in COLD and HOLDUP (R14). -/
def execRateExpiry (dt : Nat) (m : Meter) (s : State) : Host.Outcome State Fault Refusal :=
  let s := s.elapse dt
  let c := s.chan m
  .next (if !s.dormant && c.expires s.capture then s.setChan m { c with window := [], stamp := none } else s)

/-! ### METER_CLEAR -/

/-- METER_CLEAR's body. -/
def meterClearBytes (n : Nat) : List Byte := siteBytes 3 (byte1 n)

/-- A meter's counts are cleared (R20). -/
def Channel.clearCounts (c : Channel) : Channel := { c with back := 0, noise := 0, runCount := 0, fault := none }

/-- METER_CLEAR as the PFE takes it (R20). A cleared meter brings a retest of its side's readiness (R50). -/
def State.serveMeterClear (s : State) (n : Nat) : State :=
  let f := Folio.siteOrder
  match Meter.ofNumber n with
  | none => s.handOver f .invalidMeter
  | some m =>
    if (s.side m.side).state.holdsSale then s.handOver f .wrongState
    else
      let c := s.chan m
      let s := s.setChan m c.clearCounts
      let s :=
        match c.fault with
        | some cause =>
          ((s.raise .meterCleared m.number (.faultCause cause) .unstated).postStatus).testReadiness m.side
        | none => s
      s.handOver f .done

/-- METER_CLEAR (R20). -/
def execMeterClear (dt : Nat) (ref : Word32) (n : Nat) (s : State) : Host.Outcome State Fault Refusal :=
  .next ((s.elapse dt).request Folio.siteOrder ref (meterClearBytes n) fun s => s.serveMeterClear n)

end Sys2Proof.Machine
end

