-- ==== Sys2Proof/Machine/ModeCmds.lean ====
section
/-!
DEFINITION. The Mode Controller's commands (09).
-/
namespace Sys2Proof.Machine

/-- POWER_WARNING (R175). -/
def execPowerWarning (dt : Nat) (s : State) : Host.Outcome State Fault Refusal :=
  .next ((s.elapse dt).pinWarning true).warningAsserted

/-- WARNING_INPUT_INACTIVE (R175): the 1 s wait begins in HOLDUP. The warning input that STATUS shows (R160) reads clear from
here on, before the 1 s has passed, which no rule says (notes/assumptions/53.md). -/
def execWarningInputInactive (dt : Nat) (s : State) : Host.Outcome State Fault Refusal :=
  let s := (s.elapse dt).pinWarning false
  .next (if s.mode.mode = .holdup ∧ s.mode.warning then
      s.setMode { s.mode with warning := false, clearT := some (s.now + seconds 1) }
    else s)

/-- WARNING_CLEARED (R175): the input has been inactive for 1 s; the cold start waits for the journal's report. -/
def execWarningCleared (dt : Nat) (s : State) : Host.Outcome State Fault Refusal :=
  let s := s.elapse dt
  .next (if decide (s.mode.mode = .holdup) && s.mode.clearT.due s.now then
      (s.setMode { s.mode with clearT := none, cleared := true }).holdupTest
    else s)

/-- CLOCK_TICK (R161): the clock runs in every mode. -/
def execClockTick (dt : Nat) (s : State) : Host.Outcome State Fault Refusal :=
  let s := s.elapse dt
  .next (s.setMode { s.mode with clock := s.mode.clock.tick }).newClock

/-- SET_CLOCK is accepted (R162). -/
def State.applyClock (s : State) (c : Clock) : State :=
  let old := s.mode.clock
  let wasUnset := s.mode.clockUnset
  let s := s.setMode { s.mode with clock := c, clockUnset := false }
  let s := (s.raise .clockSet 0 (.num old.toNat) (.num c.toNat)).newClock
  if wasUnset then s.openNowTest else s

/-- SET_CLOCK as the Mode Controller takes it (R162). -/
def State.serveSetClock (s : State) (weekday second : Nat) : State :=
  let f := Folio.siteOrder
  if 6 < weekday ∨ 86399 < second then s.handOver f .invalidClock
  else (s.applyClock ⟨weekday, second⟩).handOver f .done

/-- SET_CLOCK (R162). -/
def execSetClock (dt : Nat) (ref : Word32) (weekday second : Nat) (s : State) : Host.Outcome State Fault Refusal :=
  .next ((s.elapse dt).request Folio.siteOrder ref (siteBytes 2 (byte1 weekday ++ be 3 second)) fun s =>
    s.serveSetClock weekday second)

/-- The first weekday of a schedule at fault (R163). -/
def firstBadDay (days : Vector (Nat × Nat) 7) : Option (Fin 7) :=
  (List.finRange 7).find? fun i =>
    let e := days.get i
    decide (86399 < e.1 ∨ 86399 < e.2 ∨ e.2 < e.1)

/-- A schedule that passes is accepted (R163): a snapshot is asked for, and an update of STATUS. -/
def State.acceptSchedule (s : State) (x : Schedule) : State :=
  ((s.setMode { s.mode with schedule := x }).requestSnapshot.askStatus).handOver Folio.schedule .done

/-- SCHEDULE as the Mode Controller takes it (R163); a form that is neither has no weekday at fault. -/
def State.serveSchedule (s : State) (r : ScheduleReq) : State :=
  match r with
  | .alwaysOpen => s.acceptSchedule .alwaysOpen
  | .entries days =>
    match firstBadDay days with
    | some i => s.handOver Folio.schedule .invalidSchedule (detailNum i.val)
    | none => s.acceptSchedule (.entries days)
  | .other => s.handOver Folio.schedule .invalidSchedule

/-- SCHEDULE (R163). -/
def execSchedule (dt : Nat) (ref : Word32) (req : ScheduleReq) (s : State) : Host.Outcome State Fault Refusal :=
  .next ((s.elapse dt).request Folio.schedule ref req.bytes fun s => s.serveSchedule req)

/-- OPEN as the Mode Controller takes it (R166); in COLD and HOLDUP the touch is stray and no order is taken. -/
def State.serveOpen (s : State) : State :=
  let f := Folio.siteOrder
  match s.mode.mode with
  | .closed => (s.beginOpening .order).handOver f .done
  | .opening => s.handOver f .busySequence
  | .openMode => s.handOver f .done
  | .closing => s.handOver f .busySequence
  | .cold => s.handOver f .mode
  | .holdup => s.handOver f .mode

/-- OPEN (R166). -/
def execOpenSite (dt : Nat) (ref : Word32) (s : State) : Host.Outcome State Fault Refusal :=
  .next ((s.elapse dt).request Folio.siteOrder ref (siteBytes 0 []) fun s => s.serveOpen)

/-- CLOSE as the Mode Controller takes it (R166); in COLD and HOLDUP the touch is stray and no order is taken. -/
def State.serveClose (s : State) : State :=
  let f := Folio.siteOrder
  match s.mode.mode with
  | .closed => s.handOver f .done
  | .opening => (s.returnToClosed .aborted).handOver f .done
  | .openMode => (s.beginClosing .order).handOver f .done
  | .closing => s.handOver f .done
  | .cold => s.handOver f .mode
  | .holdup => s.handOver f .mode

/-- CLOSE (R166). -/
def execCloseSite (dt : Nat) (ref : Word32) (s : State) : Host.Outcome State Fault Refusal :=
  .next ((s.elapse dt).request Folio.siteOrder ref (siteBytes 1 []) fun s => s.serveClose)

/-- WAKE_SETTLE (R167): CHECK runs. -/
def execWakeSettle (dt : Nat) (s : State) : Host.Outcome State Fault Refusal :=
  let s := s.elapse dt
  .next (if decide (s.mode.stage = some .wake) && s.mode.wakeT.due s.now then
      (s.setMode { s.mode with wakeT := none }).checkStage
    else s)

/-- A remaining sale ends with CLOSING (R71, R172). -/
def State.graceEnds (s : State) (sd : Side) : State :=
  match (s.side sd).state with
  | .starting => s.toEnding sd .closing
  | .flowing => s.toEnding sd .closing
  | .slow => s.toEnding sd .closing
  | .suspended => s.toEnding sd .closing
  | _ => s

/-- CLOSE_GRACE (R172). -/
def execCloseGrace (dt : Nat) (s : State) : Host.Outcome State Fault Refusal :=
  let s := s.elapse dt
  .next (if decide (s.mode.stage = some .drain) && s.mode.graceT.due s.now then
      (s.setMode { s.mode with graceT := none }).bothSides State.graceEnds
    else s)

/-- MOTOR_SPACING (R173). -/
def execMotorSpacing (dt : Nat) (s : State) : Host.Outcome State Fault Refusal :=
  let s := s.elapse dt
  .next (if decide (s.mode.stage = some .motorsOff) && s.mode.spacingT.due s.now then s.spacingStep.afterMotors else s)

end Sys2Proof.Machine
end

