-- ==== Sys2Proof/Machine/MotorCmds.lean ====
section
/-!
DEFINITION. The Pump Motor Controller's commands (04).
-/
namespace Sys2Proof.Machine

/-- START_SLOT_GRANT (R80): the arbiter tests its condition and grants the slot when it holds. -/
def execStartSlotGrant (dt : Nat) (s : State) : Host.Outcome State Fault Refusal :=
  .next ((s.elapse dt).arbiterTest).afterMotors

/-- MOTOR_GAP (R80): MOTOR_GAP since the last grant runs out, and the arbiter tests its condition. -/
def execMotorGap (dt : Nat) (s : State) : Host.Outcome State Fault Refusal :=
  .next ((s.elapse dt).arbiterTest).afterMotors

/-- RESTART_GAP (R80): the head motor's rest runs out, and the arbiter tests its condition. -/
def execRestartGap (dt : Nat) (s : State) : Host.Outcome State Fault Refusal :=
  .next ((s.elapse dt).arbiterTest).afterMotors

/-- The level of a pressure-ok input at its pin (R76). -/
def State.pinPressure (s : State) (p : Product) (ok : Bool) : State :=
  { s with pins := { s.pins with pressureOk := s.pins.pressureOk.set p ok } }

/-- The pressure-ok input becomes present (R82, R84). At a confirmed start the arbiter tests the freed slot before PRIME is
released from products that are then all settled (R169): no rule orders the two (notes/assumptions/37.md). -/
def State.pressureArrives (s : State) (p : Product) : State :=
  let m := s.motor p
  match m.state with
  | .starting => (s.confirmStart p).arbiterTest.afterMotors
  | .running => s.setMotor p { m with lossT := none }
  | .rundown => s.setMotor p { m with lossT := none }
  | _ => s

/-- PRESSURE_OK_PRESENT (R82, R84). -/
def execPressureOkPresent (dt : Nat) (p : Product) (s : State) : Host.Outcome State Fault Refusal :=
  .next (((s.elapse dt).pinPressure p true).pressureArrives p)

/-- The pressure-ok input becomes absent (R84): the loss timer starts for 2 s. -/
def State.pressureGoes (s : State) (p : Product) : State :=
  let m := s.motor p
  match m.state with
  | .running => s.setMotor p { m with lossT := some (s.now + seconds 2) }
  | .rundown => s.setMotor p { m with lossT := some (s.now + seconds 2) }
  | _ => s

/-- PRESSURE_OK_ABSENT (R84). -/
def execPressureOkAbsent (dt : Nat) (p : Product) (s : State) : Host.Outcome State Fault Refusal :=
  .next (((s.elapse dt).pinPressure p false).pressureGoes p)

/-- PRESSURE_TIMEOUT (R82): the motor fails with NO_PRESSURE. -/
def execPressureTimeout (dt : Nat) (p : Product) (s : State) : Host.Outcome State Fault Refusal :=
  let s := s.elapse dt
  let m := s.motor p
  .next (if decide (m.state = .starting) && m.pressureT.due s.now then s.motorFails p .noPressure else s)

/-- A motor is turning after a confirmed start (R84). -/
def MotorState.confirmed : MotorState → Bool
  | .running => true
  | .rundown => true
  | _ => false

/-- PRESSURE_LOST (R84): the motor fails with PRESSURE_LOST. -/
def execPressureLost (dt : Nat) (p : Product) (s : State) : Host.Outcome State Fault Refusal :=
  let s := s.elapse dt
  let m := s.motor p
  .next (if m.state.confirmed && m.lossT.due s.now then s.motorFails p .pressureLost else s)

/-- The rundown timer expires (R83): the contactor opens and the motor stops. -/
def State.rundownEnds (s : State) (p : Product) : State :=
  (s.setMotor p { s.opened (s.motor p) with state := .stopped }).postStatus

/-- IDLE_RUN (R83). -/
def execIdleRun (dt : Nat) (p : Product) (s : State) : Host.Outcome State Fault Refusal :=
  let s := s.elapse dt
  let m := s.motor p
  .next (if decide (m.state = .rundown) && m.rundownT.due s.now then s.rundownEnds p else s)

/-- FAIL_HOLD (R86). -/
def execFailHold (dt : Nat) (p : Product) (s : State) : Host.Outcome State Fault Refusal :=
  let s := s.elapse dt
  let m := s.motor p
  .next (if decide (m.state = .failed) && m.failHoldT.due s.now then s.motorRecovers p else s)

/-- MOTOR_RETRY as the controller takes it (R86). -/
def State.serveMotorRetry (s : State) (n : Nat) : State :=
  let f := Folio.siteOrder
  match Product.ofNumber n with
  | none => s.handOver f .invalidProduct
  | some p => if (s.motor p).state = .failed then (s.motorRecovers p).handOver f .done else s.handOver f .wrongState

/-- MOTOR_RETRY (R86). -/
def execMotorRetry (dt : Nat) (ref : Word32) (n : Nat) (s : State) : Host.Outcome State Fault Refusal :=
  .next ((s.elapse dt).request Folio.siteOrder ref (siteBytes 4 (byte1 n)) fun s => s.serveMotorRetry n)

end Sys2Proof.Machine
end

