-- ==== Sys2Proof/Machine/PriceCmds.lean ====
section
/-!
DEFINITION. The Price Table's commands (02): GRADES, PRICE_STAGING and PRICE_SWAP.
-/
namespace Sys2Proof.Machine

/-! ### GRADES -/

/-- A composition byte that is neither BLEND nor AUX (R24): 0 to 100 are BLEND, 255 is AUX. -/
def compValid (n : Nat) : Bool := decide (n ≤ 100) || decide (n = 255)

/-- The composition a byte spells. -/
def compOfByte (n : Nat) : Composition := if n = 255 then .aux else .blend n

/-- The first grade record with a composition out of range (R24). -/
def gradesBadGrade (r : GradesReq) : Option (Fin 6) :=
  (List.finRange 6).find? fun g => !compValid (r.grades.get g).comp

/-- The first nozzle of a side whose map entry names a grade outside 1 to 6; 0 is none (R24). -/
def badMap (m : Vector Nat 4) : Option (Fin 4) := (List.finRange 4).find? fun i => decide (6 < m.get i)

/-- The grade a map entry names. -/
def mapEntry (n : Nat) : Option (Fin 6) := if h : 0 < n ∧ n ≤ 6 then some ⟨n - 1, by omega⟩ else none

/-- The nozzle maps of a folio. -/
def gradesMaps (r : GradesReq) : Both (Vector (Option (Fin 6)) 4) := r.maps.map (mapEach mapEntry)

/-- A grade record of a folio, its margin clamped to 200 (R24). -/
def gradeOf (g : GradeReq) : Grade := ⟨compOfByte g.comp, min 200 g.margin, g.text⟩

/-- The clamp detail (R24): the first grade whose margin was clamped. -/
def gradesClampDetail (r : GradesReq) : Word32 :=
  match (List.finRange 6).find? fun g => decide (200 < (r.grades.get g).margin) with
  | some g => clampedBit ||| detailNum (g.val + 1)
  | none => 0

/-- The INVALID_GRADE detail (R24): the first grade number, or the first side and nozzle, at fault. With both at fault the
grade record is named, which R24 leaves open (notes/assumptions/42.md). -/
def gradesBadDetail (r : GradesReq) : Option Word32 :=
  match gradesBadGrade r with
  | some g => some (detailNum (g.val + 1))
  | none =>
    match badMap r.maps.a with
    | some i => some (Config.sideNozzleDetail .a i)
    | none => (badMap r.maps.b).map fun i => Config.sideNozzleDetail .b i

/-- The first grade mapped under a folio's maps that a bank does not price (R24). -/
def State.unpricedUnder (s : State) (r : GradesReq) : Option (Fin 6) :=
  match firstUnpriced (gradesMaps r) s.prices.active, s.prices.staged.bind fun b => firstUnpriced (gradesMaps r) b.prices with
  | some g, some h => some (if g ≤ h then g else h)
  | some g, none => some g
  | none, h => h

/-- GRADES as the Price Table takes it (R24, R25). -/
def State.serveGrades (s : State) (r : GradesReq) : State :=
  let f := Folio.grades
  if s.mode.mode ≠ .closed then s.handOver f .mode
  else
    match gradesBadDetail r with
    | some d => s.handOver f .invalidGrade d
    | none =>
      match s.unpricedUnder r with
      | some g => s.handOver f .invalidPrice (detailNum (g.val + 1))
      | none =>
        let s := { s with prices := { s.prices with grades := mapEach gradeOf r.grades, maps := gradesMaps r } }
        ((s.recomposeBoth.updatePriceView).requestSnapshot).handOver f .done (gradesClampDetail r)

/-- GRADES (R24). -/
def execGrades (dt : Nat) (ref : Word32) (req : GradesReq) (s : State) : Host.Outcome State Fault Refusal :=
  .next ((s.elapse dt).request Folio.grades ref req.bytes fun s => s.serveGrades req)

/-! ### PRICE_STAGING -/

/-- The first grade priced above 99 999 (R27). -/
def firstTooHigh (p : Vector Nat 6) : Option (Fin 6) := (List.finRange 6).find? fun g => decide (99999 < p.get g)

/-- The condition a staging proposes (R27): `none` is an invalid one. -/
def stagingCondition (r : StagingReq) : Option Condition :=
  match r.cond with
  | 0 => some .atOnce
  | 1 => if r.weekday ≤ 6 ∧ r.second ≤ 86399 then some (.atTime r.weekday r.second) else none
  | _ => none

/-- A staged bank is due at acceptance (R29, R30). -/
def State.dueNow (s : State) (b : Staged) : Bool :=
  match b.cond with
  | .atOnce => true
  | .atTime _ _ => s.atMoment b

/-- A staging is accepted (R28): an earlier bank is superseded, the swap may be taken straight away (R29), and a flag left
clear lets the waiting sides ask again (R33). -/
def State.acceptStaging (s : State) (b : Staged) : State :=
  let s :=
    match s.prices.staged with
    | some old => s.raise .priceSuperseded 0 (.num old.tag.toNat) (.num b.tag.toNat)
    | none => s
  let due := s.dueNow b
  let s := ({ s with prices := { s.prices with staged := some b, swapDue := due } }).postPriceView
  if due then s.swapTest else s.tellWaiting

/-- PRICE STAGING as the Price Table takes it (R27, R28). -/
def State.serveStaging (s : State) (r : StagingReq) : State :=
  let f := Folio.priceStaging
  match firstTooHigh r.prices with
  | some g => s.handOver f .invalidPrice (detailNum (g.val + 1))
  | none =>
    match firstUnpriced s.prices.maps r.prices with
    | some g => s.handOver f .invalidPrice (detailNum (g.val + 1))
    | none =>
      match stagingCondition r with
      | none => s.handOver f .invalidClock
      | some c =>
        if c ≠ Condition.atOnce ∧ s.mode.clockUnset then s.handOver f .clockUnset
        else (s.acceptStaging ⟨r.prices, r.tag, c⟩).handOver f .done

/-- PRICE_STAGING (R27). -/
def execPriceStaging (dt : Nat) (ref : Word32) (req : StagingReq) (s : State) : Host.Outcome State Fault Refusal :=
  .next ((s.elapse dt).request Folio.priceStaging ref req.bytes fun s => s.serveStaging req)

/-! ### PRICE_SWAP -/

/-- PRICE_SWAP (R31, R32): the condition is tested, and the swap taken when it holds. -/
def execPriceSwap (dt : Nat) (s : State) : Host.Outcome State Fault Refusal := .next (s.elapse dt).swapTest

end Sys2Proof.Machine
end

