-- ==== Sys2Proof/Machine/ReaderCmds.lean ====
section
/-!
DEFINITION. The Reader Gate's commands (06).
-/
namespace Sys2Proof.Machine

/-! ### Polling and answers -/

/-- A poll cycle may begin (R114): the domain is powered, the previous cycle has ended, and POLL_INTERVAL has passed. -/
def GateCtl.pollReady (g : GateCtl) (now : Nat) : Bool :=
  g.power && g.addressing.isNone && (match g.pollDue with | some t => decide (t ≤ now) | none => true)

/-- POLL_CYCLE_START (R114). -/
def execPollCycleStart (dt : Nat) (sd : Side) (s : State) : Host.Outcome State Fault Refusal :=
  let s := s.elapse dt
  let g := s.gate sd
  .next (if g.pollReady s.now then
      (s.setGate sd { g with cycleAt := some s.now, pollDue := some (s.now + millis s.cfg.pollInterval) }).pollFrom sd
        [.card, .keypad]
    else s)

/-- ANSWER_FRAME (R113, R115): a complete frame from the addressed module is taken if it is good and missed if it is bad;
characters that arrive in RESYNC, or while no answer is awaited, are disregarded. -/
def execAnswerFrame (dt : Nat) (sd : Side) (f : Frame) (s : State) : Host.Outcome State Fault Refusal :=
  let s := s.elapse dt
  let g := s.gate sd
  .next (match g.awaited with
    | some a =>
      if g.receiver = .resync then s
      else s.onGate sd fun s => if frameGood f then s.goodAnswer sd a f else s.missAnswer sd a
    | none => s)

/-- ANSWER_TIMEOUT (R114): no address character has arrived in time. -/
def execAnswerTimeout (dt : Nat) (sd : Side) (s : State) : Host.Outcome State Fault Refusal :=
  let s := s.elapse dt
  .next (match (s.gate sd).awaited with
    | some a => if a.deadline ≤ s.now then s.onGate sd fun s => s.missAnswer sd a else s
    | none => s)

/-- RECEIVE_ERROR (R113): the receiver enters RESYNC, and an answer that was awaited has been missed; in RESYNC characters
are disregarded. -/
def execReceiveError (dt : Nat) (sd : Side) (s : State) : Host.Outcome State Fault Refusal :=
  let s := s.elapse dt
  let g := s.gate sd
  .next (if !g.power || decide (g.receiver = .resync) then s
    else
      let s := s.setGate sd { g with receiver := .resync }
      match g.awaited with
      | some a => s.onGate sd fun s => s.missAnswer sd a
      | none => s)

/-- BREAK_OFF (R113): the frame being assembled is discarded and the answer has been missed. -/
def execBreakOff (dt : Nat) (sd : Side) (s : State) : Host.Outcome State Fault Refusal :=
  let s := s.elapse dt
  let g := s.gate sd
  .next (match g.awaited with
    | some a => if g.receiver = .resync then s else s.onGate sd fun s => s.missAnswer sd a
    | none => s)

/-- RESYNC_END (R113): the line has rested, and the receiver hunts. -/
def execResyncEnd (dt : Nat) (sd : Side) (s : State) : Host.Outcome State Fault Refusal :=
  let s := s.elapse dt
  let g := s.gate sd
  .next (if g.power && decide (g.receiver = .resync) then s.setGate sd { g with receiver := .hunting } else s)

/-! ### Gate timers -/

/-- A gate still coming up when the start timer expires trips (R119, R121). -/
def State.tripIfComing (s : State) (sd : Side) : State :=
  let g := s.gate sd
  let r := if g.card.status = some .shut then TripReason.notAdmitted else .noHello
  match g.state with
  | .starting => s.gateTrip sd r
  | .restarting => s.gateTrip sd r
  | _ => s

/-- An answer awaited from a module that has become ABSENT is awaited no longer (R119). -/
def State.dropAbsent (s : State) (sd : Side) : State :=
  let g := s.gate sd
  match g.addressing with
  | some a => if (g.mod a.mod).status = some .absent then s.pollFrom sd a.mod.following else s
  | none => s

/-- The start timer expires (R119). -/
def State.startExpires (s : State) (sd : Side) : State :=
  let g := s.gate sd
  let s := s.setGate sd { g with startT := none, card := g.card.expire, keypad := g.keypad.expire }
  (s.tripIfComing sd).dropAbsent sd

/-- READER_START_TIMEOUT (R119). -/
def execReaderStartTimeout (dt : Nat) (sd : Side) (s : State) : Host.Outcome State Fault Refusal :=
  let s := s.elapse dt
  .next (if (s.gate sd).startT.due s.now then s.onGate sd fun s => s.startExpires sd else s)

/-- OFF_TIME (R121): the AWAIT phase begins and the domain is powered on. -/
def execOffTime (dt : Nat) (sd : Side) (s : State) : Host.Outcome State Fault Refusal :=
  let s := s.elapse dt
  let g := s.gate sd
  .next (if g.offT.due s.now then
      match g.restart with
      | some (o, .offTime) => s.setGate sd { s.powerUp sd g with restart := some (o, .await) }
      | _ => s
    else s)

/-! ### Tamper inputs -/

/-- The level of a side's tamper input at its pin, and as the gate has taken it (R109, R122); it is not watched in COLD and
HOLDUP. -/
def State.setTamper (s : State) (sd : Side) (isOpen : Bool) : State :=
  let s := { s with pins := { s.pins with tamperOpen := s.pins.tamperOpen.set sd isOpen } }
  if s.dormant then s else s.setGate sd { s.gate sd with tamper := isOpen }

/-- TAMPER_INPUT_OPEN (R122). -/
def execTamperInputOpen (dt : Nat) (sd : Side) (s : State) : Host.Outcome State Fault Refusal :=
  let s := (s.elapse dt).setTamper sd true
  .next (if s.dormant then s else s.onGate sd fun s => s.gateTamper sd 0)

/-- TAMPER_INPUT_CLOSED (R122): raises nothing and leaves the gate as it is. -/
def execTamperInputClosed (dt : Nat) (sd : Side) (s : State) : Host.Outcome State Fault Refusal :=
  .next ((s.elapse dt).setTamper sd false)

/-! ### Site orders -/

/-- A gate whose domain is coming up or in use (R123). -/
def GateState.live : GateState → Bool
  | .starting => true
  | .opened => true
  | .restarting => true
  | _ => false

/-- READER_CLEAR as the gate takes it (R123). -/
def State.serveReaderClear (s : State) (n : Nat) : State :=
  let f := Folio.siteOrder
  match Side.ofNumber n with
  | none => s.handOver f .invalidSide
  | some sd =>
    if s.mode.mode ≠ .openMode then s.handOver f .mode
    else if (s.gate sd).state.live then s.handOver f .wrongState
    else if (s.gate sd).tamper then s.handOver f .tamper
    else (s.gateStart sd .readerClear).handOver f .done

/-- READER_CLEAR (R123). -/
def execReaderClear (dt : Nat) (ref : Word32) (n : Nat) (s : State) : Host.Outcome State Fault Refusal :=
  .next ((s.elapse dt).request Folio.siteOrder ref (siteBytes 6 (byte1 n)) fun s => s.serveReaderClear n)

/-- READER_RESTART as the gate takes it (R124). -/
def State.serveReaderRestart (s : State) (n : Nat) : State :=
  let f := Folio.siteOrder
  match Side.ofNumber n with
  | none => s.handOver f .invalidSide
  | some sd =>
    if (s.gate sd).state = .starting ∨ (s.gate sd).state = .opened then
      (s.onGate sd fun s => s.gateRestart sd .ordered).handOver f .done
    else s.handOver f .wrongState

/-- READER_RESTART (R124). -/
def execReaderRestart (dt : Nat) (ref : Word32) (n : Nat) (s : State) : Host.Outcome State Fault Refusal :=
  .next ((s.elapse dt).request Folio.siteOrder ref (siteBytes 7 (byte1 n)) fun s => s.serveReaderRestart n)

/-! ### Folios -/

/-- ADMISSION as the gate takes it (R126). -/
def State.serveAdmission (s : State) (r : AdmissionReq) : State :=
  let s := { s with gates := ⟨{ s.gates.a with admission := r.a }, { s.gates.b with admission := r.b }⟩ }
  s.requestSnapshot.handOver Folio.admission .done

/-- ADMISSION (R126). -/
def execAdmission (dt : Nat) (ref : Word32) (req : AdmissionReq) (s : State) : Host.Outcome State Fault Refusal :=
  .next ((s.elapse dt).request Folio.admission ref (admissionBytes req) fun s => s.serveAdmission req)

/-- UPLINK_RETURN (R128): the folio becomes part-held, and the next head goes into it. -/
def execUplinkReturn (dt : Nat) (sd : Side) (which : Fin 2) (s : State) : Host.Outcome State Fault Refusal :=
  .next ((s.elapse dt).touchWith (Folio.uplink sd which) fun s => s.uplinkFlow sd)

/-- The module a DOWNLINK address names, if it is configured (R129). -/
def GateCtl.target (g : GateCtl) (addr : Nat) : Option ModuleId :=
  if addr = 1 then some .card else if addr = 2 ∧ g.keypad.configured then some .keypad else none

/-- The class may be sent to the module (R127, R129). -/
def State.downAllowed (s : State) (sd : Side) (m : Module) (cls : FrameClass) : Bool :=
  decide (s.cfg.admissionMode.get sd = .openAll) || ((s.gate sd).admission.down.get m.judgedScope).allows cls

/-- A downlink class (R112). -/
def isDownlinkClass : FrameClass → Bool
  | .prompt => true
  | .payload => true
  | _ => false

/-- The first check of R129 that fails, for the module addressed. -/
def State.downlinkRefusal (s : State) (sd : Side) (i : ModuleId) (r : DownlinkReq) : Option Result :=
  let g := s.gate sd
  if isDownlinkClass r.cls = false ∨ 200 < r.payload.length then some .invalidFrame
  else if g.state ≠ .opened then some .gateClosed
  else if (g.mod i).status ≠ some .active then some .notAdmitted
  else if s.downAllowed sd (g.mod i) r.cls = false then some .notAdmitted
  else none

/-- An accepted downlink (R129). -/
def GateCtl.launch (g : GateCtl) (i : ModuleId) (r : DownlinkReq) : GateCtl :=
  let m := g.mod i
  { g.setMod i { m with downToggle := !m.downToggle } with
    downlink := some
      { mod := i, cls := r.cls, payload := r.payload, toggle := !m.downToggle, sends := 0, busies := 0 } }

/-- DOWNLINK as the gate takes it (R129). -/
def State.serveDownlink (s : State) (sd : Side) (r : DownlinkReq) : State :=
  let f := Folio.downlink sd
  match (s.gate sd).target r.addr with
  | none => s.handOver f .invalidModule
  | some i =>
    match s.downlinkRefusal sd i r with
    | some e => s.handOver f e
    | none => s.setGate sd ((s.gate sd).launch i r)

/-- DOWNLINK (R129). -/
def execDownlink (dt : Nat) (sd : Side) (ref : Word32) (req : DownlinkReq) (s : State) :
    Host.Outcome State Fault Refusal :=
  .next ((s.elapse dt).request (Folio.downlink sd) ref req.bytes fun s => s.serveDownlink sd req)

end Sys2Proof.Machine
end

