-- ==== Sys2Proof/Machine/SideCmds.lean ====
section
/-!
DEFINITION. The Side Controllers' commands (03): NOZZLE_LIFT, NOZZLE_HANG, the five side orders and the six timers.
-/
namespace Sys2Proof.Machine

/-! ### Nozzles -/

/-- The level of a nozzle switch at its pin. -/
def State.pinNozzle (s : State) (sd : Side) (n : Fin 4) (up : Bool) : State :=
  { s with pins := { s.pins with nozzles := s.pins.nozzles.set sd ((s.pins.nozzles.get sd).set n.val up) } }

/-- A side's debounced nozzle input (R44). -/
def State.setNozzle (s : State) (sd : Side) (n : Fin 4) (up : Bool) : State :=
  let x := s.side sd
  s.setSide sd { x with nozzles := x.nozzles.set n.val up }

/-- A lift by the side's state (R45, R49). -/
def State.lift (s : State) (sd : Side) : State :=
  let x := s.side sd
  match x.state with
  | .idle => if s.mode.mode = .openMode then s.putSide sd { x with state := .calling } else s
  | .authorized => (s.setSide sd { x with authT := none }).testReadiness sd
  | _ => s

/-- NOZZLE_LIFT (R44, R45): disregarded by the side in COLD and HOLDUP (R72). -/
def execNozzleLift (dt : Nat) (sd : Side) (n : Fin 4) (s : State) : Host.Outcome State Fault Refusal :=
  let s := (s.elapse dt).pinNozzle sd n true
  .next (if s.dormant then s else (s.setNozzle sd n true).lift sd)

/-- The nozzle is the one the side's sale captured. -/
def SideCtl.saleNozzle (x : SideCtl) (n : Fin 4) : Bool :=
  match x.sale.bind fun o => o.cap with
  | some c => decide (c.nozzle = n)
  | none => false

/-- A hang in ENDED: that of the sale's nozzle leaves it (R45). -/
def State.hangEnded (s : State) (sd : Side) (n : Fin 4) : State :=
  let x := s.side sd
  if x.endedNozzle = some n then
    s.putSide sd { x with
      state := if x.anyLifted && decide (s.mode.mode = .openMode) then .calling else .idle, endedNozzle := none }
  else s

/-- The auth timer starts when a hang in AUTHORIZED leaves no nozzle lifted (R49). -/
def State.startAuth (s : State) (sd : Side) : State :=
  let x := s.side sd
  if x.anyLifted then s else s.setSide sd { x with authT := some (s.now + seconds s.cfg.authTimeout) }

/-- A hang by the side's state (R45, R49, R56, R60, R65). -/
def State.hang (s : State) (sd : Side) (n : Fin 4) : State :=
  let x := s.side sd
  let own := x.saleNozzle n
  match x.state with
  | .idle => s
  | .calling => if x.anyLifted then s else s.putSide sd { x with state := .idle }
  | .authorized => (s.startAuth sd).testReadiness sd
  | .starting => if own then s.finishSale sd (some .nozzle) else s
  | .flowing => if own then s.toEnding sd .nozzle else s
  | .slow => if own then s.toEnding sd .nozzle else s
  | .suspended => if own then s.toEnding sd .nozzle else s
  | .ending => s
  | .ended => s.hangEnded sd n

/-- NOZZLE_HANG (R44, R56): disregarded by the side in COLD and HOLDUP (R72). -/
def execNozzleHang (dt : Nat) (sd : Side) (n : Fin 4) (s : State) : Host.Outcome State Fault Refusal :=
  let s := (s.elapse dt).pinNozzle sd n false
  .next (if s.dormant then s else (s.setNozzle sd n false).hang sd n)

/-! ### Orders -/

/-- The sale number of an order's answer (R46): the open sale after the order, else the one it ended, else the last sale. -/
def answerNumber (before after : SideCtl) : Nat :=
  match after.sale with
  | some o => o.record.number
  | none =>
    match before.sale with
    | some o => o.record.number
    | none => after.last.number

/-- A side order's answer (R46): the sale number and side state after the order, with the result, handed back. -/
def State.answerOrder (s : State) (sd : Side) (before : SideCtl) (r : Result) (detail : Word32 := 0) : State :=
  let x := s.side sd
  (s.writeBody (Folio.order sd) (be 4 (answerNumber before x) ++ [Config.sideStateCode x.state])).handOver
    (Folio.order sd) r detail

/-- A limit is invalid (R47, R62). -/
def limitInvalid (r : LimitReq) : Bool :=
  match r.kind with
  | none => true
  | some .unlimited => false
  | some _ => decide (r.amount = 0)

/-- A limit's amount: clamped to 999 999, and 0 with NONE (R47). -/
def limitAmount (k : LimitKind) (n : Nat) : Nat :=
  match k with
  | .unlimited => 0
  | _ => min 999999 n

/-- A limit's amount is clamped (R47). -/
def limitClamps (k : LimitKind) (n : Nat) : Bool :=
  match k with
  | .unlimited => false
  | _ => decide (999999 < n)

/-- The result detail of an accepted limit. -/
def limitDetail (clamps : Bool) : Word32 := if clamps then clampedBit else 0

/-- The grade mask of an AUTHORIZE; bits above grade 6 are disregarded (R47). -/
def maskOf (b : Byte) : BitVec 6 := b.setWidth 6

/-- The first check of R47 that fails. -/
def State.authRefusal (s : State) (sd : Side) (r : AuthReq) : Option Result :=
  let x := s.side sd
  if x.state ≠ .idle ∧ x.state ≠ .calling then some .wrongState
  else if s.mode.mode ≠ .openMode then some .mode
  else if (s.disp sd).state = .fault then some .displayFault
  else if 5 ≤ (s.records sd).held then some .backlog
  else if r.origin = none then some .invalidOrigin
  else if r.origin = some .reader ∧ (s.gate sd).state ≠ .opened then some .gateNotOpen
  else if r.origin = some .test ∧ s.journal.switchClosed = false then some .metrologySwitch
  else if limitInvalid r.limit then some .invalidLimit
  else if maskOf r.mask = 0 then some .gradeMaskEmpty
  else none

/-- The sale record of an accepted AUTHORIZE (R48). -/
def State.newRecord (s : State) (sd : Side) (ref : Word32) (o : Origin) (k : LimitKind) (amount : Nat) :
    SaleRecord where
  number := s.nextNumber
  side := sd
  origin := o
  hostRef := ref
  limitKind := k
  amount := limitAmount k amount
  nozzle := none
  grade := none
  target := none
  price := none
  rounding := s.cfg.rounding
  volume := 0
  money := 0
  fines := []
  blend := none
  startClock := s.mode.clock
  endClock := none
  reason := none
  test := decide (o = .test)
  readerLost := false
  saturated := false
  clamped := limitClamps k amount
  overrun := none
  excess := none
  slot := none

/-- An accepted AUTHORIZE (R48): the record is opened, the side enters AUTHORIZED, and it times the authorization or tests its
readiness. -/
def State.openSale (s : State) (sd : Side) (r : SaleRecord) (mask : BitVec 6) : State :=
  let s := s.advanceNumber
  let x := s.side sd
  let lifted := x.anyLifted
  let s := s.putSide sd { x with
    state := .authorized
    sale := some ⟨r, mask, none⟩
    authT := if lifted then none else some (s.now + seconds s.cfg.authTimeout) }
  if lifted then s.testReadiness sd else s

/-- AUTHORIZE as the side takes it (R46 to R48), with the host reference of its folio. -/
def State.serveAuthorize (s : State) (sd : Side) (r : AuthReq) : State :=
  let x := s.side sd
  match s.authRefusal sd r, r.origin, r.limit.kind with
  | none, some o, some k =>
    let rec1 := s.newRecord sd (s.header (Folio.order sd)).ref o k r.limit.amount
    (s.openSale sd rec1 (maskOf r.mask)).answerOrder sd x .done (limitDetail rec1.clamped)
  | some e, _, _ => s.answerOrder sd x e
  | none, none, _ => s.answerOrder sd x .invalidOrigin
  | none, _, none => s.answerOrder sd x .invalidLimit

/-- AUTHORIZE (R47). -/
def execAuthorize (dt : Nat) (sd : Side) (ref : Word32) (req : AuthReq) (s : State) : Host.Outcome State Fault Refusal :=
  .next ((s.elapse dt).request (Folio.order sd) ref req.bytes fun s => s.serveAuthorize sd req)

/-- The record of a sale with a new limit (R62). A CLAMPED flag once set stays, whatever the later limits: R62 and R132 only set
it (notes/assumptions/50.md). -/
def SaleRecord.withLimit (r : SaleRecord) (k : LimitKind) (n : Nat) : SaleRecord :=
  { r with limitKind := k, amount := limitAmount k n, clamped := r.clamped || limitClamps k n }

/-- A captured sale with a new limit: the new pair replaces the old in one step (R40, R63). -/
def Sale.withLimit (o : Sale) (k : LimitKind) (n : Nat) : Sale :=
  let r := o.record.withLimit k n
  match o.cap with
  | none => { o with record := r }
  | some c =>
    let target := targetOf r.limitKind r.amount r.rounding c.price
    { o with
      record := { r with target := some target }
      cap := some { c with
        target := target, slow := slowPoint target c.margin
        ceiling := ceilingSets r.limitKind r.amount r.rounding c.price } }

/-- A SLOW side below its new slow point flows again (R53, R63): its MAIN valves open at once, as blend control allows. -/
def State.slowToFlowing (s : State) (sd : Side) (comp : Composition) : State :=
  let x := s.side sd
  s.putSide sd { x with state := .flowing, valves := valvesFor comp (mainAllowed comp x.throttle) }

/-- The present volume is judged against the new pair (R63). -/
def State.judgeLimit (s : State) (sd : Side) : State :=
  let x := s.side sd
  match x.sale with
  | none => s
  | some o =>
    match o.cap with
    | none => s
    | some c =>
      let v := o.record.volume
      if c.target ≤ v then s.toEnding sd c.targetReason
      else
        match x.state with
        | .flowing => if c.slow ≤ v then s.toSlow sd else s
        | .slow => if c.slow ≤ v then s else s.slowToFlowing sd (s.compOf c)
        | _ => s

/-- An accepted CHANGE_LIMIT (R62, R63); a side waiting to capture asks again (R33). -/
def State.applyLimit (s : State) (sd : Side) (k : LimitKind) (n : Nat) : State :=
  let x := s.side sd
  match x.sale with
  | none => s
  | some o =>
    let s := s.setSide sd { x with sale := some (o.withLimit k n) }
    if x.state = .authorized then
      if x.waiting then s.testReadiness sd else s
    else s.judgeLimit sd

/-- CHANGE_LIMIT as the side takes it (R62). -/
def State.serveChangeLimit (s : State) (sd : Side) (r : LimitReq) : State :=
  let x := s.side sd
  match x.state with
  | .idle => s.answerOrder sd x .wrongState
  | .calling => s.answerOrder sd x .wrongState
  | .ending => s.answerOrder sd x .tooLate
  | .ended => s.answerOrder sd x .tooLate
  | _ =>
    match limitInvalid r, r.kind with
    | false, some k => (s.applyLimit sd k r.amount).answerOrder sd x .done (limitDetail (limitClamps k r.amount))
    | _, _ => s.answerOrder sd x .invalidLimit

/-- CHANGE_LIMIT (R62). -/
def execChangeLimit (dt : Nat) (sd : Side) (ref : Word32) (req : LimitReq) (s : State) :
    Host.Outcome State Fault Refusal :=
  .next ((s.elapse dt).request (Folio.order sd) ref req.bytes fun s => s.serveChangeLimit sd req)

/-- The side enters SUSPENDED (R59). -/
def State.suspend (s : State) (sd : Side) : State :=
  let x := s.side sd
  s.putSide sd (s.startSlowClose { x with
    state := .suspended
    valves := closeMains x.valves
    staggerT := none
    noflowT := none
    throttle := .none
    devRun := none
    suspendT := some (s.now + seconds s.cfg.suspendTimeout) })

/-- STOP as the side takes it (R59). -/
def State.serveStop (s : State) (sd : Side) : State :=
  let x := s.side sd
  if x.state.delivers then (s.suspend sd).answerOrder sd x .done else s.answerOrder sd x .wrongState

/-- STOP (R59). -/
def execStop (dt : Nat) (sd : Side) (ref : Word32) (s : State) : Host.Outcome State Fault Refusal :=
  .next ((s.elapse dt).request (Folio.order sd) ref [Config.orderCode 2] fun s => s.serveStop sd)

/-- The side leaves SUSPENDED (R61). -/
def State.resume (s : State) (sd : Side) : State :=
  let x := s.side sd
  match x.sale with
  | none => s
  | some o =>
    match o.cap with
    | none => s
    | some c =>
      let s := s.setSide sd { x with suspendT := none }
      if o.record.volume < c.slow then s.enterFlowing sd (s.compOf c) else s.enterSlow sd (s.compOf c)

/-- RESUME as the side takes it (R61). -/
def State.serveResume (s : State) (sd : Side) : State :=
  let x := s.side sd
  if x.state ≠ .suspended then s.answerOrder sd x .wrongState
  else if (s.disp sd).state = .fault then s.answerOrder sd x .displayFault
  else (s.resume sd).answerOrder sd x .done

/-- RESUME (R61). -/
def execResume (dt : Nat) (sd : Side) (ref : Word32) (s : State) : Host.Outcome State Fault Refusal :=
  .next ((s.elapse dt).request (Folio.order sd) ref [Config.orderCode 3] fun s => s.serveResume sd)

/-- END as the side takes it (R64). -/
def State.serveEnd (s : State) (sd : Side) : State :=
  let x := s.side sd
  match x.state with
  | .idle => s.answerOrder sd x .wrongState
  | .calling => s.answerOrder sd x .wrongState
  | .ending => s.answerOrder sd x .tooLate
  | .ended => s.answerOrder sd x .tooLate
  | .authorized => (s.finishSale sd (some .cancelled)).answerOrder sd x .done
  | .starting => (s.toEnding sd .ordered).answerOrder sd x .done
  | .flowing => (s.toEnding sd .ordered).answerOrder sd x .done
  | .slow => (s.toEnding sd .ordered).answerOrder sd x .done
  | .suspended => (s.toEnding sd .ordered).answerOrder sd x .done

/-- END (R64). -/
def execEndSale (dt : Nat) (sd : Side) (ref : Word32) (s : State) : Host.Outcome State Fault Refusal :=
  .next ((s.elapse dt).request (Folio.order sd) ref [Config.orderCode 4] fun s => s.serveEnd sd)

/-- An order of any other kind (R46). -/
def State.serveUnknownOrder (s : State) (sd : Side) : State := s.answerOrder sd (s.side sd) .unknownOrder

/-! ### Timers -/

/-- AUTH_TIMEOUT (R49): the sale completes with EXPIRED. -/
def execAuthTimeout (dt : Nat) (sd : Side) (s : State) : Host.Outcome State Fault Refusal :=
  let s := s.elapse dt
  let x := s.side sd
  .next (if decide (x.state = .authorized) && x.authT.due s.now then s.finishSale sd (some .expired) else s)

/-- The MAIN valves open at the stagger's end (R52), as blend control allows. -/
def State.openMains (s : State) (sd : Side) : State :=
  let x := s.side sd
  match s.saleComp sd with
  | some comp => s.setSide sd { x with staggerT := none, valves := valvesFor comp (mainAllowed comp x.throttle) }
  | none => s.setSide sd { x with staggerT := none }

/-- VALVE_STAGGER (R52). -/
def execValveStagger (dt : Nat) (sd : Side) (s : State) : Host.Outcome State Fault Refusal :=
  let s := s.elapse dt
  let x := s.side sd
  .next (if decide (x.state = .flowing) && x.staggerT.due s.now then s.openMains sd else s)

/-- The SLOW valves close, and in ENDING the settle timer starts (R53, R65). -/
def State.slowsClose (s : State) (sd : Side) : State :=
  let x := s.side sd
  let x := { x with valves := closeSlows x.valves, slowClose := none }
  s.setSide sd (if x.state = .ending then s.startSettle x else x)

/-- SLOW_VALVE_CLOSE (R65). -/
def execSlowValveClose (dt : Nat) (sd : Side) (s : State) : Host.Outcome State Fault Refusal :=
  let s := s.elapse dt
  .next (if (s.side sd).slowClose.due s.now then s.slowsClose sd else s)

/-- NOFLOW_TIMEOUT (R55). -/
def execNoflowTimeout (dt : Nat) (sd : Side) (s : State) : Host.Outcome State Fault Refusal :=
  let s := s.elapse dt
  let x := s.side sd
  .next (if x.state.delivers && x.noflowT.due s.now then s.toEnding sd .noFlow else s)

/-- SUSPEND_TIMEOUT (R60). -/
def execSuspendTimeout (dt : Nat) (sd : Side) (s : State) : Host.Outcome State Fault Refusal :=
  let s := s.elapse dt
  let x := s.side sd
  .next (if decide (x.state = .suspended) && x.suspendT.due s.now then s.toEnding sd .suspendTimeout else s)

/-- SETTLE_TIME (R66): the sale completes with the reason fixed at its entry to ENDING. -/
def execSettleTime (dt : Nat) (sd : Side) (s : State) : Host.Outcome State Fault Refusal :=
  let s := s.elapse dt
  let x := s.side sd
  .next (if decide (x.state = .ending) && x.settleT.due s.now then s.finishSale sd none else s)

end Sys2Proof.Machine
end

