-- ==== Sys2Proof/Machine/StoreCmds.lean ====
section
/-!
DEFINITION. The Sale Store's commands (07): REPORT_RETURN and WATCH_FOLIO.
-/
namespace Sys2Proof.Machine

/-- The host has returned a REPORT folio (R137): its record leaves the Sale Store, and the next head goes into it. -/
def State.reportBack (s : State) (sd : Side) : State :=
  (s.setRecords sd { s.records sd with inFolio := none }).reportFlow sd

/-- REPORT_RETURN (R137): a touch of a part-held REPORT is stray. -/
def execReportReturn (dt : Nat) (sd : Side) (s : State) : Host.Outcome State Fault Refusal :=
  .next ((s.elapse dt).touchWith (Folio.report sd) fun s => s.reportBack sd)

/-- The total an object code names (10, Folio bodies). -/
def totalOf (n : Nat) : Option TotalId :=
  match Meter.ofNumber n with
  | some m => some (.meter m)
  | none =>
    if h : 17 ≤ n ∧ n ≤ 22 then some (.volume ⟨n - 17, by omega⟩)
    else if h : 33 ≤ n ∧ n ≤ 38 then some (.money ⟨n - 33, by omega⟩)
    else none

/-- The first check of R143 that an entry fails. -/
def State.watchRefusal (s : State) (w : WatchReq) : Option Result :=
  match w.action with
  | 0 => none
  | 1 =>
    match totalOf w.object with
    | none => some .invalidWatch
    | some t => if w.threshold ≤ s.store.totals.value t then some .alreadyPast else none
  | 2 => none
  | _ => some .invalidWatch

/-- A watch after its entry (R143). -/
def Watch.apply (x : Watch) (w : WatchReq) : Watch :=
  match w.action with
  | 1 => match totalOf w.object with | some t => ⟨t, w.threshold, true⟩ | none => x
  | 2 => { x with armed := false }
  | _ => x

/-- The first entry of a WATCH folio that fails, with its result (R143). -/
def State.firstBadWatch (s : State) (r : Vector WatchReq 4) : Option (Fin 4 × Result) :=
  (List.finRange 4).findSome? fun i => (s.watchRefusal (r.get i)).map fun e => (i, e)

/-- WATCH as the Sale Store takes it (R143). -/
def State.serveWatch (s : State) (r : Vector WatchReq 4) : State :=
  let f := Folio.watch
  match s.firstBadWatch r with
  | some (i, e) => s.handOver f e (detailNum (i.val + 1))
  | none =>
    let new := Vector.ofFn fun i : Fin 4 => (s.store.watches.get i).apply (r.get i)
    (({ s with store := { s.store with watches := new } }).updateTotalsWatches).handOver f .done

/-- WATCH_FOLIO (R143). -/
def execWatchFolio (dt : Nat) (ref : Word32) (req : Vector WatchReq 4) (s : State) :
    Host.Outcome State Fault Refusal :=
  .next ((s.elapse dt).request Folio.watch ref (watchBytes req) fun s => s.serveWatch req)

end Sys2Proof.Machine
end

