-- ==== Sys2Proof/Machine/ExchangeCmds.lean ====
section
/-!
DEFINITION. The Exchange Controller's commands (10): the SPI link, the registers, TOUCH, CONFIG and the gathered STATUS
update.
-/
namespace Sys2Proof.Machine

/-! ### Memory -/

/-- The size of the exchange memory. -/
def memorySize : Nat := 8192

/-- The bytes a read returns: the address passes from 8191 to 0 (R177). -/
def State.readBytes (s : State) (a : Nat) : Nat → List Byte
  | 0 => []
  | n + 1 => s.readByte a :: s.readBytes ((a + 1) % memorySize) n

/-- READ_MEMORY (R177): any byte may be read. A start address of 8192 or more names no byte. -/
def execReadMemory (dt : Nat) (addr : BitVec 16) (count : Nat) (s : State) : Host.Outcome State Fault Refusal :=
  let s := s.elapse dt
  if addr.toNat < memorySize then
    .next { s with exch := { s.exch with spiOut := s.readBytes addr.toNat count } }
  else .fault (.addressOutside addr)

/-- Store a byte of the exchange memory. -/
def State.storeByte (s : State) (a : Nat) (v : Byte) : State :=
  { s with exch := { s.exch with mem := Memory.write s.exch.mem a v } }

/-- A word with the byte at a place (0 the most significant) replaced. -/
def putByte (w : Word32) (place : Nat) (v : Byte) : Word32 :=
  let shift := 8 * (3 - place)
  (w &&& ~~~(0xFF#32 <<< shift)) ||| (v.setWidth 32 <<< shift)

/-- A host write into the header of a folio it holds (R179): the host reference and the body length are stored, and a field the
part writes is disregarded. -/
def State.writeHeader (s : State) (f : Folio) (off : Nat) (v : Byte) : State :=
  let h := s.header f
  if 8 ≤ off ∧ off < 12 then s.setHeader f { h with ref := putByte h.ref (off - 8) v }
  else if off = 12 then s.setHeader f { h with len := v }
  else s

/-- One byte of a host write, judged by the folio it falls in (R179). -/
def State.hostWrite (s : State) (a : Nat) (v : Byte) : State :=
  if h : a / 256 < 27 then
    let f : Folio := ⟨a / 256, h⟩
    if f.posted || decide ((s.header f).holder = Holder.part) then s.setStray
    else if a % 256 < 16 then s.writeHeader f (a % 256) v
    else s.storeByte a v
  else s.storeByte a v

/-- The bytes of a host write in order; the address passes from 8191 to 0 (R177). -/
def State.hostWrites (s : State) (a : Nat) : List Byte → State
  | [] => s
  | v :: vs => (s.hostWrite a v).hostWrites ((a + 1) % memorySize) vs

/-- WRITE_MEMORY (R177, R179). A start address of 8192 or more names no byte. -/
def execWriteMemory (dt : Nat) (addr : BitVec 16) (data : List Byte) (s : State) : Host.Outcome State Fault Refusal :=
  let s := s.elapse dt
  if addr.toNat < memorySize then .next (s.hostWrites addr.toNat data) else .fault (.addressOutside addr)

/-! ### Registers -/

/-- The content of a known register (R177); `none` for an address not in the table. -/
def State.register? (s : State) (addr : Nat) : Option (List Byte) :=
  match addr with
  | 0 => some (be 2 0x5A6E ++ be 2 0x0600 ++ be 2 0x0001)
  | 1 => some (be 4 0)
  | 2 => some (be 4 s.exch.fresh.toNat)
  | 3 => some (be 4 s.exch.mask.toNat)
  | 4 => some (be 4 s.control.toNat)
  | _ => none

/-- READ_REGISTER (R177): an unknown address returns zeros and sets STRAY. -/
def execReadRegister (dt : Nat) (addr : BitVec 16) (s : State) : Host.Outcome State Fault Refusal :=
  let s := s.elapse dt
  .next (match s.register? addr.toNat with
    | some bytes => { s with exch := { s.exch with spiOut := bytes } }
    | none => ({ s with exch := { s.exch with spiOut := be 4 0 } }).setStray)

/-- The four command bytes of R177. -/
def knownCommand (cmd : Byte) : Bool :=
  decide (cmd = 0x21#8) || decide (cmd = 0x22#8) || decide (cmd = 0x31#8) || decide (cmd = 0x32#8)

/-- UNKNOWN_COMMAND (R177): sets STRAY. -/
def execUnknownCommand (dt : Nat) (cmd : Byte) (s : State) : Host.Outcome State Fault Refusal :=
  let s := s.elapse dt
  .next (if knownCommand cmd then s else s.setStray)

/-- FRESH (R178): each bit written as 1 is cleared. -/
def execFresh (dt : Nat) (value : Word32) (s : State) : Host.Outcome State Fault Refusal :=
  let s := s.elapse dt
  .next { s with exch := { s.exch with fresh := s.exch.fresh &&& ~~~value } }

/-- FRESH_MASK (R178). -/
def execFreshMask (dt : Nat) (value : Word32) (s : State) : Host.Outcome State Fault Refusal :=
  let s := s.elapse dt
  .next { s with exch := { s.exch with mask := value } }

/-- STRAY (R178): the host writes 1 to CONTROL's STRAY bit, which clears it. -/
def execStray (dt : Nat) (s : State) : Host.Outcome State Fault Refusal :=
  let s := s.elapse dt
  .next { s with exch := { s.exch with stray := false } }

/-- A register write that is stray: to IDENT, or to an address not in the table (R177). -/
def strayAddress (addr : Nat) : Bool := decide (addr = 0) || decide (4 < addr)

/-- STRAY_REGISTER_WRITE (R177). -/
def execStrayRegisterWrite (dt : Nat) (addr : BitVec 16) (s : State) : Host.Outcome State Fault Refusal :=
  let s := s.elapse dt
  .next (if strayAddress addr.toNat then s.setStray else s)

/-! ### CONFIG and STATUS -/

/-- CONFIG as the Exchange Controller takes it (R184). The fields are read at their places, whatever the body length says: beyond
a shorter body stands what an earlier one left (notes/assumptions/33.md). -/
def State.serveConfig (s : State) : State :=
  let b := s.bodyBytes Folio.config
  let s := { s with exch := { s.exch with config := Settings.ofBytes b } }
  s.requestSnapshot.handOver Folio.config .done (configDetail b)

/-- CONFIG (R184). -/
def execConfig (dt : Nat) (ref : Word32) (body : List Byte) (s : State) : Host.Outcome State Fault Refusal :=
  .next ((s.elapse dt).request Folio.config ref body fun s => s.serveConfig)

/-- 100 ms have passed since the previous gathered update (R182). -/
def State.gatherDue (s : State) : Bool :=
  match s.exch.statusAt with
  | some t => decide (t + millis 100 ≤ s.now)
  | none => true

/-- STATUS_UPDATE (R182): pending changes are gathered into one update, without the fresh bit. -/
def execStatusUpdate (dt : Nat) (s : State) : Host.Outcome State Fault Refusal :=
  let s := s.elapse dt
  .next (if s.statusPending && s.gatherDue then
      let s := s.rewriteStatus
      { s with exch := { s.exch with statusAt := some s.now } }
    else s)

/-! ### TOUCH -/

/-- A SITE ORDER is dispatched by the kind in its first byte (R183). -/
def State.serveSiteOrder (s : State) : State :=
  let b := s.bodyBytes Folio.siteOrder
  let arg := fieldNat b 1 1
  match (List.range 9).find? fun i => decide (Config.siteOrderCode i = fieldByte b 0) with
  | some 0 => s.serveOpen
  | some 1 => s.serveClose
  | some 2 => s.serveSetClock arg (fieldNat b 2 3)
  | some 3 => s.serveMeterClear arg
  | some 4 => s.serveMotorRetry arg
  | some 5 => s.serveRetest arg
  | some 6 => s.serveReaderClear arg
  | some 7 => s.serveReaderRestart arg
  | some 8 => s.serveJournalInit
  | _ => s.handOver Folio.siteOrder .unknownOrder

/-- A side order is taken by its kind (R46). -/
def State.serveOrder (s : State) (sd : Side) : State :=
  let b := s.bodyBytes (Folio.order sd)
  match (List.range 5).find? fun i => decide (Config.orderCode i = fieldByte b 0) with
  | some 0 => s.serveAuthorize sd (AuthReq.ofBytes b)
  | some 1 => s.serveChangeLimit sd (LimitReq.ofBytes b)
  | some 2 => s.serveStop sd
  | some 3 => s.serveResume sd
  | some 4 => s.serveEnd sd
  | _ => s.serveUnknownOrder sd

/-- The owning block takes a touched folio (R180). -/
def State.serveFolio (s : State) (f : Folio) : State :=
  let b := s.bodyBytes f
  match f.val with
  | 7 => s.serveConfig
  | 8 => s.serveSchedule (ScheduleReq.ofBytes b)
  | 9 => s.serveGrades (GradesReq.ofBytes b)
  | 10 => s.serveStaging (StagingReq.ofBytes b)
  | 11 => s.serveCalibration (calOfBytes b)
  | 12 => s.serveAdmission (admissionOfBytes b)
  | 13 => s.serveWatch (watchOfBytes b)
  | 14 => s.serveSiteOrder
  | 15 => s.serveOrder .a
  | 16 => s.serveOrder .b
  | 17 => s.reportBack .a
  | 18 => s.reportBack .b
  | 19 => s.serveMessage .a
  | 20 => s.serveMessage .b
  | 21 => s.uplinkFlow .a
  | 22 => s.uplinkFlow .a
  | 23 => s.uplinkFlow .b
  | 24 => s.uplinkFlow .b
  | 25 => s.serveDownlink .a (DownlinkReq.ofBytes b)
  | 26 => s.serveDownlink .b (DownlinkReq.ofBytes b)
  | _ => s

/-- TOUCH (R180): the folio number is in the low byte of the value written. -/
def execTouch (dt : Nat) (value : Word32) (s : State) : Host.Outcome State Fault Refusal :=
  let s := s.elapse dt
  let n := value.toNat % 256
  .next (if h : n < 27 then s.touchWith ⟨n, h⟩ fun s => s.serveFolio ⟨n, h⟩ else s.setStray)

end Sys2Proof.Machine
end

