-- ==== Sys2Proof/Machine/Dispatch.lean ====
section
/-!
DEFINITION. What each command does: one arm per row of spec/opcode_table.json.
-/
namespace Sys2Proof.Machine

/-- The effect of a command on everything but the queue. -/
def exec (i : Instr) (s : State) : Host.Outcome State Fault Refusal :=
  match i with
  | .pulserEdge dt m ph => Sys2Proof.Machine.execPulserEdge dt m ph s
  | .rateExpiry dt m => Sys2Proof.Machine.execRateExpiry dt m s
  | .meterClear dt ref n => Sys2Proof.Machine.execMeterClear dt ref n s
  | .grades dt ref req => Sys2Proof.Machine.execGrades dt ref req s
  | .priceStaging dt ref req => Sys2Proof.Machine.execPriceStaging dt ref req s
  | .priceSwap dt => Sys2Proof.Machine.execPriceSwap dt s
  | .nozzleLift dt sd n => Sys2Proof.Machine.execNozzleLift dt sd n s
  | .nozzleHang dt sd n => Sys2Proof.Machine.execNozzleHang dt sd n s
  | .authorize dt sd ref req => Sys2Proof.Machine.execAuthorize dt sd ref req s
  | .changeLimit dt sd ref req => Sys2Proof.Machine.execChangeLimit dt sd ref req s
  | .stop dt sd ref => Sys2Proof.Machine.execStop dt sd ref s
  | .resume dt sd ref => Sys2Proof.Machine.execResume dt sd ref s
  | .endSale dt sd ref => Sys2Proof.Machine.execEndSale dt sd ref s
  | .authTimeout dt sd => Sys2Proof.Machine.execAuthTimeout dt sd s
  | .valveStagger dt sd => Sys2Proof.Machine.execValveStagger dt sd s
  | .slowValveClose dt sd => Sys2Proof.Machine.execSlowValveClose dt sd s
  | .noflowTimeout dt sd => Sys2Proof.Machine.execNoflowTimeout dt sd s
  | .suspendTimeout dt sd => Sys2Proof.Machine.execSuspendTimeout dt sd s
  | .settleTime dt sd => Sys2Proof.Machine.execSettleTime dt sd s
  | .startSlotGrant dt => Sys2Proof.Machine.execStartSlotGrant dt s
  | .motorGap dt => Sys2Proof.Machine.execMotorGap dt s
  | .restartGap dt => Sys2Proof.Machine.execRestartGap dt s
  | .pressureOkPresent dt p => Sys2Proof.Machine.execPressureOkPresent dt p s
  | .pressureOkAbsent dt p => Sys2Proof.Machine.execPressureOkAbsent dt p s
  | .pressureTimeout dt p => Sys2Proof.Machine.execPressureTimeout dt p s
  | .pressureLost dt p => Sys2Proof.Machine.execPressureLost dt p s
  | .idleRun dt p => Sys2Proof.Machine.execIdleRun dt p s
  | .failHold dt p => Sys2Proof.Machine.execFailHold dt p s
  | .motorRetry dt ref n => Sys2Proof.Machine.execMotorRetry dt ref n s
  | .transferEnd dt sd echo => Sys2Proof.Machine.execTransferEnd dt sd echo s
  | .refreshStart dt sd => Sys2Proof.Machine.execRefreshStart dt sd s
  | .zeroCheckHold dt sd => Sys2Proof.Machine.execZeroCheckHold dt sd s
  | .lampTestHold dt sd => Sys2Proof.Machine.execLampTestHold dt sd s
  | .displayRetest dt ref n => Sys2Proof.Machine.execDisplayRetest dt ref n s
  | .darkDelay dt => Sys2Proof.Machine.execDarkDelay dt s
  | .message dt sd ref text => Sys2Proof.Machine.execMessage dt sd ref text s
  | .temperatureSample dt reading => Sys2Proof.Machine.execTemperatureSample dt reading s
  | .warmLimit dt => Sys2Proof.Machine.execWarmLimit dt s
  | .pollCycleStart dt sd => Sys2Proof.Machine.execPollCycleStart dt sd s
  | .answerFrame dt sd f => Sys2Proof.Machine.execAnswerFrame dt sd f s
  | .answerTimeout dt sd => Sys2Proof.Machine.execAnswerTimeout dt sd s
  | .receiveError dt sd => Sys2Proof.Machine.execReceiveError dt sd s
  | .breakOff dt sd => Sys2Proof.Machine.execBreakOff dt sd s
  | .resyncEnd dt sd => Sys2Proof.Machine.execResyncEnd dt sd s
  | .readerStartTimeout dt sd => Sys2Proof.Machine.execReaderStartTimeout dt sd s
  | .offTime dt sd => Sys2Proof.Machine.execOffTime dt sd s
  | .tamperInputOpen dt sd => Sys2Proof.Machine.execTamperInputOpen dt sd s
  | .readerClear dt ref n => Sys2Proof.Machine.execReaderClear dt ref n s
  | .readerRestart dt ref n => Sys2Proof.Machine.execReaderRestart dt ref n s
  | .admission dt ref req => Sys2Proof.Machine.execAdmission dt ref req s
  | .uplinkReturn dt sd which => Sys2Proof.Machine.execUplinkReturn dt sd which s
  | .downlink dt sd ref req => Sys2Proof.Machine.execDownlink dt sd ref req s
  | .reportReturn dt sd => Sys2Proof.Machine.execReportReturn dt sd s
  | .watchFolio dt ref req => Sys2Proof.Machine.execWatchFolio dt ref req s
  | .periodicTimer dt => Sys2Proof.Machine.execPeriodicTimer dt s
  | .journalWriteComplete dt damage => Sys2Proof.Machine.execJournalWriteComplete dt damage s
  | .metrologySwitchChange dt closed => Sys2Proof.Machine.execMetrologySwitchChange dt closed s
  | .calibration dt ref req => Sys2Proof.Machine.execCalibration dt ref req s
  | .journalInit dt ref => Sys2Proof.Machine.execJournalInit dt ref s
  | .powerOn dt pins taken decay => Sys2Proof.Machine.execPowerOn dt pins taken decay s
  | .hostReset dt => Sys2Proof.Machine.execHostReset dt s
  | .powerWarning dt => Sys2Proof.Machine.execPowerWarning dt s
  | .warningCleared dt => Sys2Proof.Machine.execWarningCleared dt s
  | .clockTick dt => Sys2Proof.Machine.execClockTick dt s
  | .setClock dt ref weekday second => Sys2Proof.Machine.execSetClock dt ref weekday second s
  | .schedule dt ref req => Sys2Proof.Machine.execSchedule dt ref req s
  | .openSite dt ref => Sys2Proof.Machine.execOpenSite dt ref s
  | .closeSite dt ref => Sys2Proof.Machine.execCloseSite dt ref s
  | .wakeSettle dt => Sys2Proof.Machine.execWakeSettle dt s
  | .closeGrace dt => Sys2Proof.Machine.execCloseGrace dt s
  | .motorSpacing dt => Sys2Proof.Machine.execMotorSpacing dt s
  | .readMemory dt addr count => Sys2Proof.Machine.execReadMemory dt addr count s
  | .writeMemory dt addr data => Sys2Proof.Machine.execWriteMemory dt addr data s
  | .readRegister dt addr => Sys2Proof.Machine.execReadRegister dt addr s
  | .unknownCommand dt cmd => Sys2Proof.Machine.execUnknownCommand dt cmd s
  | .touch dt value => Sys2Proof.Machine.execTouch dt value s
  | .fresh dt value => Sys2Proof.Machine.execFresh dt value s
  | .freshMask dt value => Sys2Proof.Machine.execFreshMask dt value s
  | .stray dt => Sys2Proof.Machine.execStray dt s
  | .strayRegisterWrite dt addr => Sys2Proof.Machine.execStrayRegisterWrite dt addr s
  | .config dt ref body => Sys2Proof.Machine.execConfig dt ref body s
  | .statusUpdate dt => Sys2Proof.Machine.execStatusUpdate dt s
  | .tamperInputClosed dt sd => Sys2Proof.Machine.execTamperInputClosed dt sd s
  | .warningInputInactive dt => Sys2Proof.Machine.execWarningInputInactive dt s

end Sys2Proof.Machine
end

