-- ==== Sys2Proof/Machine/Step.lean ====
section
/-!
DEFINITION. One step: the command at the front of the queue is taken and run. On an empty queue the part idles: every
effect that time brings has its own row in the table of commands, an expiry (notes/assumptions/1.md).
-/
namespace Sys2Proof.Machine

/-- One step of the FD600. -/
def step (s : State) : Host.Outcome State Fault Refusal :=
  match s.pending with
  | c :: rest => exec c { s with pending := rest }
  | [] => .next s

/-- The state with the command a word spells at the front of its queue. The table gives no row any bits, so a word spells
no command and the state is unchanged (notes/assumptions/10.md). -/
def State.withFetchWord (s : State) (_nbits _w : Nat) : State := s

/-- An SPI transaction of the host's joins the queue: the commands its bytes spell (R177). -/
def State.receive (s : State) (dt : Nat) (bytes : List Byte) : State :=
  { s with pending := s.pending ++ spiCommands dt bytes }

end Sys2Proof.Machine
end

