-- ==== Sys2Proof/Safety.lean ====
section
/-!
DEFINITION. What counts as a safe run, in the terms the statements use: the blocks a command leaves alone, and the
invariants the part keeps.
-/
namespace Sys2Proof.Machine

/-! ### What a command leaves alone -/

/-- The parts of the state a frame speaks of. -/
inductive Block where
  | pfe
  | sides
  | prices
  | motors
  | display
  | gates
  | store
  | journal
  | mode
  | exch
  | pins
  | pending
deriving DecidableEq, Repr

/-- A block is the same in two states. -/
def Block.same (s t : State) : Block → Prop
  | .pfe => t.pfe = s.pfe
  | .sides => t.sides = s.sides
  | .prices => t.prices = s.prices
  | .motors => t.motors = s.motors
  | .display => t.display = s.display
  | .gates => t.gates = s.gates
  | .store => t.store = s.store
  | .journal => t.journal = s.journal
  | .mode => t.mode = s.mode
  | .exch => t.exch = s.exch
  | .pins => t.pins = s.pins
  | .pending => t.pending = s.pending

/-- Every block but those named is the same. -/
def KeepsBut (bs : List Block) (s t : State) : Prop := ∀ b : Block, b ∉ bs → b.same s t

/-- Every exchanged folio but one keeps its header. -/
def HeadersKeepBut (f : Folio) (s t : State) : Prop := ∀ g : Folio, g ≠ f → 7 ≤ g.val → t.header g = s.header g

/-- The bytes of a folio's body. -/
def inBody (f : Folio) (a : Nat) : Prop := f.body ≤ a ∧ a < f.body + 240

/-- Every stored byte outside a folio's body reads as before. -/
def MemoryKeepsBut (f : Folio) (s t : State) : Prop :=
  ∀ a, ¬ inBody f a → Memory.read t.exch.mem a = Memory.read s.exch.mem a

/-- `dt` microseconds have passed and every block but those named is the same. -/
def Lands (dt : Nat) (bs : List Block) (s t : State) : Prop := t.now = s.now + dt ∧ KeepsBut bs s t

/-! ### Requests -/

/-- A touch of a folio would be taken (R180). -/
def CanTouch (s : State) (f : Folio) : Prop := s.exch.ready = true ∧ (s.header f).holder = .host

/-- A folio is answered (R181): the host holds it again, with its result, detail and reference, its count one up, the stamp
the clock and its fresh bit set; no other exchanged folio's header changes. -/
def Answered (s t : State) (f : Folio) (ref : Word32) (r : Result) (detail : Word32) : Prop :=
  t.header f = { holder := .host, result := r, count := ((s.header f).count + 1) % 65536, detail := detail, ref := ref,
                 len := (t.header f).len, stamp := t.mode.clock.toNat } ∧
    HeadersKeepBut f s t ∧ t.exch.fresh.getLsbD f.val = true

/-- A request is answered and changes nothing but its own folio: the header, the body and the fresh bit (R181). -/
def Refused (dt : Nat) (s t : State) (f : Folio) (ref : Word32) (r : Result) (detail : Word32) : Prop :=
  Lands dt [.exch] s t ∧ Answered s t f ref r detail ∧
    t.exch = { s.exch with
      headers := s.exch.headers.set f.val (t.header f), mem := t.exch.mem, fresh := s.exch.fresh ||| (1#32 <<< f.val) }

/-- A request is taken and its folio stays part-held, with the reference the host gave it (R180). -/
def Held (t : State) (f : Folio) (ref : Word32) : Prop := (t.header f).holder = .part ∧ (t.header f).ref = ref

/-- The folio of a command that is the host's touch of a folio it has filled with a request, and of the two returns. -/
def folioOf : Instr → Option Folio
  | .meterClear _ _ _ => some Folio.siteOrder
  | .grades _ _ _ => some Folio.grades
  | .priceStaging _ _ _ => some Folio.priceStaging
  | .authorize _ sd _ _ => some (Folio.order sd)
  | .changeLimit _ sd _ _ => some (Folio.order sd)
  | .stop _ sd _ => some (Folio.order sd)
  | .resume _ sd _ => some (Folio.order sd)
  | .endSale _ sd _ => some (Folio.order sd)
  | .motorRetry _ _ _ => some Folio.siteOrder
  | .displayRetest _ _ _ => some Folio.siteOrder
  | .message _ sd _ _ => some (Folio.message sd)
  | .readerClear _ _ _ => some Folio.siteOrder
  | .readerRestart _ _ _ => some Folio.siteOrder
  | .admission _ _ _ => some Folio.admission
  | .downlink _ sd _ _ => some (Folio.downlink sd)
  | .watchFolio _ _ _ => some Folio.watch
  | .calibration _ _ _ => some Folio.calibration
  | .journalInit _ _ => some Folio.siteOrder
  | .setClock _ _ _ _ => some Folio.siteOrder
  | .schedule _ _ _ => some Folio.schedule
  | .openSite _ _ => some Folio.siteOrder
  | .closeSite _ _ => some Folio.siteOrder
  | .config _ _ _ => some Folio.config
  | .reportReturn _ sd => some (Folio.report sd)
  | _ => none

/-- An address in the bodies of a side's two UPLINK folios. -/
def inUplinks (sd : Side) (a : Nat) : Prop := ∃ i, inBody (Folio.uplink sd i) a

/-- An address in the bodies of the two REPORT folios. -/
def inReports (a : Nat) : Prop := ∃ sd, inBody (Folio.report sd) a

/-- The addresses a command may store to: WRITE_MEMORY to the addresses it names that lie in SCRATCH or in the body of an
exchanged folio the host holds (R179); a touch, a request and a return to the body of their folio, and a frame or a return of
the reader link to the bodies of the side's UPLINK folios (R128, R181); the commands that may end a write or bring a recovery
to the bodies of REPORT (R136). Every other command to none. -/
def mayStore (s : State) : Instr → Nat → Prop
  | .writeMemory _ addr data, a =>
    (∃ i, i < data.length ∧ a = (addr.toNat + i) % 8192) ∧
      (6912 ≤ a ∨ ∃ f : Folio, f.posted = false ∧ (s.header f).holder = .host ∧ inBody f a)
  | .touch _ v, a =>
    ∃ f : Folio, v.toNat % 256 = f.val ∧ (inBody f a ∨ ∃ sd i, f = Folio.uplink sd i ∧ inUplinks sd a)
  | .answerFrame _ sd _, a => inUplinks sd a
  | .uplinkReturn _ sd _, a => inUplinks sd a
  | .journalWriteComplete _ _, a => inReports a
  | .powerOn _ _ _ _, a => inReports a
  | .hostReset _, a => inReports a
  | .warningCleared _, a => inReports a
  | c, a => ∃ f, folioOf c = some f ∧ inBody f a

/-- The command brings a cold start (R151, R175): in HOLDUP the warning clears once the journal has reported, or the journal
reports once the warning has cleared, by the end of the final snapshot or of a write it only waited for, or of one whose
failure leaves JOURNAL_EMPTY set, after which no final snapshot is written. -/
def coldStarts (s : State) : Instr → Prop
  | .warningCleared dt =>
    s.mode.mode = .holdup ∧ s.journal.phase = .done ∧ ∃ d, s.mode.clearT = some d ∧ d ≤ s.now + dt
  | .journalWriteComplete _ damage =>
    s.mode.mode = .holdup ∧ s.mode.cleared = true ∧ ∃ w, s.journal.inFlight = some w ∧
      (s.journal.phase = .finalWriting ∨ s.journal.phase = .coldWait ∨
        (s.journal.phase = .finalWait ∧ s.journal.empty = true ∧ (w.readBack damage).kind ≠ .valid))
  | _ => False

/-- The commands that may set CONTROL's STRAY bit (R178): writes of memory, accesses to registers the link does not have, and
touches. -/
def mayStray : Instr → Bool
  | .writeMemory _ _ _ => true
  | .readRegister _ _ => true
  | .unknownCommand _ _ => true
  | .strayRegisterWrite _ _ => true
  | .touch _ _ => true
  | .uplinkReturn _ _ _ => true
  | c => (folioOf c).isSome

/-- The fresh bits a command may clear (R178, R180): those FRESH names, and the one of the folio that is touched. -/
def mayClear : Instr → Folio → Prop
  | .fresh _ v, f => v.getLsbD f.val = true
  | .touch _ v, f => v.toNat % 256 = f.val
  | .uplinkReturn _ sd i, f => f = Folio.uplink sd i
  | c, f => folioOf c = some f

/-- The commands that may bring a recovery (R152, R155, R175). -/
def mayRecover : Instr → Bool
  | .powerOn _ _ _ _ => true
  | .hostReset _ => true
  | .journalWriteComplete _ _ => true
  | .warningCleared _ => true
  | _ => false

/-! ### Events -/

/-- One event has been raised and no other (R185): the entry stands at its place in the ring, the counter has moved on, and
the EVENTS folio has a new change count and is fresh. -/
def Raised (s t : State) (kind : EventKind) (object : Nat) (d1 d2 : Detail) : Prop :=
  let pos := ringPos s.exch.nextEvent
  t.exch.nextEvent = succ32 s.exch.nextEvent ∧
    t.exch.ring = s.exch.ring.set pos.val (some ⟨s.exch.nextEvent, s.mode.clock, object, kind, d1, d2⟩) ∧
    (t.header (eventFolio pos)).count = ((s.header (eventFolio pos)).count + 2) % 65536 ∧
    t.exch.fresh.getLsbD (eventFolio pos).val = true

/-- The newest entry of the ring (R185), raised at a clock. -/
def NewestEvent (t : State) (clock : Clock) (kind : EventKind) (object : Nat) (d1 d2 : Detail) : Prop :=
  ∃ n, t.exch.nextEvent = succ32 n ∧ t.exch.ring.get (ringPos n) = some ⟨n, clock, object, kind, d1, d2⟩

/-! ### Meters -/

/-- The edge of `ph` on meter `m` that comes `dt` later is accepted, is not lost to the single-phase run, and moves the
decoder by `move` from the accumulator `acc` (R1, R2, R5). -/
def EdgeMoves (s : State) (dt : Nat) (m : Meter) (ph : Phase) (move : Move) (acc : Int) : Prop :=
  let c := s.chan m
  let u := (s.elapse dt).togglePhase m ph
  s.dormant = false ∧ c.ignores ph u.capture = false ∧ (c.run ph).runCount < 8 ∧
    moveOf c.posA c.posB (PerMeter.get u.pins.phaseA m) (PerMeter.get u.pins.phaseB m) = move ∧ c.acc = acc

/-- The edge completes a forward cycle (R3). -/
def CompletesForward (s : State) (dt : Nat) (m : Meter) (ph : Phase) : Prop := EdgeMoves s dt m ph .forward 3

/-- The edge completes a reverse cycle (R3). -/
def CompletesReverse (s : State) (dt : Nat) (m : Meter) (ph : Phase) : Prop := EdgeMoves s dt m ph .backward (-3)

/-- The state once an edge that completed a cycle has gone through the filter, the run and the decoder. -/
def decodedCycle (s : State) (dt : Nat) (m : Meter) (ph : Phase) : State :=
  let u := (s.elapse dt).togglePhase m ph
  let c := ((s.chan m).setEdge ph u.capture).run ph
  u.setChan m { c with posA := PerMeter.get u.pins.phaseA m, posB := PerMeter.get u.pins.phaseB m, acc := 0 }

/-- A rise of the noise count: the edge is ignored, or it is accepted and moves the decoder by two positions (R1, R2). -/
def NoiseRises (s : State) (dt : Nat) (m : Meter) (ph : Phase) : Prop :=
  s.dormant = false ∧
    ((s.chan m).ignores ph (BitVec.ofNat 32 (s.now + dt)) = true ∨
      EdgeMoves s dt m ph .unresolved (s.chan m).acc)

/-- The edge is accepted and is the eighth in a row on its phase (R5). -/
def RunReachesEight (s : State) (dt : Nat) (m : Meter) (ph : Phase) : Prop :=
  s.dormant = false ∧ (s.chan m).ignores ph (BitVec.ofNat 32 (s.now + dt)) = false ∧
    (s.chan m).runPhase = ph ∧ (s.chan m).runCount = 7

/-- A meter that was OK has entered FAULT (R4): its cause, METER_FAULT with the meter, the cause and the count, and STATUS
posted with its fresh bit. -/
def EntersFault (s t : State) (m : Meter) (cause : FaultCause) (count : Nat) : Prop :=
  (t.chan m).fault = some cause ∧ Raised s t .meterFault m.number (.faultCause cause) (.num count) ∧
    t.exch.fresh.getLsbD Folio.status.val = true ∧ ∀ m', m' ≠ m → t.chan m' = s.chan m'

/-- A counted cycle that comes `dt` later is no OVERSPEED fault (R4, R18): the meter is in FAULT already, or the window that
the cycle's period joins is not full, or its rate is not above the maximum flow. -/
def KeepsSpeed (s : State) (dt : Nat) (m : Meter) : Prop :=
  let c := (s.chan m).stampCycle (BitVec.ofNat 32 (s.now + dt))
  (s.chan m).fault.isSome = true ∨ c.window.length < 16 ∨
    rateOf c.window c.cf ≤ PerMeter.get s.exch.config.maxFlow m

/-! ### Sides -/

/-- A side has gone to ENDING with a reason: the record keeps everything but the reason, the MAIN valves are closed and the
no-flow, suspend and stagger timers stopped (R65). -/
def GoesToEnding (s t : State) (sd : Side) (reason : EndReason) : Prop :=
  (t.side sd).state = .ending ∧
    (t.side sd).sale = (s.side sd).sale.map (fun o => { o with record := { o.record with reason := some reason } }) ∧
    (∀ p, ((t.side sd).valves.get p).main = false) ∧ (t.side sd).noflowT = none ∧ (t.side sd).suspendT = none ∧
    (t.side sd).staggerT = none

/-- A side has gone to ENDING with a reason, and the other side is as it was (R65). -/
def EndsWith (s t : State) (sd : Side) (reason : EndReason) : Prop :=
  GoesToEnding s t sd reason ∧ t.side sd.other = s.side sd.other

/-- The notice of a meter's fault to its side (R69), which is in neither AUTHORIZED nor STARTING: a sale that flows, is slow or
is suspended and has the meter goes to ENDING with METER_FAULT, and any other side stands. -/
def FaultIsTold (s t : State) (m : Meter) : Prop :=
  (∀ o, (s.chan m).attached.isSome = true →
    ((s.side m.side).state.delivers = true ∨ (s.side m.side).state = .suspended) → (s.side m.side).sale = some o →
      EndsWith s t m.side .meterFault) ∧
    ((s.chan m).attached = none ∨ ((s.side m.side).state.delivers = false ∧ (s.side m.side).state ≠ .suspended) →
      t.sides = s.sides)

/-- A side whose one lifted nozzle is `n` is ready to capture grade `g` under a sale's mask (R50): the nozzle's map names the
grade, the mask allows it, and every meter and motor it uses is without fault. -/
def ReadyFor (s : State) (sd : Side) (mask : BitVec 6) (n : Fin 4) (g : Fin 6) : Prop :=
  (s.prices.maps.get sd).get n = some g ∧ mask.getLsbD g.val = true ∧
    ∀ p, (s.prices.grades.get g).comp.uses p = true → (s.chan ⟨sd, p⟩).fault = none ∧ (s.motor p).state ≠ .failed

/-- The one lifted nozzle of a side. -/
def onlyUp (n : Fin 4) : Vector Bool 4 := (Vector.replicate 4 false).set n.val true

/-- A sale with the record `r` has captured (R34, R40, R51): its items stand in the record and the pair, the side is STARTING
and waits for its zero check, the meters of the grade are attached with nothing counted, and the side is a user of its
motors. -/
def Captures (s t : State) (sd : Side) (r : SaleRecord) (mask : BitVec 6) (n : Fin 4) (g : Fin 6) : Prop :=
  let price := s.prices.active.get g
  let grade := s.prices.grades.get g
  let rule := s.exch.config.rounding
  let target := targetOf r.limitKind r.amount rule price
  (t.side sd).state = .starting ∧
    (t.side sd).sale = some
      { record := { r with
          nozzle := some n, grade := some g, target := some target, price := some price, rounding := rule }
        mask := mask
        cap := some
          { nozzle := n, grade := g, price := price, margin := grade.margin, band := s.exch.config.blendBand
            target := target, slow := slowPoint target grade.margin
            ceiling := ceilingSets r.limitKind r.amount rule price } } ∧
    (t.side sd).needZero = true ∧ (t.side sd).waiting = false ∧ (t.side sd).authT = none ∧
    (t.side sd).last = ⟨price, 0, 0, r.number⟩ ∧
    (∀ p, grade.comp.uses p = true →
      (t.chan ⟨sd, p⟩).attached = some ⟨r.number, 0⟩ ∧ (t.motor p).users.has (.side sd) = true) ∧
    (∀ p, grade.comp.uses p = false → t.chan ⟨sd, p⟩ = s.chan ⟨sd, p⟩) ∧
    (∃ z, (t.disp sd).zero = some z ∧ z.sale = r.number) ∧ t.side sd.other = s.side sd.other

/-- The result of AUTHORIZE's checks, in their order (R47). -/
def authorizeCheck (s : State) (sd : Side) (r : AuthReq) : Option Result :=
  if (s.side sd).state ≠ .idle ∧ (s.side sd).state ≠ .calling then some .wrongState
  else if s.mode.mode ≠ .openMode then some .mode
  else if (s.disp sd).state = .fault then some .displayFault
  else if 5 ≤ (s.records sd).held then some .backlog
  else if r.origin = none then some .invalidOrigin
  else if r.origin = some .reader ∧ (s.gate sd).state ≠ .opened then some .gateNotOpen
  else if r.origin = some .test ∧ s.journal.switchClosed = false then some .metrologySwitch
  else if r.limit.kind = none ∨ (r.limit.kind ≠ some .unlimited ∧ r.limit.amount = 0) then some .invalidLimit
  else if r.mask.setWidth 6 = 0#6 then some .gradeMaskEmpty
  else none

/-! ### Motors -/

/-- The motor states in which the contactor is closed (R82, R83). -/
def MotorState.turning : MotorState → Bool
  | .starting | .running | .rundown => true
  | _ => false

/-- No side has all that its STARTING waits for, and PRIME is not the present stage. -/
def NoneLeavesStarting (s : State) : Prop := (∀ sd, (s.side sd).startReady = false) ∧ s.mode.stage ≠ some .prime

/-- No side is in AUTHORIZED or STARTING, and PRIME is not the present stage. -/
def NoneBeforeFlow (s : State) : Prop :=
  (∀ sd, (s.side sd).state ≠ .authorized ∧ (s.side sd).state ≠ .starting) ∧ s.mode.stage ≠ some .prime

/-- A motor whose contactor opened now (R76, R85): the time of last stop is the present time, from which RESTART_GAP counts,
and its pressure, loss and rundown timers are stopped. -/
def StoppedNow (s t : State) (p : Product) : Prop :=
  (t.motor p).contactor = false ∧ (t.motor p).lastStop = t.now ∧
    (t.motor p).restUntil = t.now + seconds s.exch.config.restartGap ∧ (t.motor p).pressureT = none ∧
    (t.motor p).lossT = none ∧ (t.motor p).rundownT = none ∧ (t.motor p).users = (s.motor p).users

/-- The grade of a side's captured sale needs a product. -/
def SaleNeeds (s : State) (sd : Side) (p : Product) : Prop :=
  ∃ o c, (s.side sd).sale = some o ∧ o.cap = some c ∧ (s.prices.grades.get c.grade).comp.uses p = true

/-- The FAILED notice of a product to a side (R69) in neither AUTHORIZED nor STARTING: a sale that flows, is slow or is
suspended and needs the product goes to ENDING with NO_PUMP, and any other side stands. -/
def FailureIsTold (s t : State) (sd : Side) (p : Product) : Prop :=
  (SaleNeeds s sd p → ((s.side sd).state.delivers = true ∨ (s.side sd).state = .suspended) →
      GoesToEnding s t sd .noPump) ∧
    (¬ SaleNeeds s sd p ∨ ((s.side sd).state.delivers = false ∧ (s.side sd).state ≠ .suspended) → t.side sd = s.side sd)

/-- The command fails the motor now (R82, R84): its pressure timer has run out in STARTING, or its loss timer in RUNNING or
RUNDOWN. -/
def FailsNow (c : Instr) (s : State) (dt : Nat) (p : Product) : Prop :=
  ∃ d, d ≤ s.now + dt ∧
    ((c = .pressureTimeout dt p ∧ (s.motor p).state = .starting ∧ (s.motor p).pressureT = some d) ∨
      (c = .pressureLost dt p ∧ (s.motor p).state.confirmed = true ∧ (s.motor p).lossT = some d))

/-! ### Totals -/

/-- A watch is armed on a total that passes from below its threshold to it or above (R142). -/
def Watch.fires (w : Watch) (o : TotalId) (old new : Nat) : Prop :=
  w.armed = true ∧ w.object = o ∧ old < w.threshold ∧ w.threshold ≤ new

/-! ### Opening and closing -/

/-- Some mapped grade needs a product (R169). -/
def Needed (s : State) (p : Product) : Prop :=
  ∃ g, mapped s.prices.maps g = true ∧ (s.prices.grades.get g).comp.uses p = true

/-- A gate is settled for READERS (R170). -/
def GateSettled (s : State) (sd : Side) : Prop := (s.gate sd).state = .opened ∨ (s.gate sd).state = .tripped

/-- PRIME is over (R169, R170): PRIME is released from every product, each gate that is OFF enters STARTING with its domain on,
and READERS waits for the gates that are not settled, or, with both settled, the mode is OPEN; a TRIPPED gate is named in the
opening outcome. -/
def ReadersFollow (s t : State) : Prop :=
  (∀ p, (t.motor p).users.prime = false) ∧
    (∀ sd, (s.gate sd).state = .off → (t.gate sd).state = .starting ∧ (t.gate sd).power = true ∧
      (t.gate sd).startT = some (t.now + seconds s.exch.config.readerStartTimeout)) ∧
    (∀ sd, (s.gate sd).state ≠ .off → t.gate sd = s.gate sd) ∧
    (∀ sd, (s.gate sd).state = .tripped → t.mode.outcome.gates.get sd = true) ∧
    ((∃ sd, ¬ GateSettled s sd) → t.mode.mode = s.mode.mode ∧ t.mode.stage = some .readers ∧
      ∀ sd, t.mode.readersAwait.get sd = true ↔ ¬ GateSettled s sd) ∧
    ((∀ sd, GateSettled s sd) → t.mode.mode = .openMode ∧ t.mode.stage = none)

/-- DRAIN is over (R173): the gates are OFF but those that are TRIPPED, LOW has had its stop command, and HIGH's follows in
1 s. -/
def MotorsGoOff (s t : State) : Prop :=
  t.mode.mode = .closing ∧ t.mode.stage = some .motorsOff ∧ t.mode.graceT = none ∧ t.mode.spacingNext = some .high ∧
    t.mode.spacingT = some (t.now + seconds 1) ∧
    (∀ sd, (t.gate sd).state = if (s.gate sd).state = .tripped then .tripped else .off) ∧
    (s.motors.fifo = [] → (t.motor .low).users = Users.none ∧ (t.motor .low).state.turning = false)

/-- The displays are dark in the DISPLAY stage (R104, R173): the supply is off, and the SNAPSHOT stage has asked for a snapshot,
whose write begins now, or after the one in flight. -/
def SnapshotBegins (s t : State) : Prop :=
  t.mode.mode = s.mode.mode ∧ t.mode.stage = some .snapshot ∧ t.display.supply = false ∧
    t.display.darkening = false ∧
    (s.journal.phase = .normal → s.journal.empty = false →
      (s.journal.inFlight = none → ∃ w, t.journal.inFlight = some w ∧ w.slot = s.journal.next ∧
        w.seq = s.journal.seq ∧ t.journal.closeWait = .inWrite) ∧
      (s.journal.inFlight.isSome = true → t.journal.inFlight = s.journal.inFlight ∧ t.journal.request = true ∧
        t.journal.closeWait = .toBegin))

/-! ### CONFIG -/

/-- Every field of CONFIG lies in its range (R184). -/
def Settings.inRange (c : Settings) : Prop :=
  (10 ≤ c.noflowTimeout ∧ c.noflowTimeout ≤ 180) ∧ (30 ≤ c.suspendTimeout ∧ c.suspendTimeout ≤ 600) ∧
    (1 ≤ c.settleTime ∧ c.settleTime ≤ 5) ∧ c.valveStagger ≤ 1000 ∧ (10 ≤ c.authTimeout ∧ c.authTimeout ≤ 600) ∧
    (5 ≤ c.blendBand ∧ c.blendBand ≤ 50) ∧
    (∀ m, 1000 ≤ PerMeter.get c.maxFlow m ∧ PerMeter.get c.maxFlow m ≤ 15000) ∧
    (1 ≤ c.motorGap ∧ c.motorGap ≤ 30) ∧ (2 ≤ c.pressureTimeout ∧ c.pressureTimeout ≤ 30) ∧
    (2 ≤ c.restartGap ∧ c.restartGap ≤ 60) ∧ c.idleRun ≤ 600 ∧ (30 ≤ c.failHold ∧ c.failHold ≤ 900) ∧
    (-30 ≤ c.warmThreshold ∧ c.warmThreshold ≤ 10) ∧ (1 ≤ c.warmLimit ∧ c.warmLimit ≤ 30) ∧ c.darkDelay ≤ 600 ∧
    c.divisor ≤ 255 ∧ (50 ≤ c.pollInterval ∧ c.pollInterval ≤ 500) ∧ (5 ≤ c.answerTimeout ∧ c.answerTimeout ≤ 50) ∧
    (2 ≤ c.readerStartTimeout ∧ c.readerStartTimeout ≤ 60) ∧ c.downlinkRetries ≤ 3 ∧
    (60 ≤ c.closeGrace ∧ c.closeGrace ≤ 1800)

/-! ### Invariants -/

/-- The stored bytes are in canonical form and lie in the 8 KiB of the exchange memory. -/
def MemoryOk (s : State) : Prop := Memory.wf s.exch.mem = true ∧ ∀ c ∈ s.exch.mem, c.1 < 8192

/-- The states of a side in which its SLOW valves may be open: FLOWING, SLOW, and within the stagger after them (R53). -/
def SideState.slowMayOpen : SideState → Bool
  | .flowing | .slow | .suspended | .ending => true
  | _ => false

/-- A side's MAIN valves are open only while it is FLOWING, and its SLOW valves only while it is FLOWING or SLOW, or in
SUSPENDED and ENDING while the stagger to their closing moment runs (R53). -/
def ValvesOk (s : State) : Prop :=
  ∀ sd p, ((s.side sd).state ≠ .flowing → ((s.side sd).valves.get p).main = false) ∧
    ((s.side sd).state.slowMayOpen = false → ((s.side sd).valves.get p).slow = false) ∧
    ((s.side sd).state = .suspended ∨ (s.side sd).state = .ending → ((s.side sd).valves.get p).slow = true →
      (s.side sd).slowClose.isSome = true)

/-- A contactor is closed exactly while its motor is STARTING, RUNNING or in RUNDOWN, and at most one motor is STARTING
(R80). -/
def MotorsOk (s : State) : Prop :=
  (∀ p, (s.motor p).contactor = (s.motor p).state.turning) ∧
    ∀ p q, (s.motor p).state = .starting → (s.motor q).state = .starting → p = q

/-- The step accumulator, the run, the back and noise counts, the capture window, the attachment's accumulator and the CF kept
aside lie in the ranges the meter channel's table gives them (01). The working CF is not among them: a recovery takes it from
the slot as it finds it. -/
def Channel.inRange (c : Channel) : Prop :=
  -3 ≤ c.acc ∧ c.acc ≤ 3 ∧ c.runCount ≤ 255 ∧ c.back ≤ 16 ∧ c.noise ≤ 65535 ∧ c.window.length ≤ 16 ∧
    (∀ a, c.attached = some a → a.fine ≤ 2 ^ 64 - 1) ∧ ∀ cf, c.cfAside = some cf → 256 ≤ cf ∧ cf ≤ 16383

/-- Every channel is in range. -/
def ChannelsOk (s : State) : Prop := ∀ m, (s.chan m).inRange

/-- The mode a stage belongs to (R160). -/
def Stage.mode : Stage → Mode
  | .wake | .check | .warm | .lamp | .prime | .readers => .opening
  | .refuse | .drain | .readersOff | .motorsOff | .display | .snapshot => .closing

/-- READY reads 1 exactly while the mode is neither COLD nor HOLDUP, and a stage stands only in its own mode (R160,
R178). -/
def ModeOk (s : State) : Prop :=
  s.exch.ready = !s.dormant ∧ ∀ st, s.mode.stage = some st → s.mode.mode = st.mode

end Sys2Proof.Machine
end

