-- ==== Sys2Proof/WellFormed.lean ====
section
/-!
DEFINITION. Which commands are well formed: an operand that a folio field, a link field or the SPI link carries fits the
width the spec gives it. An ill-formed command names no event of the part. What is invalid by the spec's own rules (an
unknown meter number, a price above its limit) is well formed, and refused by the command's meaning.
-/
namespace Sys2Proof

/-- A number fits a field of so many bytes. -/
def fits (bytes n : Nat) : Bool := decide (n < 256 ^ bytes)

/-- A limit's amount fits its three bytes. -/
def LimitReq.wellFormed (r : LimitReq) : Bool := fits 3 r.amount

/-- A grade record's composition and margin are bytes. -/
def GradeReq.wellFormed (g : GradeReq) : Bool := fits 1 g.comp && fits 1 g.margin

/-- Every field of a GRADES body fits. -/
def GradesReq.wellFormed (r : GradesReq) : Bool :=
  r.grades.toList.all GradeReq.wellFormed && r.maps.a.toList.all (fits 1) && r.maps.b.toList.all (fits 1)

/-- Every field of a PRICE STAGING body fits. -/
def StagingReq.wellFormed (r : StagingReq) : Bool :=
  r.prices.toList.all (fits 3) && fits 1 r.cond && fits 1 r.weekday && fits 3 r.second

/-- A CF fits its two bytes. -/
def CalEntry.wellFormed : CalEntry → Bool
  | .leave => true
  | .set cf => fits 2 cf

/-- Every entry of a CALIBRATION body fits. -/
def calWellFormed (r : CalReq) : Bool := Meter.all.all fun m => (PerMeter.get r m).wellFormed

/-- Every field of a WATCH entry fits. -/
def WatchReq.wellFormed (w : WatchReq) : Bool := fits 1 w.action && fits 1 w.object && fits 8 w.threshold

/-- Every second of a SCHEDULE body fits. -/
def ScheduleReq.wellFormed : ScheduleReq → Bool
  | .entries days => days.toList.all fun d => fits 3 d.1 && fits 3 d.2
  | .alwaysOpen => true
  | .other => true

/-- A DOWNLINK body fits: one byte of address, and a payload whose length is a byte and which the body has room for. -/
def DownlinkReq.wellFormed (r : DownlinkReq) : Bool := fits 1 r.addr && decide (r.payload.length ≤ 237)

/-- A complete frame holds as many payload bytes as its length character says (R112). -/
def Frame.wellFormed (f : Frame) : Bool := decide (f.payload.length = f.length.toNat)

/-- A start address of the exchange memory. -/
def inMemory (addr : BitVec 16) : Bool := decide (addr.toNat < 8192)

/-- A command is well formed. -/
def Instr.wellFormed : Instr → Bool
  | .pulserEdge _ _ _ => true
  | .rateExpiry _ _ => true
  | .meterClear _ _ n => fits 1 n
  | .grades _ _ req => req.wellFormed
  | .priceStaging _ _ req => req.wellFormed
  | .priceSwap _ => true
  | .nozzleLift _ _ _ => true
  | .nozzleHang _ _ _ => true
  | .authorize _ _ _ req => req.limit.wellFormed
  | .changeLimit _ _ _ req => req.wellFormed
  | .stop _ _ _ => true
  | .resume _ _ _ => true
  | .endSale _ _ _ => true
  | .authTimeout _ _ => true
  | .valveStagger _ _ => true
  | .slowValveClose _ _ => true
  | .noflowTimeout _ _ => true
  | .suspendTimeout _ _ => true
  | .settleTime _ _ => true
  | .startSlotGrant _ => true
  | .motorGap _ => true
  | .restartGap _ => true
  | .pressureOkPresent _ _ => true
  | .pressureOkAbsent _ _ => true
  | .pressureTimeout _ _ => true
  | .pressureLost _ _ => true
  | .idleRun _ _ => true
  | .failHold _ _ => true
  | .motorRetry _ _ n => fits 1 n
  | .transferEnd _ _ echo => decide (echo.length = 54)
  | .refreshStart _ _ => true
  | .zeroCheckHold _ _ => true
  | .lampTestHold _ _ => true
  | .displayRetest _ _ n => fits 1 n
  | .darkDelay _ => true
  | .message _ _ _ text => decide (text.length ≤ 240)
  | .temperatureSample _ _ => true
  | .warmLimit _ => true
  | .pollCycleStart _ _ => true
  | .answerFrame _ _ f => f.wellFormed
  | .answerTimeout _ _ => true
  | .receiveError _ _ => true
  | .breakOff _ _ => true
  | .resyncEnd _ _ => true
  | .readerStartTimeout _ _ => true
  | .offTime _ _ => true
  | .tamperInputOpen _ _ => true
  | .readerClear _ _ n => fits 1 n
  | .readerRestart _ _ n => fits 1 n
  | .admission _ _ _ => true
  | .uplinkReturn _ _ _ => true
  | .downlink _ _ _ req => req.wellFormed
  | .reportReturn _ _ => true
  | .watchFolio _ _ req => req.toList.all WatchReq.wellFormed
  | .periodicTimer _ => true
  | .journalWriteComplete _ damage => decide (damage.length ≤ 2048)
  | .metrologySwitchChange _ _ => true
  | .calibration _ _ req => calWellFormed req
  | .journalInit _ _ => true
  | .powerOn _ _ taken decay =>
    decide (taken ≤ 2048) && decide (decay.map Prod.fst).Nodup && decay.all fun d => decide (d.2.length ≤ 2048)
  | .hostReset _ => true
  | .powerWarning _ => true
  | .warningCleared _ => true
  | .clockTick _ => true
  | .setClock _ _ weekday second => fits 1 weekday && fits 3 second
  | .schedule _ _ req => req.wellFormed
  | .openSite _ _ => true
  | .closeSite _ _ => true
  | .wakeSettle _ => true
  | .closeGrace _ => true
  | .motorSpacing _ => true
  | .readMemory _ addr _ => inMemory addr
  | .writeMemory _ addr _ => inMemory addr
  | .readRegister _ _ => true
  | .unknownCommand _ cmd => !(cmd == 0x21#8 || cmd == 0x22#8 || cmd == 0x31#8 || cmd == 0x32#8)
  | .touch _ _ => true
  | .fresh _ _ => true
  | .freshMask _ _ => true
  | .stray _ => true
  | .strayRegisterWrite _ addr => addr == 0#16 || decide (4 < addr.toNat)
  | .config _ _ body => decide (body.length ≤ 240)
  | .statusUpdate _ => true
  | .tamperInputClosed _ _ => true
  | .warningInputInactive _ => true

end Sys2Proof
end

