-- ==== Sys2Proof/Certificates/Slice0/Obligations.lean ====
section
/-!
DEFINITION. The statements for the provers. A statement whose docstring names a notes/assumptions row rests on a choice
of the model in that point.
-/

open Sys2Proof Sys2Proof.Machine

/-! ### The whole machine -/

/-- A step takes the command at the front of the queue and runs it with the rest; on an empty queue the part idles
(notes/assumptions/1.md). -/
def Obligations.StepTakesTheFront : Prop :=
  (∀ s c rest, s.pending = c :: rest → step s = exec c { s with pending := rest }) ∧
    ∀ s, s.pending = [] → step s = .next s

/-- Every invariant of Safety.lean holds right after reset (notes/assumptions/3.md). -/
def Obligations.InvariantsHoldAtReset : Prop :=
  MemoryOk State.reset ∧ ValvesOk State.reset ∧ MotorsOk State.reset ∧ ChannelsOk State.reset ∧ ModeOk State.reset

/-- Every step keeps the stored bytes in canonical form and inside the 8 KiB of the exchange memory. -/
def Obligations.StepKeepsMemory : Prop := ∀ s t, MemoryOk s → step s = .next t → MemoryOk t

/-- Every step keeps the valves as R53 has them: MAIN open only while FLOWING, SLOW only while FLOWING or SLOW, or in
SUSPENDED and ENDING while the stagger to its closing moment runs. -/
def Obligations.StepKeepsValves : Prop := ∀ s t, ValvesOk s → step s = .next t → ValvesOk t

/-- Every step keeps each contactor closed exactly while its motor is STARTING, RUNNING or in RUNDOWN (R76), and at
most one motor STARTING (R80). -/
def Obligations.StepKeepsMotors : Prop := ∀ s t, MotorsOk s → step s = .next t → MotorsOk t

/-- Every step keeps a meter channel's step accumulator, run, back count, noise count, capture window, the
accumulator of its attachment and the CF kept aside in the ranges the channel's table gives (01, The meter channel).
Of the table's items the working CF is left out: a recovery takes it from the slot as it finds it. -/
def Obligations.StepKeepsChannels : Prop := ∀ s t, ChannelsOk s → step s = .next t → ChannelsOk t

/-- Every step keeps READY at 1 exactly outside COLD and HOLDUP, and a stage only in its own mode (R160, R178). -/
def Obligations.StepKeepsMode : Prop := ∀ s t, ModeOk s → step s = .next t → ModeOk t

/-- Every command leaves every stored byte of the exchange memory as it was, but at the addresses it may store to:
those that WRITE_MEMORY names in SCRATCH and in bodies the host holds, the body of the folio of a touch, a request or
a return, a side's UPLINK bodies for its frames and returns, and the REPORT bodies for the commands that may end a
write or bring a recovery. A cold start that the end of HOLDUP brings makes every other byte outside SCRATCH 0 and
leaves SCRATCH, and POWER_ON makes every other byte 0 (R179, R181, R186). -/
def Obligations.CommandsStoreInTheirPlace : Prop :=
  ∀ c s t, exec c s = .next t → ∀ a, ¬ mayStore s c a →
    ((∀ dt pins taken decay, c ≠ .powerOn dt pins taken decay) → ¬ coldStarts s c →
      Memory.read t.exch.mem a = Memory.read s.exch.mem a) ∧
    (coldStarts s c → Memory.read t.exch.mem a = if 6912 ≤ a then Memory.read s.exch.mem a else 0) ∧
    (∀ dt pins taken decay, c = .powerOn dt pins taken decay → Memory.read t.exch.mem a = 0)

/-- Time does not run back and no command changes the queue; and but for the commands that may bring a recovery, only
FRESH_MASK changes the mask, only CONFIG (by itself or by TOUCH) the accepted CONFIG, only POWER_WARNING READY, only
the SPI reads the bytes last read, only STRAY clears the STRAY bit and only a stray access or a touch sets it, and a
fresh bit that is set is cleared only by FRESH and by the touch, the request or the return of its own folio. -/
def Obligations.OneCommandChangesEachRegister : Prop :=
  ∀ c s t, exec c s = .next t →
    t.pending = s.pending ∧ s.now ≤ t.now ∧
    (mayRecover c = false →
      ((∀ dt v, c ≠ .freshMask dt v) → t.exch.mask = s.exch.mask) ∧
      ((∀ dt ref b, c ≠ .config dt ref b) → (∀ dt v, c ≠ .touch dt v) → t.exch.config = s.exch.config) ∧
      ((∀ dt, c ≠ .powerWarning dt) → t.exch.ready = s.exch.ready) ∧
      ((∀ dt a n, c ≠ .readMemory dt a n) → (∀ dt a, c ≠ .readRegister dt a) → t.exch.spiOut = s.exch.spiOut) ∧
      ((∀ dt, c ≠ .stray dt) → s.exch.stray = true → t.exch.stray = true) ∧
      (mayStray c = false → s.exch.stray = false → t.exch.stray = false) ∧
      ∀ f : Folio, ¬ mayClear c f → s.exch.fresh.getLsbD f.val = true → t.exch.fresh.getLsbD f.val = true)

/-- PRICE_STAGING, GRADES, WATCH and CALIBRATION are the host's touch of a folio it has filled with the request: the
bytes of a well-formed request spell the request (10, Folio bodies; notes/assumptions/2.md). The model's choices: the
widths and codes of the four bodies that 10 leaves open, PRICE STAGING's among them (notes/assumptions/17.md). -/
def Obligations.TouchTakesTheRequest : Prop :=
  ∀ (s : State) (dt : Nat) (ref : Word32), Memory.wf s.exch.mem = true →
    (∀ r, r.wellFormed = true → (s.header Folio.priceStaging).holder = .host →
      exec (.priceStaging dt ref r) s = exec (.touch dt 10#32) (s.hostFill Folio.priceStaging ref r.bytes)) ∧
    (∀ r, r.wellFormed = true → (s.header Folio.grades).holder = .host →
      exec (.grades dt ref r) s = exec (.touch dt 9#32) (s.hostFill Folio.grades ref r.bytes)) ∧
    (∀ r : Vector WatchReq 4, r.toList.all WatchReq.wellFormed = true → (s.header Folio.watch).holder = .host →
      exec (.watchFolio dt ref r) s = exec (.touch dt 13#32) (s.hostFill Folio.watch ref (watchBytes r))) ∧
    (∀ r, calWellFormed r = true → (s.header Folio.calibration).holder = .host →
      exec (.calibration dt ref r) s = exec (.touch dt 11#32) (s.hostFill Folio.calibration ref (calBytes r)))

/-! ### Meters -/

/-- A forward cycle that finds the back count above 0 subtracts 1 from it and is not counted, and one that finds it
at 0 is counted (R7). A reverse cycle adds 1 to the back count, or, finding it at 16, leaves it and is a REVERSE
fault with 17 as its second detail word (R6). -/
def Obligations.CyclesMoveTheBackCount : Prop :=
  ∀ dt m ph s,
    let u := decodedCycle s dt m ph
    (CompletesForward s dt m ph →
      (0 < (s.chan m).back →
        exec (.pulserEdge dt m ph) s = .next (u.setChan m { u.chan m with back := (s.chan m).back - 1 })) ∧
      ((s.chan m).back = 0 → exec (.pulserEdge dt m ph) s = .next (u.countCycle m))) ∧
    (CompletesReverse s dt m ph →
      ((s.chan m).back ≠ 16 →
        exec (.pulserEdge dt m ph) s = .next (u.setChan m { u.chan m with back := (s.chan m).back + 1 })) ∧
      ((s.chan m).back = 16 → exec (.pulserEdge dt m ph) s = .next (u.meterFault m .reverse 17)))

/-- A counted cycle adds its CF to the meter's total and to exactly one of two places: of an unattached meter to its
unattributed total, and of one attached to a sale that starts, delivers, is suspended or settles to the sale's
accumulator; its period joins the window and the stamp becomes the present time (R9, R15). What the cycle does to the
side of its sale is CountedCyclesMoveTheSale's, and one that is an OVERSPEED fault MetersFault's. The model's choice:
the difference of two times is taken modulo 2^32 (notes/assumptions/31.md). -/
def Obligations.CountedCyclesGoToOnePlace : Prop :=
  ∀ dt m ph s, CompletesForward s dt m ph → (s.chan m).back = 0 → KeepsSpeed s dt m →
    let stamped := (s.chan m).stampCycle (BitVec.ofNat 32 (s.now + dt))
    let total := PerMeter.set s.store.totals.meter m (satAdd64 (PerMeter.get s.store.totals.meter m) (s.chan m).cf)
    ((s.chan m).attached = none →
      ∃ t, exec (.pulserEdge dt m ph) s = .next t ∧ Lands dt [.pfe, .store, .exch, .pins] s t ∧
        t.store.totals = { s.store.totals with
          meter := total
          unattributed := PerMeter.set s.store.totals.unattributed m
            (satAdd64 (PerMeter.get s.store.totals.unattributed m) (s.chan m).cf) } ∧
        t.store.records = s.store.records ∧ t.store.counter = s.store.counter ∧ (t.chan m).window = stamped.window ∧
        (t.chan m).stamp = some (BitVec.ofNat 32 (s.now + dt)) ∧ (∀ m', m' ≠ m → t.chan m' = s.chan m')) ∧
    (∀ a, (s.chan m).attached = some a →
      ((s.side m.side).state.slowMayOpen = true ∨ (s.side m.side).state = .starting) →
      ∃ t, exec (.pulserEdge dt m ph) s = .next t ∧
        Lands dt [.pfe, .sides, .display, .store, .journal, .exch, .pins] s t ∧
        (t.chan m).attached = some ⟨a.sale, satAdd64 a.fine (s.chan m).cf⟩ ∧
        t.store.totals = { s.store.totals with meter := total } ∧ (t.chan m).window = stamped.window ∧
        (t.chan m).stamp = some (BitVec.ofNat 32 (s.now + dt)) ∧
        t.side m.side.other = s.side m.side.other ∧ (∀ m', m' ≠ m → t.chan m' = s.chan m'))

/-- An edge less than 20 us after the previous edge on its phase is ignored: the noise count rises by 1, held at 65
535, the time becomes the phase's last edge time, and nothing else changes, unless the rise is the NOISE fault's (R2,
R19). One second after the last counted cycle the window empties, the stamp becomes absent and the rate is 0 (R16).
The rise that is the NOISE fault's is MetersFault's. The model's choice: the difference of two times is taken modulo
2^32 (notes/assumptions/31.md). -/
def Obligations.EdgesAndRatesAreTimed : Prop :=
  ∀ dt m (s : State), s.dormant = false →
    (∀ ph e, (s.chan m).edge ph = some e → (BitVec.ofNat 32 (s.now + dt) - e).toNat < 20 →
      ((s.chan m).attached = none ∨ (s.chan m).noise ≠ 64) →
      ∃ t, exec (.pulserEdge dt m ph) s = .next t ∧ Lands dt [.pfe, .pins] s t ∧
        (∀ m', m' ≠ m → t.chan m' = s.chan m') ∧
        t.chan m = { (s.chan m).setEdge ph (BitVec.ofNat 32 (s.now + dt)) with
          noise := min 65535 ((s.chan m).noise + 1) }) ∧
    (∀ t0, (s.chan m).stamp = some t0 → 1000000 ≤ (BitVec.ofNat 32 (s.now + dt) - t0).toNat →
      ∃ t, exec (.rateExpiry dt m) s = .next t ∧ Lands dt [.pfe] s t ∧ t.meterRate m = 0 ∧
        t.chan m = { s.chan m with window := [], stamp := none } ∧ (∀ m', m' ≠ m → t.chan m' = s.chan m'))

/-- METER_CLEAR clears a meter's counts and its fault, or is refused and changes no meter. For a meter that was in
FAULT its event is written at its place in the ring, with the clock, the meter number and the cleared cause, under
the EVENTS folio's change count, and STATUS and the EVENTS folio are posted fresh; for a meter that was OK there is
no event (R20). The model's choices: a result detail of 0 where the rule names none (notes/assumptions/12.md), and a
change count that one update raises by 2 (notes/assumptions/16.md). -/
def Obligations.MeterClears : Prop :=
  ∀ dt ref n s, CanTouch s Folio.siteOrder →
    (Meter.ofNumber n = none → ∃ t, exec (.meterClear dt ref n) s = .next t ∧
      Refused dt s t Folio.siteOrder ref .invalidMeter 0) ∧
    (∀ m, Meter.ofNumber n = some m → (s.side m.side).state.holdsSale = true →
      ∃ t, exec (.meterClear dt ref n) s = .next t ∧ Refused dt s t Folio.siteOrder ref .wrongState 0) ∧
    (∀ m, Meter.ofNumber n = some m → (s.side m.side).state.holdsSale = false →
      ∃ t, exec (.meterClear dt ref n) s = .next t ∧ Lands dt [.pfe, .exch] s t ∧
        Answered s t Folio.siteOrder ref .done 0 ∧ (∀ m', m' ≠ m → t.chan m' = s.chan m') ∧
        t.chan m = { s.chan m with back := 0, noise := 0, runCount := 0, fault := none } ∧
        ((s.chan m).fault = none → t.exch.ring = s.exch.ring ∧ t.exch.nextEvent = s.exch.nextEvent) ∧
        ∀ cause, (s.chan m).fault = some cause → t.exch.fresh.getLsbD Folio.status.val = true ∧
          ∃ d, Raised s t .meterCleared m.number (.faultCause cause) d)

/-- A meter that is OK enters FAULT by NOISE when its noise count rises to 65 while it is attached, by PHASE_LOSS
when its run on one phase reaches 8, by REVERSE when a reverse cycle finds the back count at 16, and by OVERSPEED
when a counted cycle fills the window to 16 periods whose rate is above the maximum flow: METER_FAULT is raised with
the meter, the cause and the count or rate, STATUS is posted fresh, and a sale that has the meter and flows, is slow
or is suspended goes to ENDING with METER_FAULT. A meter already in FAULT takes no second fault (R4 to R6, R18, R19,
R69). The side is neither AUTHORIZED, where it tests its readiness, nor STARTING, where the sale completes. The
model's choices: the difference of two times is taken modulo 2^32 (notes/assumptions/31.md), and a change count is
raised by 2 (notes/assumptions/16.md). -/
def Obligations.MetersFault : Prop :=
  ∀ dt m ph (s : State),
    let frame := [Block.pfe, .sides, .display, .journal, .exch, .pins]
    ((s.side m.side).state ≠ .authorized → (s.side m.side).state ≠ .starting → (s.chan m).fault = none →
      (NoiseRises s dt m ph → (s.chan m).attached.isSome = true → (s.chan m).noise = 64 →
        ∃ t, exec (.pulserEdge dt m ph) s = .next t ∧ Lands dt frame s t ∧ EntersFault s t m .noise 65 ∧
          (t.chan m).noise = 65 ∧ FaultIsTold s t m) ∧
      (RunReachesEight s dt m ph → ∃ t, exec (.pulserEdge dt m ph) s = .next t ∧ Lands dt frame s t ∧
        EntersFault s t m .phaseLoss 8 ∧ (t.chan m).runCount = 8 ∧ FaultIsTold s t m) ∧
      (CompletesReverse s dt m ph → (s.chan m).back = 16 →
        ∃ t, exec (.pulserEdge dt m ph) s = .next t ∧ Lands dt frame s t ∧ EntersFault s t m .reverse 17 ∧
          (t.chan m).back = 16 ∧ FaultIsTold s t m) ∧
      (∀ t0, CompletesForward s dt m ph → (s.chan m).back = 0 → (s.chan m).stamp = some t0 →
        15 ≤ (s.chan m).window.length → (∀ i, (s.store.watches.get i).armed = false) →
        ((s.chan m).attached = none → (s.pfe.stray.get m.side).reported = true ∧ s.pfe.nightFlag = true) →
        let window := ((s.chan m).window ++ [(BitVec.ofNat 32 (s.now + dt) - t0).toNat]).drop
          ((s.chan m).window.length - 15)
        PerMeter.get s.exch.config.maxFlow m < rateOf window (s.chan m).cf →
        ∃ t, exec (.pulserEdge dt m ph) s = .next t ∧ Lands dt (.store :: frame) s t ∧
          EntersFault s t m .overspeed (rateOf window (s.chan m).cf) ∧ (t.chan m).window = window ∧
          (∀ o, (s.chan m).attached.isSome = true →
            ((s.side m.side).state.delivers = true ∨ (s.side m.side).state = .suspended) →
            (s.side m.side).sale = some o → (t.side m.side).state = .ending) ∧
          ((s.chan m).attached = none → t.sides = s.sides))) ∧
    (∀ cause, (s.chan m).fault = some cause →
      ((NoiseRises s dt m ph ∧ (s.chan m).noise = 64) ∨ RunReachesEight s dt m ph ∨
          (CompletesReverse s dt m ph ∧ (s.chan m).back = 16) →
        ∃ t, exec (.pulserEdge dt m ph) s = .next t ∧ Lands dt [.pfe, .pins] s t ∧ (t.chan m).fault = some cause))

/-! ### Prices -/

/-- GRADES is refused outside CLOSED, for a composition or a map entry out of range, and for a mapped grade that a
bank does not price; accepted, it replaces the grade table and the nozzle maps whole and leaves the banks (R24, R25).
The model's choices: a grade record at fault is named before a map entry (notes/assumptions/42.md), and a result
detail of 0 where the rule names none (notes/assumptions/12.md). -/
def Obligations.GradesAreReplaced : Prop :=
  ∀ dt ref r s, CanTouch s Folio.grades →
    (s.mode.mode ≠ .closed → ∃ t, exec (.grades dt ref r) s = .next t ∧ Refused dt s t Folio.grades ref .mode 0) ∧
    (∀ d, s.mode.mode = .closed → gradesBadDetail r = some d → ∃ t, exec (.grades dt ref r) s = .next t ∧
      Refused dt s t Folio.grades ref .invalidGrade d) ∧
    (∀ g, s.mode.mode = .closed → gradesBadDetail r = none → s.unpricedUnder r = some g →
      ∃ t, exec (.grades dt ref r) s = .next t ∧
        Refused dt s t Folio.grades ref .invalidPrice (detailNum (g.val + 1))) ∧
    (s.mode.mode = .closed → gradesBadDetail r = none → s.unpricedUnder r = none →
      ∃ t, exec (.grades dt ref r) s = .next t ∧ Lands dt [.prices, .display, .store, .journal, .exch] s t ∧
        t.prices = { s.prices with grades := mapEach gradeOf r.grades, maps := gradesMaps r } ∧
        Answered s t Folio.grades ref .done (gradesClampDetail r))

/-- A staging is refused with INVALID_PRICE for a price too high or a mapped grade without a price, INVALID_CLOCK or
CLOCK_UNSET, and changes nothing; accepted for a later moment it becomes the STAGED bank, not due, and the ACTIVE
bank stands; accepted AT_ONCE or for the present moment it is due, and waits while a side's sale blocks the swap, or
is swapped in at once. With the swap due and no side's sale in a blocking state PRICE_SWAP makes the STAGED prices
ACTIVE, nothing staged or due any more; with a sale in one the swap waits (R27 to R32). The sides that wait to
capture, which the swap and a staging not due let ask again, are left out. The model's choice: a result detail of 0
where the rule names none (notes/assumptions/12.md). -/
def Obligations.StagingAndSwap : Prop :=
  (∀ dt ref r s, CanTouch s Folio.priceStaging →
    (∀ g, firstTooHigh r.prices = some g → ∃ t, exec (.priceStaging dt ref r) s = .next t ∧
      Refused dt s t Folio.priceStaging ref .invalidPrice (detailNum (g.val + 1))) ∧
    (∀ g, firstTooHigh r.prices = none → firstUnpriced s.prices.maps r.prices = some g →
      ∃ t, exec (.priceStaging dt ref r) s = .next t ∧
        Refused dt s t Folio.priceStaging ref .invalidPrice (detailNum (g.val + 1))) ∧
    (firstTooHigh r.prices = none → firstUnpriced s.prices.maps r.prices = none →
      let inRange := r.weekday ≤ 6 ∧ r.second ≤ 86399
      let moment : Clock := ⟨r.weekday, r.second⟩
      (1 < r.cond ∨ (r.cond = 1 ∧ ¬ inRange) → ∃ t, exec (.priceStaging dt ref r) s = .next t ∧
        Refused dt s t Folio.priceStaging ref .invalidClock 0) ∧
      (r.cond = 1 → inRange → s.mode.clockUnset = true →
        ∃ t, exec (.priceStaging dt ref r) s = .next t ∧ Refused dt s t Folio.priceStaging ref .clockUnset 0) ∧
      (r.cond = 1 → inRange → s.mode.clockUnset = false → s.mode.clock ≠ moment →
        (s.side .a).waiting = false → (s.side .b).waiting = false →
        ∃ t, exec (.priceStaging dt ref r) s = .next t ∧ Lands dt [.prices, .exch] s t ∧
          t.prices = { s.prices with
            staged := some ⟨r.prices, r.tag, .atTime r.weekday r.second⟩, swapDue := false } ∧
          Answered s t Folio.priceStaging ref .done 0 ∧
          t.exch.nextEvent = if s.prices.staged = none then s.exch.nextEvent else succ32 s.exch.nextEvent) ∧
      (∀ cond, (r.cond = 0 ∧ cond = .atOnce) ∨
          (r.cond = 1 ∧ inRange ∧ s.mode.clockUnset = false ∧ s.mode.clock = moment ∧
            cond = .atTime r.weekday r.second) →
        ((∃ sd, (s.side sd).state.blocksSwap = true) → ∃ t, exec (.priceStaging dt ref r) s = .next t ∧
          Lands dt [.prices, .exch] s t ∧
          t.prices = { s.prices with staged := some ⟨r.prices, r.tag, cond⟩, swapDue := true } ∧
          Answered s t Folio.priceStaging ref .done 0) ∧
        (s.dormant = false → (∀ sd, (s.side sd).state.blocksSwap = false) → (∀ sd, (s.side sd).waiting = false) →
          ∃ t, exec (.priceStaging dt ref r) s = .next t ∧ Lands dt [.prices, .display, .store, .journal, .exch] s t ∧
            t.prices = { s.prices with active := r.prices, staged := none, swapDue := false } ∧
            Answered s t Folio.priceStaging ref .done 0)))) ∧
  ∀ dt s,
    (∀ b, s.prices.swapDue = true → s.prices.staged = some b → s.dormant = false →
      (∀ sd, (s.side sd).state.blocksSwap = false) → (∀ sd, (s.side sd).waiting = false) →
      ∃ t, exec (.priceSwap dt) s = .next t ∧ Lands dt [.prices, .display, .store, .journal, .exch] s t ∧
        t.prices = { s.prices with active := b.prices, staged := none, swapDue := false } ∧
        t.exch.nextEvent = succ32 s.exch.nextEvent) ∧
    (∀ sd, (s.side sd).state.blocksSwap = true → exec (.priceSwap dt) s = .next (s.elapse dt))

/-! ### Sides -/

/-- Outside a sale a lift moves an IDLE side to CALLING while the mode is OPEN and changes only the nozzle input in
any other mode, and a hang that leaves no nozzle lifted returns a CALLING side to IDLE. A hang of the sale's nozzle,
the no-flow timer's expiry and the suspend timer's expiry send the sale to ENDING with their reason. At the stagger's
end a FLOWING side's MAIN valves open as blend control allows, and a SLOW valve that must close does so, from which in
ENDING the settle window counts (R45, R52, R53, R55, R56, R60, R65). The model's choice: the SLOW valves' closing
moment is kept apart from the stagger timer (notes/assumptions/20.md). -/
def Obligations.SidesFollowNozzlesAndTimers : Prop :=
  (∀ dt sd n s, s.dormant = false →
    ((s.side sd).state = .idle → s.mode.mode = .openMode →
      ∃ t, exec (.nozzleLift dt sd n) s = .next t ∧ Lands dt [.sides, .display, .journal, .exch, .pins] s t ∧
        (t.side sd).state = .calling ∧ (t.side sd).nozzles = (s.side sd).nozzles.set n.val true ∧
        (t.side sd).sale = (s.side sd).sale ∧ t.side sd.other = s.side sd.other) ∧
    ((s.side sd).state = .idle → s.mode.mode ≠ .openMode →
      ∃ t, exec (.nozzleLift dt sd n) s = .next t ∧ Lands dt [.sides, .pins] s t ∧
        t.side sd = { s.side sd with nozzles := (s.side sd).nozzles.set n.val true } ∧
        t.side sd.other = s.side sd.other) ∧
    ((s.side sd).state = .calling → ((s.side sd).nozzles.set n.val false).toList.any id = false →
      ∃ t, exec (.nozzleHang dt sd n) s = .next t ∧ Lands dt [.sides, .display, .journal, .exch, .pins] s t ∧
        (t.side sd).state = .idle ∧ (t.side sd).nozzles = (s.side sd).nozzles.set n.val false ∧
        (t.side sd).sale = (s.side sd).sale ∧ t.side sd.other = s.side sd.other)) ∧
  (∀ dt sd s o c, (s.side sd).sale = some o → o.cap = some c →
    (s.dormant = false →
      ((s.side sd).state = .flowing ∨ (s.side sd).state = .slow ∨ (s.side sd).state = .suspended) →
      ∃ t, exec (.nozzleHang dt sd c.nozzle) s = .next t ∧
        Lands dt [.sides, .display, .journal, .exch, .pins] s t ∧ EndsWith s t sd .nozzle) ∧
    (∀ d, (s.side sd).state.delivers = true → (s.side sd).noflowT = some d → d ≤ s.now + dt →
      ∃ t, exec (.noflowTimeout dt sd) s = .next t ∧ Lands dt [.sides, .display, .journal, .exch] s t ∧
        EndsWith s t sd .noFlow) ∧
    (∀ d, (s.side sd).state = .suspended → (s.side sd).suspendT = some d → d ≤ s.now + dt →
      ∃ t, exec (.suspendTimeout dt sd) s = .next t ∧ Lands dt [.sides, .display, .journal, .exch] s t ∧
        EndsWith s t sd .suspendTimeout)) ∧
  ∀ dt sd s,
    (∀ o c d, (s.side sd).state = .flowing → (s.side sd).sale = some o → o.cap = some c →
      (s.side sd).staggerT = some d → d ≤ s.now + dt →
      ∃ t, exec (.valveStagger dt sd) s = .next t ∧ Lands dt [.sides] s t ∧
        t.side sd = { s.side sd with
          staggerT := none
          valves := valvesFor (s.prices.grades.get c.grade).comp
            (mainAllowed (s.prices.grades.get c.grade).comp (s.side sd).throttle) } ∧
        t.side sd.other = s.side sd.other) ∧
    (∀ d, (s.side sd).slowClose = some d → d ≤ s.now + dt →
      ∃ t, exec (.slowValveClose dt sd) s = .next t ∧ Lands dt [.sides] s t ∧
        t.side sd = { s.side sd with
          slowClose := none
          valves := closeSlows (s.side sd).valves
          settleT := if (s.side sd).state = .ending then some (s.now + dt + seconds s.exch.config.settleTime)
            else (s.side sd).settleT } ∧
        t.side sd.other = s.side sd.other)

/-- AUTHORIZE: the first check that fails gives the refusal and the side stands; with none failing and no nozzle
lifted, the side enters AUTHORIZED with a new record and its auth timer running, and the sale-number counter advances
(R46 to R49, R133). The form with a nozzle lifted, which tests readiness at once, is SidesCapture's. The model's
choice: a result detail of 0 where the rule names none (notes/assumptions/12.md). -/
def Obligations.AuthorizeIsDecided : Prop :=
  ∀ dt sd ref r s, CanTouch s (Folio.order sd) →
    (∀ e, authorizeCheck s sd r = some e → ∃ t, exec (.authorize dt sd ref r) s = .next t ∧
      Refused dt s t (Folio.order sd) ref e 0) ∧
    (∀ o k, authorizeCheck s sd r = none → r.origin = some o → r.limit.kind = some k →
      (s.side sd).nozzles.toList.any id = false →
      ∃ t q, exec (.authorize dt sd ref r) s = .next t ∧ Lands dt [.sides, .display, .store, .journal, .exch] s t ∧
        (t.side sd).state = .authorized ∧ (t.side sd).sale = some ⟨q, r.mask.setWidth 6, none⟩ ∧
        q.number = s.store.counter ∧ q.side = sd ∧ q.origin = o ∧ q.hostRef = ref ∧ q.limitKind = k ∧
        q.amount = limitAmount k r.limit.amount ∧ q.rounding = s.exch.config.rounding ∧ q.volume = 0 ∧ q.money = 0 ∧
        q.startClock = s.mode.clock ∧ q.test = decide (o = .test) ∧ q.clamped = limitClamps k r.limit.amount ∧
        q.nozzle = none ∧ q.grade = none ∧ q.target = none ∧ q.price = none ∧
        (t.side sd).authT = some (s.now + dt + seconds s.exch.config.authTimeout) ∧
        t.store = { s.store with counter := succ32 s.store.counter } ∧ t.side sd.other = s.side sd.other ∧
        Answered s t (Folio.order sd) ref .done (if limitClamps k r.limit.amount then clampedBit else 0))

/-- A lift in AUTHORIZED that leaves one nozzle lifted, and an AUTHORIZE with one lifted, test the side's readiness
and capture: the record and the comparator pair take the nozzle, grade, price, rule, target and slow point, the side
enters STARTING, the meters are attached with nothing counted, the side is a user of its motors and the zero check is
asked for. On a lift with a swap due the side waits, and with no price, or not ready, it asks for another nozzle
(R33, R34, R40, R50, R51). Left out: a display in FAULT, whose capture completes the sale at once; the PRIME stage,
which a motor that runs already could end; and the other side in STARTING, which a motor's start could move on. The
model's choice: a result detail of 0 where the rule names none (notes/assumptions/12.md). -/
def Obligations.SidesCapture : Prop :=
  ∀ dt sd (n : Fin 4) g (s : State), (s.disp sd).state ≠ .fault → s.mode.stage ≠ some .prime →
    (s.side sd.other).state ≠ .starting →
    (∀ o, s.dormant = false → (s.side sd).state = .authorized → (s.side sd).sale = some o → o.cap = none →
      (s.side sd).nozzles.set n.val true = onlyUp n →
      (ReadyFor s sd o.mask n g → s.prices.swapDue = false → s.prices.active.get g ≠ 0 →
        ∃ t, exec (.nozzleLift dt sd n) s = .next t ∧
          Lands dt [.pfe, .sides, .motors, .display, .journal, .exch, .pins] s t ∧
          Captures s t sd o.record o.mask n g) ∧
      (ReadyFor s sd o.mask n g → s.prices.swapDue = true → ∃ t, exec (.nozzleLift dt sd n) s = .next t ∧
        Lands dt [.sides, .display, .exch, .pins] s t ∧ t.side sd.other = s.side sd.other ∧
        t.side sd = { s.side sd with
          nozzles := onlyUp n, authT := none, waiting := true, nozzleLamp := false, noPumpTest := false }) ∧
      (ReadyFor s sd o.mask n g → s.prices.swapDue = false → s.prices.active.get g = 0 →
        ∃ t, exec (.nozzleLift dt sd n) s = .next t ∧ Lands dt [.sides, .display, .exch, .pins] s t ∧
          t.side sd.other = s.side sd.other ∧ t.side sd = { s.side sd with
            nozzles := onlyUp n, authT := none, waiting := false, nozzleLamp := true, noPumpTest := false }) ∧
      ((∀ g, ¬ ReadyFor s sd o.mask n g) → ∃ t b, exec (.nozzleLift dt sd n) s = .next t ∧
        Lands dt [.sides, .display, .exch, .pins] s t ∧ t.side sd.other = s.side sd.other ∧
        t.side sd = { s.side sd with
          nozzles := onlyUp n, authT := none, waiting := false, nozzleLamp := true, noPumpTest := b })) ∧
    (∀ ref r o k, CanTouch s (Folio.order sd) → authorizeCheck s sd r = none → r.origin = some o →
      r.limit.kind = some k → (s.side sd).nozzles = onlyUp n → ReadyFor s sd (r.mask.setWidth 6) n g →
      s.prices.swapDue = false → s.prices.active.get g ≠ 0 →
      ∃ t q, exec (.authorize dt sd ref r) s = .next t ∧
        Lands dt [.pfe, .sides, .motors, .display, .store, .journal, .exch] s t ∧
        q.number = s.store.counter ∧ q.side = sd ∧ q.origin = o ∧ q.hostRef = ref ∧ q.limitKind = k ∧
        q.amount = limitAmount k r.limit.amount ∧ q.volume = 0 ∧ q.money = 0 ∧ q.startClock = s.mode.clock ∧
        q.test = decide (o = .test) ∧ Captures s t sd q (r.mask.setWidth 6) n g ∧
        t.store = { s.store with counter := succ32 s.store.counter } ∧
        Answered s t (Folio.order sd) ref .done (if limitClamps k r.limit.amount then clampedBit else 0))

/-- CHANGE_LIMIT is refused by the side's state and for an invalid limit; on a captured sale the new pair replaces the
old in one step: the volume at or past the new target ends the sale, FLOWING past the new slow point becomes SLOW,
SLOW below it flows again, and otherwise the side's state stands. On a sale in AUTHORIZED that does not wait the limit
is replaced (R62, R63). The model's choices: a result detail of 0 where the rule names none (notes/assumptions/12.md),
and a CLAMPED flag once set stays on the record (notes/assumptions/50.md). -/
def Obligations.ChangeLimitIsDecided : Prop :=
  ∀ dt sd ref r s, CanTouch s (Folio.order sd) →
    ((s.side sd).state = .idle ∨ (s.side sd).state = .calling →
      ∃ t, exec (.changeLimit dt sd ref r) s = .next t ∧ Refused dt s t (Folio.order sd) ref .wrongState 0) ∧
    ((s.side sd).state = .ending ∨ (s.side sd).state = .ended →
      ∃ t, exec (.changeLimit dt sd ref r) s = .next t ∧ Refused dt s t (Folio.order sd) ref .tooLate 0) ∧
    ((s.side sd).state.holdsSale = true → (s.side sd).state ≠ .ending →
      (r.kind = none ∨ (r.kind ≠ some .unlimited ∧ r.amount = 0)) →
      ∃ t, exec (.changeLimit dt sd ref r) s = .next t ∧ Refused dt s t (Folio.order sd) ref .invalidLimit 0) ∧
    (∀ o k, (s.side sd).sale = some o → r.kind = some k → (k = .unlimited ∨ 0 < r.amount) →
      let n := limitAmount k r.amount
      let record := { o.record with
        limitKind := k, amount := n, clamped := o.record.clamped || limitClamps k r.amount }
      let detail := if limitClamps k r.amount then clampedBit else 0#32
      ((s.side sd).state = .authorized → (s.side sd).waiting = false → o.cap = none →
        ∃ t, exec (.changeLimit dt sd ref r) s = .next t ∧ Lands dt [.sides, .exch] s t ∧
          t.side sd = { s.side sd with sale := some { o with record := record } } ∧
          t.side sd.other = s.side sd.other ∧ Answered s t (Folio.order sd) ref .done detail) ∧
      ∀ c, o.cap = some c → (s.side sd).state.holdsSale = true → (s.side sd).state ≠ .authorized →
        (s.side sd).state ≠ .ending →
        let target := targetOf k n o.record.rounding c.price
        let slow := slowPoint target c.margin
        let ceiling := ceilingSets k n o.record.rounding c.price
        let sale : Sale := { o with
          record := { record with target := some target }
          cap := some { c with target := target, slow := slow, ceiling := ceiling } }
        (target ≤ o.record.volume → ∃ t, exec (.changeLimit dt sd ref r) s = .next t ∧
          Lands dt [.sides, .display, .journal, .exch] s t ∧ (t.side sd).state = .ending ∧
          (t.side sd).sale.bind (·.record.reason) = some (if ceiling then .ceiling else .limit) ∧
          t.side sd.other = s.side sd.other ∧ Answered s t (Folio.order sd) ref .done detail) ∧
        (o.record.volume < target → (s.side sd).state = .flowing → slow ≤ o.record.volume →
          ∃ t, exec (.changeLimit dt sd ref r) s = .next t ∧ Lands dt [.sides, .display, .journal, .exch] s t ∧
            (t.side sd).state = .slow ∧ (t.side sd).sale = some sale ∧
            (∀ p, ((t.side sd).valves.get p).main = false) ∧ t.side sd.other = s.side sd.other ∧
            Answered s t (Folio.order sd) ref .done detail) ∧
        (o.record.volume < target → (s.side sd).state = .slow → o.record.volume < slow →
          ∃ t, exec (.changeLimit dt sd ref r) s = .next t ∧ Lands dt [.sides, .display, .journal, .exch] s t ∧
            (t.side sd).state = .flowing ∧ (t.side sd).sale = some sale ∧
            (t.side sd).valves = valvesFor (s.prices.grades.get c.grade).comp
              (mainAllowed (s.prices.grades.get c.grade).comp (s.side sd).throttle) ∧
            t.side sd.other = s.side sd.other ∧ Answered s t (Folio.order sd) ref .done detail) ∧
        (o.record.volume < target →
          ((s.side sd).state = .flowing → o.record.volume < slow) →
          ((s.side sd).state = .slow → slow ≤ o.record.volume) →
          ∃ t, exec (.changeLimit dt sd ref r) s = .next t ∧ Lands dt [.sides, .exch] s t ∧
            t.side sd = { s.side sd with sale := some sale } ∧ t.side sd.other = s.side sd.other ∧
            Answered s t (Folio.order sd) ref .done detail))

/-- STOP suspends a side that is FLOWING or SLOW, and RESUME lets a SUSPENDED one flow again below its slow point, or
slowly at or past it; each is refused in other states. END is refused by the side's state, sends the captured sale to
ENDING with reason ORDERED, and completes a sale in AUTHORIZED with CANCELLED: its record, otherwise as it stood,
joins the side's pending records (R59, R61, R64, R68). The model's choice: a result detail of 0 where the rule names
none (notes/assumptions/12.md). -/
def Obligations.StopResumeAndEnd : Prop :=
  (∀ dt sd ref s, CanTouch s (Folio.order sd) →
    ((s.side sd).state.delivers = false → ∃ t, exec (.stop dt sd ref) s = .next t ∧
      Refused dt s t (Folio.order sd) ref .wrongState 0) ∧
    ((s.side sd).state.delivers = true → ∃ t, exec (.stop dt sd ref) s = .next t ∧
      Lands dt [.sides, .display, .journal, .exch] s t ∧ (t.side sd).state = .suspended ∧
      (t.side sd).sale = (s.side sd).sale ∧ (∀ p, ((t.side sd).valves.get p).main = false) ∧
      (t.side sd).noflowT = none ∧ (t.side sd).staggerT = none ∧
      (t.side sd).suspendT = some (s.now + dt + seconds s.exch.config.suspendTimeout) ∧
      t.side sd.other = s.side sd.other ∧ Answered s t (Folio.order sd) ref .done 0) ∧
    ((s.side sd).state ≠ .suspended → ∃ t, exec (.resume dt sd ref) s = .next t ∧
      Refused dt s t (Folio.order sd) ref .wrongState 0) ∧
    ((s.side sd).state = .suspended → (s.disp sd).state = .fault →
      ∃ t, exec (.resume dt sd ref) s = .next t ∧ Refused dt s t (Folio.order sd) ref .displayFault 0) ∧
    (∀ o c, (s.side sd).state = .suspended → (s.disp sd).state ≠ .fault → (s.side sd).sale = some o →
      o.cap = some c → ∃ t, exec (.resume dt sd ref) s = .next t ∧
        Lands dt [.sides, .display, .journal, .exch] s t ∧
        (t.side sd).state = (if o.record.volume < c.slow then .flowing else .slow) ∧
        (t.side sd).sale = some o ∧
        (∀ p, ((t.side sd).valves.get p).slow = (s.prices.grades.get c.grade).comp.uses p) ∧
        (t.side sd).suspendT = none ∧
        (t.side sd).noflowT = some (s.now + dt + seconds s.exch.config.noflowTimeout) ∧
        t.side sd.other = s.side sd.other ∧ Answered s t (Folio.order sd) ref .done 0)) ∧
  ∀ dt sd ref s, CanTouch s (Folio.order sd) →
    ((s.side sd).state = .idle ∨ (s.side sd).state = .calling → ∃ t, exec (.endSale dt sd ref) s = .next t ∧
      Refused dt s t (Folio.order sd) ref .wrongState 0) ∧
    ((s.side sd).state = .ending ∨ (s.side sd).state = .ended → ∃ t, exec (.endSale dt sd ref) s = .next t ∧
      Refused dt s t (Folio.order sd) ref .tooLate 0) ∧
    (∀ o, (s.side sd).state = .starting ∨ (s.side sd).state.delivers = true ∨ (s.side sd).state = .suspended →
      (s.side sd).sale = some o → ∃ t, exec (.endSale dt sd ref) s = .next t ∧
        Lands dt [.sides, .display, .journal, .exch] s t ∧ EndsWith s t sd .ordered ∧
        Answered s t (Folio.order sd) ref .done 0) ∧
    (∀ o, (s.side sd).state = .authorized → (s.side sd).sale = some o → o.cap = none → o.record.side = sd →
      s.mode.stage = none → ∃ t r, exec (.endSale dt sd ref) s = .next t ∧ t.now = s.now + dt ∧
        r = { o.record with reason := some .cancelled, endClock := some s.mode.clock } ∧
        (t.records sd).pending.map (·.record) = (s.records sd).pending.map (·.record) ++ [r] ∧
        (t.side sd).sale = none ∧ (t.side sd).state =
          (if (s.side sd).nozzles.toList.any id ∧ s.mode.mode = .openMode then .calling else .idle) ∧
        t.prices = s.prices ∧ t.pins = s.pins ∧ Answered s t (Folio.order sd) ref .done 0)

/-- A counted cycle brings its sale's volume, money and figures up to date. At the target a sale that flows, is slow
or is suspended goes to ENDING with LIMIT or CEILING, and from the slow point a FLOWING one goes to SLOW, its MAIN
valves closed; the no-flow timer restarts in FLOWING and SLOW. A true blend that flows on from 100 cl sets its throttle
and, outside the stagger, its MAIN valves by the high share, and from 500 cl the run outside the wider bounds ends the
sale with BLEND_FAULT after 200 cl; in STARTING and ENDING the figures alone follow (R36 to R38, R53 to R55, R57, R58,
R65). A cycle that is an OVERSPEED fault is MetersFault's. The model's choice: the difference of two times is taken
modulo 2^32 (notes/assumptions/31.md). -/
def Obligations.CountedCyclesMoveTheSale : Prop :=
  ∀ dt m ph s o c a, CompletesForward s dt m ph → (s.chan m).back = 0 → KeepsSpeed s dt m →
    (s.chan m).attached = some a → (s.side m.side).sale = some o → o.cap = some c →
    let sd := m.side
    let x := s.side sd
    let fines :=
      (s.setChan m { s.chan m with attached := some ⟨a.sale, satAdd64 a.fine (s.chan m).cf⟩ }).fines sd
    let fine := fineSum fines
    let v := min 999999 (fine / 10240)
    let raw := moneyRaw o.record.rounding c.price v
    let r := { o.record with
      volume := v, money := min 999999 raw
      saturated := o.record.saturated || decide (10240000000 ≤ fine) || decide (999999 < raw)
      excess := if 10240000000 ≤ fine then some (fine - 10239989760) else none }
    let counted : SideCtl := { x with
      sale := some { o with record := r }, last := ⟨c.price, v, min 999999 raw, o.record.number⟩ }
    let flows : SideCtl := { counted with noflowT := some (s.now + dt + seconds s.exch.config.noflowTimeout) }
    let ends := fun (t : State) (reason : EndReason) =>
      (t.side sd).state = .ending ∧ (t.side sd).last = counted.last ∧
        (t.side sd).sale = some { o with record := { r with reason := some reason } } ∧
        (∀ p, ((t.side sd).valves.get p).main = false) ∧ (t.side sd).noflowT = none ∧ (t.side sd).suspendT = none ∧
        (t.side sd).staggerT = none
    let comp := (s.prices.grades.get c.grade).comp
    ∃ t, exec (.pulserEdge dt m ph) s = .next t ∧
      Lands dt [.pfe, .sides, .display, .store, .journal, .exch, .pins] s t ∧ t.side sd.other = s.side sd.other ∧
      ((s.disp sd).state = .lit → (t.disp sd).figures = true) ∧
      (x.state.delivers = true ∨ x.state = .suspended → c.target ≤ v →
        ends t (if c.ceiling then .ceiling else .limit)) ∧
      (x.state = .flowing → v < c.target → c.slow ≤ v → t.side sd = { flows with
        state := .slow, valves := closeMains x.valves, staggerT := none, throttle := .none, devRun := none }) ∧
      (x.state = .slow → v < c.target → t.side sd = flows) ∧
      (x.state = .suspended → v < c.target → t.side sd = counted) ∧
      (x.state = .starting ∨ x.state = .ending → t.side sd = counted) ∧
      (x.state = .flowing → v < c.target → v < c.slow → (comp.trueBlend = false ∨ v < 100) → t.side sd = flows) ∧
      ∀ h, x.state = .flowing → v < c.target → v < c.slow → comp = .blend h → 0 < h → h < 100 → 100 ≤ v →
        let share := highShare (fineOf fines .low) (fineOf fines .high)
        let throttle : Throttle :=
          if 10 * h + c.band < share then .high else if share + c.band < 10 * h then .low else .none
        let blended : SideCtl := { flows with
          throttle := throttle
          valves := if x.staggerT ≠ none ∨ throttle = x.throttle then x.valves
            else valvesFor comp (mainAllowed comp throttle) }
        let outside := 10 * h + 3 * c.band < share ∨ share + 3 * c.band < 10 * h
        (v < 500 → t.side sd = blended) ∧
        (500 ≤ v → ¬ outside → t.side sd = { blended with devRun := none }) ∧
        (500 ≤ v → outside → x.devRun = none → t.side sd = { blended with devRun := some v }) ∧
        ∀ v0, 500 ≤ v → outside → x.devRun = some v0 →
          (v < v0 + 200 → t.side sd = { blended with devRun := some v0 }) ∧ (v0 + 200 ≤ v → ends t .blendFault)

/-- The auth timer's expiry completes the uncaptured sale with reason EXPIRED: its record, otherwise as it stood,
joins the side's pending records, and the side enters IDLE, or CALLING if a nozzle is lifted and the mode is OPEN.
The settle timer's expiry completes the captured sale: the handed accumulators give the final volume and money, the
meters are detached, and the record is held with the reason fixed at its entry to ENDING. A sale that has not captured
adds nothing to the totals; a captured one adds its volume, money and one sale to its grade's, disarming the watches
these reach, or, with origin TEST, its fine volumes to the test totals alone (R11, R36, R38, R49, R66 to R68, R134, R139,
R140, R142). -/
def Obligations.TimersCompleteTheSale : Prop :=
  (∀ dt sd s o d, (s.side sd).state = .authorized → (s.side sd).sale = some o → o.cap = none →
    o.record.side = sd → (s.side sd).authT = some d → d ≤ s.now + dt → s.mode.stage = none →
    ∃ t r, exec (.authTimeout dt sd) s = .next t ∧ t.now = s.now + dt ∧
      r = { o.record with reason := some .expired, endClock := some s.mode.clock } ∧
      (t.records sd).pending.map (·.record) = (s.records sd).pending.map (·.record) ++ [r] ∧
      (t.records sd).unreported = (s.records sd).unreported ∧ (t.records sd).inFolio = (s.records sd).inFolio ∧
      (t.side sd).sale = none ∧ (t.side sd).authT = none ∧
      (o.record.grade = none → o.record.fines = [] → t.store.totals = s.store.totals) ∧
      (t.side sd).state =
        (if (s.side sd).nozzles.toList.any id ∧ s.mode.mode = .openMode then .calling else .idle) ∧
      (t.records sd.other).unreported = (s.records sd.other).unreported ∧ t.prices = s.prices ∧ t.pins = s.pins) ∧
  ∀ dt sd s o c d, (s.side sd).state = .ending → (s.side sd).sale = some o → o.cap = some c → o.record.side = sd →
    (s.side sd).settleT = some d → d ≤ s.now + dt → s.prices.swapDue = false → (s.side sd.other).state ≠ .starting →
    ∃ t r, exec (.settleTime dt sd) s = .next t ∧ t.now = s.now + dt ∧
      (t.records sd).pending.map (·.record) = (s.records sd).pending.map (·.record) ++ [r] ∧
      r.number = o.record.number ∧ r.reason = o.record.reason ∧ r.fines = s.fines sd ∧
      r.volume = min 999999 (fineSum (s.fines sd) / 10240) ∧
      r.money = min 999999 (moneyRaw o.record.rounding c.price r.volume) ∧
      r.overrun = (if c.target < r.volume then some (r.volume - c.target) else none) ∧
      r.endClock = some s.mode.clock ∧ (t.side sd).sale = none ∧
      (∀ p, (t.chan ⟨sd, p⟩).attached = none) ∧ (∀ p, (t.side sd).valves.get p = ⟨false, false⟩) ∧
      ((s.side sd).nozzles.get c.nozzle = true → (t.side sd).state = .ended) ∧
      (∀ g, o.record.test = false → o.record.grade = some g →
        let volume := satAdd64 (s.store.totals.volume.get g) r.volume
        let money := satAdd64 (s.store.totals.money.get g) r.money
        t.store.totals = { s.store.totals with
          volume := s.store.totals.volume.set g.val volume
          money := s.store.totals.money.set g.val money
          count := s.store.totals.count.set g.val (satAdd64 (s.store.totals.count.get g) 1) } ∧
        ∀ i : Fin 4,
          let w := s.store.watches.get i
          let reached := w.fires (.volume g) (s.store.totals.volume.get g) volume ∨
            w.fires (.money g) (s.store.totals.money.get g) money
          (reached → t.store.watches.get i = { w with armed := false }) ∧
            (¬ reached → t.store.watches.get i = w)) ∧
      (o.record.test = true → t.store.totals = { s.store.totals with test := t.store.totals.test } ∧
        t.store.watches = s.store.watches ∧
        ∀ m, PerMeter.get t.store.totals.test m = match (s.chan m).attached with
          | some a => if m.side = sd then satAdd64 (PerMeter.get s.store.totals.test m) a.fine
              else PerMeter.get s.store.totals.test m
          | none => PerMeter.get s.store.totals.test m)

/-! ### Motors -/

/-- The start slot goes to the head of the FIFO when no motor is STARTING, MOTOR_GAP and the head's RESTART_GAP have
passed: the motor closes its contactor and enters STARTING, and with pressure-ok present already it is confirmed at
once and runs, or without users runs down, or stops with IDLE_RUN 0; otherwise nothing but time changes (R80, R82,
R83). Left out: the PRIME stage, which a start confirmed at once may end, and a side that has all its STARTING waits
for and has not left it. -/
def Obligations.StartSlotIsGranted : Prop :=
  ∀ dt c s, c ∈ [Instr.startSlotGrant dt, .motorGap dt, .restartGap dt] → NoneLeavesStarting s →
    (∀ p rest, s.motors.fifo = p :: rest → (∀ q, (s.motor q).state ≠ .starting) →
      (∀ g, s.motors.lastGrant = some g → g.2 ≤ s.now + dt) → (s.motor p).restUntil ≤ s.now + dt →
      s.pins.pressureOk.get p = false →
      ∃ t, exec c s = .next t ∧ Lands dt [.motors, .exch] s t ∧
        t.motors = { motor := s.motors.motor.set p { s.motor p with
                       state := .starting, contactor := true
                       pressureT := some (s.now + dt + seconds s.exch.config.pressureTimeout) }
                     fifo := rest
                     lastGrant := some (s.now + dt, s.now + dt + seconds s.exch.config.motorGap) }) ∧
    (∀ p rest, s.motors.fifo = p :: rest → (∀ q, (s.motor q).state ≠ .starting) →
      (∀ g, s.motors.lastGrant = some g → g.2 ≤ s.now + dt) → (s.motor p).restUntil ≤ s.now + dt →
      s.pins.pressureOk.get p = true →
      ∃ t, exec c s = .next t ∧ Lands dt [.sides, .motors, .display, .journal, .exch] s t ∧
        (∀ q, q ≠ p → t.motor q = s.motor q) ∧ t.motors.fifo = rest ∧
        t.motors.lastGrant = some (s.now + dt, s.now + dt + seconds s.exch.config.motorGap) ∧
        ((s.motor p).users.any = true →
          t.motor p = { s.motor p with state := .running, contactor := true, pressureT := none }) ∧
        ((s.motor p).users.any = false → t.sides = s.sides ∧
          (s.exch.config.idleRun ≠ 0 → t.motor p = { s.motor p with
            state := .rundown, contactor := true, pressureT := none
            rundownT := some (s.now + dt + seconds s.exch.config.idleRun) }) ∧
          (s.exch.config.idleRun = 0 → (t.motor p).state = .stopped ∧ StoppedNow s t p))) ∧
    (s.motors.fifo = [] ∨ (∃ q, (s.motor q).state = .starting) ∨
      (∃ g, s.motors.lastGrant = some g ∧ s.now + dt < g.2) ∨
      (∃ p, s.motors.fifo.head? = some p ∧ s.now + dt < (s.motor p).restUntil) → exec c s = .next (s.elapse dt))

/-- Pressure confirms a start: a STARTING motor with users runs, and one without runs down, or stops at once with
IDLE_RUN 0. In RUNNING and RUNDOWN its loss starts the 2 s loss timer and its return stops it; in the other states,
and for a loss in STARTING, only the input changes (R82 to R84). The model's choice: an input reported absent that is
absent already starts the loss timer again (notes/assumptions/34.md). -/
def Obligations.PressureIsWatched : Prop :=
  ∀ dt p s,
    ((s.motor p).state = .starting → (s.motor p).users.any = true → p ∉ s.motors.fifo → s.mode.stage ≠ some .prime →
      ∃ t, exec (.pressureOkPresent dt p) s = .next t ∧
        Lands dt [.sides, .motors, .display, .journal, .exch, .pins] s t ∧
        t.motor p = { s.motor p with state := .running, pressureT := none } ∧
        t.pins = { s.pins with pressureOk := s.pins.pressureOk.set p true }) ∧
    ((s.motor p).state = .starting → (s.motor p).users.any = false → s.motors.fifo = [] → NoneLeavesStarting s →
      ∃ t, exec (.pressureOkPresent dt p) s = .next t ∧ Lands dt [.motors, .exch, .pins] s t ∧
        (∀ q, q ≠ p → t.motor q = s.motor q) ∧
        (s.exch.config.idleRun ≠ 0 → t.motor p = { s.motor p with
          state := .rundown, pressureT := none
          rundownT := some (s.now + dt + seconds s.exch.config.idleRun) }) ∧
        (s.exch.config.idleRun = 0 → (t.motor p).state = .stopped ∧ StoppedNow s t p)) ∧
    ((s.motor p).state.confirmed = true →
      exec (.pressureOkPresent dt p) s =
        .next (((s.elapse dt).pinPressure p true).setMotor p { s.motor p with lossT := none }) ∧
      exec (.pressureOkAbsent dt p) s =
        .next (((s.elapse dt).pinPressure p false).setMotor p
          { s.motor p with lossT := some (s.now + dt + seconds 2) })) ∧
    ((s.motor p).state.turning = false →
      exec (.pressureOkPresent dt p) s = .next ((s.elapse dt).pinPressure p true)) ∧
    ((s.motor p).state.confirmed = false →
      exec (.pressureOkAbsent dt p) s = .next ((s.elapse dt).pinPressure p false))

/-- A motor fails when its pressure timer expires in STARTING or its loss timer in RUNNING or RUNDOWN: the contactor
opens, the time of last stop is now, the fail hold runs, the user set is kept, and MOTOR_FAILED is raised. A sale that
needs the product goes from FLOWING, SLOW or SUSPENDED to ENDING with NO_PUMP, and from STARTING completes with it,
the side no longer a user and its message NO PUMP asked for unless it enters IDLE; a side in AUTHORIZED that only this
product keeps from capture lights NOZZLE and asks for NO PUMP. A motor that has run down for IDLE_RUN opens its contactor and stops, with
no event (R50, R68, R69, R82 to R85, R89). A non-empty FIFO, whose head the arbiter may then start, is left out. -/
def Obligations.MotorsFailAndStop : Prop :=
  ∀ dt p s d, d ≤ s.now + dt →
    (NoneBeforeFlow s → s.motors.fifo = [] → (s.motor p).state = .starting → (s.motor p).pressureT = some d →
      ∃ t, exec (.pressureTimeout dt p) s = .next t ∧ Lands dt [.sides, .motors, .display, .journal, .exch] s t ∧
        (t.motor p).state = .failed ∧ StoppedNow s t p ∧
        (t.motor p).failHoldT = some (t.now + seconds s.exch.config.failHold) ∧ (∀ sd, FailureIsTold s t sd p) ∧
        (∀ q, q ≠ p → t.motor q = s.motor q) ∧ t.exch.nextEvent = succ32 s.exch.nextEvent) ∧
    (NoneBeforeFlow s → s.motors.fifo = [] → (s.motor p).state.confirmed = true → (s.motor p).lossT = some d →
      ∃ t, exec (.pressureLost dt p) s = .next t ∧ Lands dt [.sides, .motors, .display, .journal, .exch] s t ∧
        (t.motor p).state = .failed ∧ StoppedNow s t p ∧
        (t.motor p).failHoldT = some (t.now + seconds s.exch.config.failHold) ∧ (∀ sd, FailureIsTold s t sd p) ∧
        (∀ q, q ≠ p → t.motor q = s.motor q) ∧ t.exch.nextEvent = succ32 s.exch.nextEvent) ∧
    (∀ c sd, FailsNow c s dt p → s.motors.fifo = [] → (s.side sd.other).state ≠ .authorized →
      (s.side sd.other).state ≠ .starting → s.mode.stage = none →
      (∀ o, (s.side sd).state = .starting → SaleNeeds s sd p → (s.side sd).sale = some o → o.record.side = sd →
        s.prices.swapDue = false → ∃ t r, exec c s = .next t ∧ t.now = s.now + dt ∧
          (t.motor p).state = .failed ∧ (t.motor p).contactor = false ∧ (t.motor p).lastStop = t.now ∧
          (t.motor p).failHoldT = some (t.now + seconds s.exch.config.failHold) ∧
          (t.motor p).users = (s.motor p).users.remove (.side sd) ∧ (t.side sd).sale = none ∧
          ((t.side sd).state ≠ .idle → (t.side sd).noPumpEnd = true) ∧
          (t.records sd).pending.map (·.record) = (s.records sd).pending.map (·.record) ++ [r] ∧
          r.number = o.record.number ∧ r.reason = some .noPump ∧ FailureIsTold s t sd.other p) ∧
      (∀ o n g, (s.side sd).state = .authorized → (s.side sd).sale = some o → (s.side sd).nozzles = onlyUp n →
        (s.prices.maps.get sd).get n = some g → o.mask.getLsbD g.val = true →
        (s.prices.grades.get g).comp.uses p = true →
        (∀ q, (s.prices.grades.get g).comp.uses q = true → (s.chan ⟨sd, q⟩).fault = none) →
        ∃ t, exec c s = .next t ∧ Lands dt [.sides, .motors, .display, .journal, .exch] s t ∧
          (t.motor p).state = .failed ∧ StoppedNow s t p ∧
          t.side sd = { s.side sd with waiting := false, nozzleLamp := true, noPumpTest := true } ∧
          FailureIsTold s t sd.other p)) ∧
    ((s.motor p).state = .rundown → (s.motor p).rundownT = some d →
      ∃ t, exec (.idleRun dt p) s = .next t ∧ Lands dt [.motors, .exch] s t ∧ (t.motor p).state = .stopped ∧
        StoppedNow s t p ∧ (∀ q, q ≠ p → t.motor q = s.motor q) ∧ t.motors.fifo = s.motors.fifo ∧
        t.motors.lastGrant = s.motors.lastGrant ∧ t.exch.nextEvent = s.exch.nextEvent)

/-- A FAILED motor leaves FAILED when its fail hold expires or by MOTOR_RETRY: it stops, or waits at the tail of the
FIFO if it has users; MOTOR_RETRY refuses any other product number or state (R86). Left out: users whose motor the
arbiter can start at once, a side in AUTHORIZED, which tests its readiness and may capture, a side in STARTING, and the
PRIME stage. The model's choice: a result detail of 0 where the rule names none
(notes/assumptions/12.md). -/
def Obligations.FailedMotorsRecover : Prop :=
  ∀ dt ref n s,
    (CanTouch s Folio.siteOrder → Product.ofNumber n = none → ∃ t, exec (.motorRetry dt ref n) s = .next t ∧
      Refused dt s t Folio.siteOrder ref .invalidProduct 0) ∧
    (∀ p, CanTouch s Folio.siteOrder → Product.ofNumber n = some p → (s.motor p).state ≠ .failed →
      ∃ t, exec (.motorRetry dt ref n) s = .next t ∧ Refused dt s t Folio.siteOrder ref .wrongState 0) ∧
    (∀ p, (s.motor p).state = .failed → (s.motor p).users.any = false → NoneBeforeFlow s →
      let m := { s.motor p with state := .stopped, failHoldT := none }
      (∀ d, (s.motor p).failHoldT = some d → d ≤ s.now + dt → ∃ t, exec (.failHold dt p) s = .next t ∧
        Lands dt [.motors, .exch] s t ∧ t.motors = { s.motors with motor := s.motors.motor.set p m }) ∧
      (CanTouch s Folio.siteOrder → Product.ofNumber n = some p → ∃ t, exec (.motorRetry dt ref n) s = .next t ∧
        Lands dt [.motors, .exch] s t ∧ t.motors = { s.motors with motor := s.motors.motor.set p m } ∧
        Answered s t Folio.siteOrder ref .done 0)) ∧
    (∀ p, (s.motor p).state = .failed → (s.motor p).users.any = true → NoneBeforeFlow s →
      (∃ q, (s.motor q).state = .starting) → p ∉ s.motors.fifo →
      let waiting := { s.motors with
        motor := s.motors.motor.set p { s.motor p with state := .waiting, failHoldT := none }
        fifo := s.motors.fifo ++ [p] }
      (∀ d, (s.motor p).failHoldT = some d → d ≤ s.now + dt → ∃ t, exec (.failHold dt p) s = .next t ∧
        Lands dt [.motors, .exch] s t ∧ t.motors = waiting) ∧
      (CanTouch s Folio.siteOrder → Product.ofNumber n = some p → ∃ t, exec (.motorRetry dt ref n) s = .next t ∧
        Lands dt [.motors, .exch] s t ∧ t.motors = waiting ∧ Answered s t Folio.siteOrder ref .done 0))

/-! ### Displays -/

/-- A refresh that is due begins with a frame composed afresh; a zero check's hold is followed by Z2, composed
afresh; a lamp test's first hold by T2, the pattern of zeros, and its second by T3, composed afresh. A refresh's echo
that equals the last latched image clears the mismatch count, one that differs raises it, and the third in a row takes
the side to FAULT with a blanking transfer and DISPLAY_FAULT (R91, R98 to R101, R103). The model's choices: the order
of the bytes within a figure and a message (notes/assumptions/43.md), and the first byte that differs is the one of
lowest index (notes/assumptions/36.md). -/
def Obligations.TransfersBeginAndRefreshesAreJudged : Prop :=
  (∀ dt sd s,
    let t0 : Word32 := BitVec.ofNat 32 (s.now + dt)
    let frame := s.composeFrame sd
    let composed := fun (d : DispSide) (p : Purpose) => { d with
      composed := some frame, composedAt := some t0, recompose := false, figures := false
      transfer := some ⟨frame, p⟩, transferAt := some t0 }
    ((s.disp sd).refreshDue t0 = true →
      exec (.refreshStart dt sd) s = .next ((s.elapse dt).setDisp sd (composed (s.disp sd) .refresh))) ∧
    (∀ z d, (s.disp sd).zero = some z → z.step = .hold → (s.disp sd).holdT = some d → d ≤ s.now + dt →
      exec (.zeroCheckHold dt sd) s = .next ((s.elapse dt).setDisp sd
        (composed { s.disp sd with zero := some { z with step := .z2 }, holdT := none } .z2))) ∧
    (∀ l d, (s.disp sd).lamp = some l → (s.disp sd).holdT = some d → d ≤ s.now + dt →
      (l.step = .hold1 → exec (.lampTestHold dt sd) s = .next ((s.elapse dt).setDisp sd { s.disp sd with
        lamp := some { l with step := .t2 }, holdT := none
        transfer := some ⟨allOff, .t2⟩, transferAt := some t0 })) ∧
      (l.step = .hold2 → exec (.lampTestHold dt sd) s = .next ((s.elapse dt).setDisp sd
        (composed { s.disp sd with lamp := some { l with step := .t3 }, holdT := none } .t3))))) ∧
  ∀ dt sd s frame echo, (s.disp sd).transfer = some ⟨frame, .refresh⟩ → (s.disp sd).state = .lit →
    (s.disp sd).zero = none → (s.disp sd).lamp = none → (s.disp sd).goingDark = false →
    (∀ img, (s.disp sd).latched = some img → firstDiff img echo 0 = none →
      exec (.transferEnd dt sd echo) s = .next ((s.elapse dt).setDisp sd { s.disp sd with
        transfer := none, latched := some frame, mismatch := 0 })) ∧
    ((s.disp sd).latched = none → exec (.transferEnd dt sd echo) s = .next ((s.elapse dt).setDisp sd { s.disp sd with
      transfer := none, latched := some frame })) ∧
    (∀ img i, (s.disp sd).latched = some img → firstDiff img echo 0 = some i →
      ((s.disp sd).mismatch < 2 → exec (.transferEnd dt sd echo) s = .next ((s.elapse dt).setDisp sd { s.disp sd with
        transfer := none, latched := some frame, mismatch := (s.disp sd).mismatch + 1 })) ∧
      (2 ≤ (s.disp sd).mismatch → (s.side sd).state ≠ .authorized → (s.side sd).state ≠ .starting →
        s.display.darkening = false → ∃ t, exec (.transferEnd dt sd echo) s = .next t ∧
          Lands dt [.sides, .display, .journal, .exch] s t ∧ (t.disp sd).state = .fault ∧
          (t.disp sd).mismatch = 0 ∧ (t.disp sd).transfer = some ⟨allOff, .blank⟩ ∧
          t.disp sd.other = s.disp sd.other ∧ t.exch.nextEvent = succ32 s.exch.nextEvent))

/-- A zero check's Z1 that matches, or finds no known image, is followed by the hold of 1 s, and its Z2 that matches
verifies the check, which lets a side that waits for nothing else leave STARTING; either that differs takes the
display to FAULT with ZERO_CHECK and the byte's index, and the sale that waits in STARTING completes with
DISPLAY_FAULT. A lamp test's T1 is not compared, its T2 that matches is followed by the second hold and its T3 that
matches makes the side LIT, with DISPLAY_OK when it came from FAULT; either that differs takes the display to FAULT
with LAMP_TEST (R52, R68, R91, R100, R101, R103). A lamp test that the LAMP stage awaits, and sides with a sale under
a lamp test, are left out. The model's choices: the first byte that differs is the one of lowest index
(notes/assumptions/36.md), T1 leaves the mismatch count as it stood (notes/assumptions/51.md), and a change count is
raised by 2 (notes/assumptions/16.md). -/
def Obligations.ChecksAreJudged : Prop :=
  ∀ dt sd (s : State) frame purpose echo, (s.disp sd).transfer = some ⟨frame, purpose⟩ → (s.disp sd).goingDark = false →
    s.display.darkening = false →
    let latch : DispSide := { s.disp sd with transfer := none, latched := some frame }
    (∀ z, (s.disp sd).state = .lit → (s.disp sd).zero = some z → (s.disp sd).lamp = none →
      (purpose = .z1 → z.step = .z1 →
        ((s.disp sd).latched = none ∨ (∃ img, (s.disp sd).latched = some img ∧ firstDiff img echo 0 = none)) →
        exec (.transferEnd dt sd echo) s = .next ((s.elapse dt).setDisp sd { latch with
          zero := some { z with step := .hold }, mismatch := 0, holdT := some (s.now + dt + seconds 1) })) ∧
      (∀ o, purpose = .z2 → z.step = .z2 → firstDiff allOn echo 0 = none → (s.side sd).state = .starting →
        (s.side sd).sale = some o → o.record.number = z.sale →
        ((∃ p, (s.side sd).needMotors.get p = true) → exec (.transferEnd dt sd echo) s =
          .next (((s.elapse dt).setDisp sd { latch with zero := none, mismatch := 0 }).setSide sd
            { s.side sd with needZero := false })) ∧
        (∀ c, (∀ p, (s.side sd).needMotors.get p = false) → o.cap = some c →
          let v := volumeOf (fineSum (s.fines sd))
          ∃ t, exec (.transferEnd dt sd echo) s = .next t ∧ Lands dt [.sides, .display, .journal, .exch] s t ∧
            (t.disp sd).zero = none ∧ (t.disp sd).mismatch = 0 ∧ (t.disp sd).latched = some frame ∧
            (t.side sd).needZero = false ∧ t.side sd.other = s.side sd.other ∧
            (t.side sd).state = (if c.target ≤ v then .ending else if c.slow ≤ v then .slow else .flowing))) ∧
      (∀ i o expected, (purpose = .z1 ∧ z.step = .z1 ∧ (s.disp sd).latched = some expected) ∨
          (purpose = .z2 ∧ z.step = .z2 ∧ expected = allOn) →
        firstDiff expected echo 0 = some i → (s.side sd).state = .starting → (s.side sd).sale = some o →
        o.record.number = z.sale → o.record.side = sd → s.mode.stage = none → s.prices.swapDue = false →
        (s.side sd.other).state ≠ .starting →
        ∃ t r, exec (.transferEnd dt sd echo) s = .next t ∧ t.now = s.now + dt ∧ (t.disp sd).state = .fault ∧
          (t.disp sd).zero = none ∧ (t.disp sd).transfer = some ⟨allOff, .blank⟩ ∧
          t.disp sd.other = s.disp sd.other ∧ (t.side sd).sale = none ∧
          (t.records sd).pending.map (·.record) = (s.records sd).pending.map (·.record) ++ [r] ∧
          r.number = o.record.number ∧ r.reason = some .displayFault ∧
          NewestEvent t s.mode.clock .displayFault sd.number (.dispCause .zeroCheck) (.num i))) ∧
    (∀ l, (s.disp sd).state = .testing → (s.disp sd).lamp = some l → l.order = false → (s.disp sd).zero = none →
      s.mode.stage ≠ some .lamp →
      (purpose = .t1 → l.step = .t1 → exec (.transferEnd dt sd echo) s = .next ((s.elapse dt).setDisp sd { latch with
        lamp := some { l with step := .hold1 }, holdT := some (s.now + dt + seconds 1) })) ∧
      (purpose = .t2 → l.step = .t2 → firstDiff allOn echo 0 = none →
        exec (.transferEnd dt sd echo) s = .next ((s.elapse dt).setDisp sd { latch with
          lamp := some { l with step := .hold2 }, mismatch := 0, holdT := some (s.now + dt + seconds 1) })) ∧
      (purpose = .t3 → l.step = .t3 → firstDiff allOff echo 0 = none →
        ∃ t, exec (.transferEnd dt sd echo) s = .next t ∧ Lands dt [.display, .exch] s t ∧
          t.disp sd = { latch with state := .lit, mismatch := 0, lamp := none } ∧
          t.disp sd.other = s.disp sd.other ∧
          t.exch.nextEvent = if l.fromFault then succ32 s.exch.nextEvent else s.exch.nextEvent) ∧
      (∀ i expected, (purpose = .t2 ∧ l.step = .t2 ∧ expected = allOn) ∨
          (purpose = .t3 ∧ l.step = .t3 ∧ expected = allOff) →
        firstDiff expected echo 0 = some i → (s.side sd).state.holdsSale = false →
        ∃ t, exec (.transferEnd dt sd echo) s = .next t ∧ Lands dt [.display, .exch] s t ∧
          (t.disp sd).state = .fault ∧ (t.disp sd).lamp = none ∧ (t.disp sd).transfer = some ⟨allOff, .blank⟩ ∧
          t.disp sd.other = s.disp sd.other ∧
          Raised s t .displayFault sd.number (.dispCause .lampTest) (.num i)))

/-- DISPLAY_RETEST is refused by its side code and by the side's display and sale; on a FAULT side the lamp test
begins at once, and on a LIT side, where a blanking transfer comes first, the folio stays part-held; once the dark
timer has expired the order is answered and the side goes dark. At the dark timer's expiry a LIT side begins its
blanking transfer while the supply stays; with both sides DARK or in FAULT the supply goes off at once, which in the
DISPLAY stage is ClosingReachesClosed's (R102, R104). The model's choices: a retest of a LIT side whose opening lamp
test still waits joins it (notes/assumptions/22.md), a retest as the displays go dark is answered DONE
(notes/assumptions/14.md), the supply goes off while a side in FAULT may still blank (notes/assumptions/52.md), and a
result detail of 0 where the rule names none (notes/assumptions/12.md). -/
def Obligations.DisplaysAreRetestedAndGoDark : Prop :=
  (∀ dt ref n s, CanTouch s Folio.siteOrder →
    (Side.ofNumber n = none → ∃ t, exec (.displayRetest dt ref n) s = .next t ∧
      Refused dt s t Folio.siteOrder ref .invalidSide 0) ∧
    (∀ sd, Side.ofNumber n = some sd →
      ((s.disp sd).state = .dark ∨ (s.disp sd).state = .testing ∨ s.display.supply = false ∨
          (s.side sd).state.hasFrames = true →
        ∃ t, exec (.displayRetest dt ref n) s = .next t ∧ Refused dt s t Folio.siteOrder ref .wrongState 0) ∧
      (s.display.supply = true → (s.side sd).state.hasFrames = false → s.display.darkening = true →
        ((s.disp sd).state = .lit ∨ (s.disp sd).state = .fault) → ∃ t, exec (.displayRetest dt ref n) s = .next t ∧
          Lands dt [.display, .exch] s t ∧ (t.disp sd).lamp = none ∧ (t.disp sd).goingDark = true ∧
          t.disp sd.other = s.disp sd.other ∧ Answered s t Folio.siteOrder ref .done 0) ∧
      (s.display.supply = true → (s.side sd).state.hasFrames = false → s.display.darkening = false →
        ((s.disp sd).state = .fault → ∃ t l, exec (.displayRetest dt ref n) s = .next t ∧
          Lands dt [.display, .exch] s t ∧ (t.disp sd).state = .testing ∧ (t.disp sd).lamp = some l ∧
          l.fromFault = true ∧ t.disp sd.other = s.disp sd.other ∧ Answered s t Folio.siteOrder ref .done 0) ∧
        ((s.disp sd).state = .lit → ∃ t l, exec (.displayRetest dt ref n) s = .next t ∧
          Lands dt [.display, .exch] s t ∧ (t.disp sd).state = .lit ∧ (t.disp sd).lamp = some l ∧ l.order = true ∧
          t.disp sd.other = s.disp sd.other ∧ Held t Folio.siteOrder ref)))) ∧
  ∀ dt s d, s.display.darkT = some d → d ≤ s.now + dt →
    ((∀ sd, ((s.disp sd).state = .dark ∨ (s.disp sd).state = .fault) ∧ (s.disp sd).goingDark = false) →
      s.mode.stage ≠ some .display →
      ∃ t, exec (.darkDelay dt) s = .next t ∧ Lands dt [.display] s t ∧
        t.display = { s.display with supply := false, darkT := none, darkening := false }) ∧
    (∀ sd, (s.disp sd).state = .lit → (s.disp sd).transfer = none →
      ∃ t, exec (.darkDelay dt) s = .next t ∧ Lands dt [.display, .exch] s t ∧ (t.disp sd).goingDark = true ∧
        (t.disp sd).transfer = some ⟨allOff, .blank⟩ ∧ t.display.supply = s.display.supply ∧ t.display.darkT = none)

/-- MESSAGE stores the first 8 characters of its text as the side's host text, in place of the old one, any character
outside the set as a blank; a longer text is answered CLAMPED. It is a source change on a LIT or TESTING side (R97).
The model's choices: a result detail of 0 where the rule names none (notes/assumptions/12.md), and the characters'
codes are ASCII's (notes/assumptions/49.md). -/
def Obligations.MessageSetsTheHostText : Prop :=
  ∀ dt sd ref text s, CanTouch s (Folio.message sd) → Memory.wf s.exch.mem = true → text.length ≤ 240 →
    ∃ t, exec (.message dt sd ref text) s = .next t ∧ Lands dt [.display, .exch] s t ∧
      t.disp sd = { s.disp sd with
        hostText := (text.take 8).map fun c =>
          if (0x30 ≤ c.toNat ∧ c.toNat ≤ 0x39) ∨ (0x41 ≤ c.toNat ∧ c.toNat ≤ 0x5A) ∨ c = 0x2D#8 ∨ c = 0x2E#8 then c
          else 0x20#8
        recompose := (s.disp sd).recompose || decide ((s.disp sd).state = .lit ∨ (s.disp sd).state = .testing) } ∧
      t.disp sd.other = s.disp sd.other ∧
      Answered s t (Folio.message sd) ref .done (if 8 < text.length then clampedBit else 0)

/-- A reading in range becomes the last reading and one out of range, or in COLD or HOLDUP, leaves it; with the heater
on, the first reading 2 degrees above the threshold or higher switches it off, stops the warm timer and ends WARM
without the cold detail, and a lower one leaves it on; the warm limit ends WARM with the cold flag set. LAMP follows
(R107, R168). -/
def Obligations.TemperatureIsHeld : Prop :=
  ∀ dt reading s,
    (s.dormant = false → -40 ≤ reading → reading ≤ 85 →
      (s.display.heater = false → exec (.temperatureSample dt reading) s =
        .next { s.elapse dt with display := { s.display with temperature := some reading } }) ∧
      (s.display.heater = true → reading < s.exch.config.warmThreshold + 2 → exec (.temperatureSample dt reading) s =
        .next { s.elapse dt with display := { s.display with temperature := some reading } }) ∧
      (s.display.heater = true → s.exch.config.warmThreshold + 2 ≤ reading → s.mode.stage = some .warm →
        ∃ t, exec (.temperatureSample dt reading) s = .next t ∧ Lands dt [.display, .mode, .exch] s t ∧
          t.display.temperature = some reading ∧ t.display.heater = false ∧ t.display.warmT = none ∧
          t.display.coldFlag = s.display.coldFlag ∧ t.mode.outcome.cold = false ∧ t.mode.stage = some .lamp)) ∧
    (s.dormant = true ∨ reading < -40 ∨ 85 < reading → exec (.temperatureSample dt reading) s = .next (s.elapse dt)) ∧
    (∀ d, s.display.warmT = some d → d ≤ s.now + dt → s.mode.stage = some .warm →
      ∃ t, exec (.warmLimit dt) s = .next t ∧ Lands dt [.display, .mode, .exch] s t ∧ t.display.heater = false ∧
        t.display.warmT = none ∧ t.display.coldFlag = true ∧ t.mode.outcome.cold = true ∧
        t.mode.stage = some .lamp)

/-- The lamp byte's lamps: CARD is lit while the gate is OPEN, and PAY_INSIDE while the gate is not OPEN and the mode
is OPEN; the two are never lit together, exactly one of them while the mode is OPEN, and outside OPEN PAY_INSIDE is
dark. The frame's last byte has a bit of its own for each of the eight, 1 while it is lit, in the order of the table
from one end or from the other (R95; notes/assumptions/6.md). -/
def Obligations.LampsFollowR95 : Prop :=
  (∀ (s : State) sd, ∃ card pay, s.lamps sd =
      #v[(s.side sd).state.holdsSale, (s.side sd).state.delivers, decide ((s.side sd).state = .suspended),
        decide ((s.side sd).state = .calling), card, pay, (s.side sd).nozzleLamp, (s.side sd).waiting] ∧
    (card = true ↔ (s.gate sd).state = .opened) ∧
    (pay = true ↔ (s.gate sd).state ≠ .opened ∧ s.mode.mode = .openMode) ∧
    ¬(card = true ∧ pay = true) ∧ (s.mode.mode = .openMode → (card = true ∨ pay = true)) ∧
    (s.mode.mode ≠ .openMode → pay = false)) ∧
  ∃ fromTop : Bool, ∀ (s : State) sd (i : Fin 8), (s.composeFrame sd).length = 54 ∧
    ((s.composeFrame sd).getD 53 0).getLsbD (if fromTop then 7 - i.val else i.val) = (s.lamps sd).get i

/-! ### Readers -/

/-- A poll cycle that may begin addresses the first polled module, the card module before the keypad: with the downlink
in flight for it, if it is ACTIVE, whose send count rises by 1, or with a POLL, either carrying the pending answer flag,
which is then none; with no polled module the cycle ends at once. Once the card module has answered, or an AWAITING one
has not, the keypad module is addressed in the same way if it is polled, and after the keypad's answer the cycle ends.
The receiver's rest ends in HUNTING (R112 to R115, R130). The model's choices: the moment the next cycle is due is fixed
as the cycle begins (notes/assumptions/21.md), and a POLL carries the downlink toggle (notes/assumptions/36.md). -/
def Obligations.PollCyclesBegin : Prop :=
  ∀ dt sd s, (s.gate sd).power = true →
    let deadline := fun n => s.now + dt + charMicros (s.gate sd).divisor n + millis s.exch.config.answerTimeout
    let flags := fun (m : Module) cls toggle =>
      (⟨cls, toggle, decide (m.flag = .ack), decide (m.flag = .busy), decide (m.flag = .reject)⟩ : Control)
    let polled := fun (g : GateCtl) (i : ModuleId) => { g.setMod i { g.mod i with flag := .none } with
      addressing := some
        { mod := i, sent := partFrame i.addr (flags (g.mod i) .poll (g.mod i).downToggle) [], isDownlink := false
          deadline := deadline 5 } }
    let sent := fun (g : GateCtl) (i : ModuleId) (d : DownlinkInFlight) =>
      { g.setMod i { g.mod i with flag := .none } with
        downlink := some { d with sends := d.sends + 1 }
        addressing := some
          { mod := i, sent := partFrame i.addr (flags (g.mod i) d.cls d.toggle) d.payload, isDownlink := true
            deadline := deadline (5 + d.payload.length) } }
    let carries := fun (g : GateCtl) (i : ModuleId) (d : DownlinkInFlight) =>
      g.downlink = some d ∧ d.mod = i ∧ (g.mod i).status = some .active
    let addresses := fun (c : Instr) (g : GateCtl) (i : ModuleId) =>
      ((∀ d, ¬ carries g i d) → exec c s = .next ((s.elapse dt).setGate sd (polled g i))) ∧
        ∀ d, carries g i d → exec c s = .next ((s.elapse dt).setGate sd (sent g i d))
    ((s.gate sd).addressing = none → (∀ d, (s.gate sd).pollDue = some d → d ≤ s.now + dt) →
      let g := { s.gate sd with
        cycleAt := some (s.now + dt), pollDue := some (s.now + dt + millis s.exch.config.pollInterval) }
      (g.card.polled = true → addresses (.pollCycleStart dt sd) g .card) ∧
      (g.card.polled = false → g.keypad.polled = true → addresses (.pollCycleStart dt sd) g .keypad) ∧
      (g.card.polled = false → g.keypad.polled = false →
        exec (.pollCycleStart dt sd) s = .next ((s.elapse dt).setGate sd g))) ∧
    (∀ a c m, (s.gate sd).addressing = some a → a.isDownlink = false → s.mode.stage ≠ some .readers →
      ((∃ f, c = .answerFrame dt sd f ∧ (s.gate sd).receiver ≠ .resync ∧ frameGood f = true ∧
          f.control.cls = .nothing ∧ m = if ((s.gate sd).mod a.mod).status = some .active
            then { (s.gate sd).mod a.mod with missed := 0 } else (s.gate sd).mod a.mod) ∨
        (c = .answerTimeout dt sd ∧ a.deadline ≤ s.now + dt ∧
          ((s.gate sd).mod a.mod).status ≠ some .active ∧ m = (s.gate sd).mod a.mod)) →
      let g := (s.gate sd).setMod a.mod m
      (a.mod = .card → g.keypad.polled = true → addresses c g .keypad) ∧
      (a.mod = .card → g.keypad.polled = false →
        exec c s = .next ((s.elapse dt).setGate sd { g with addressing := none })) ∧
      (a.mod = .keypad → exec c s = .next ((s.elapse dt).setGate sd { g with addressing := none }))) ∧
    ((s.gate sd).receiver = .resync → exec (.resyncEnd dt sd) s =
      .next ((s.elapse dt).setGate sd { s.gate sd with receiver := .hunting }))

/-- A module's HELLO is judged by ADMISSION_MODE and the tag's scope: its tag, version and scope are recorded, and it
is ACTIVE, ADMITTED or REFERRED, or SHUT under CHECK with scope OTHER; MODULE_ADMITTED is raised. An ACTIVE card module
opens a gate that was STARTING or RESTARTING, with GATE; it clears the restart-used flag, but for a gate in an automatic
restart, which keeps it. A SHUT one leaves such a gate as it is, and trips a gate that was OPEN with NOT_ADMITTED. The
keypad module's leaves the gate's state and the card module's record (R117, R119 to R121). A gate that the READERS stage
awaits is OpeningReachesOpen's. The model's choices: the HELLO's tag has its high byte first (notes/assumptions/17.md), a
SHUT module has no standing (notes/assumptions/36.md), and a change count is raised by 2 (notes/assumptions/16.md). -/
def Obligations.HelloOpensTheGate : Prop :=
  ∀ dt sd s a f b0 b1 b2, (s.gate sd).power = true → (s.gate sd).addressing = some a → a.isDownlink = false →
    (s.gate sd).receiver ≠ .resync → frameGood f = true → f.control.cls = .hello →
    f.payload = [b0, b1, b2] → s.mode.stage ≠ some .readers →
    let g := s.gate sd
    let tag : BitVec 16 := b0 ++ b1
    let scope := scopeOf g.admission.keys tag
    let mode := s.exch.config.admissionMode.get sd
    let shut := mode = .check ∧ scope = .other
    let referred := mode = .checkRefer ∧ scope = .other
    let told := fun (t : State) (outcome : HelloOutcome) =>
      Raised s t .moduleAdmitted sd.number (.hello a.mod.addr scope outcome) (.tagVersion tag b2)
    ∀ st sta, ((shut ∧ st = .shut ∧ sta = none) ∨ (referred ∧ st = .active ∧ sta = some .referred) ∨
        (¬ shut ∧ ¬ referred ∧ st = .active ∧ sta = some .admitted)) →
      let heard := { g.mod a.mod with
        status := some st, standing := sta, tag := some tag, version := some b2, scope := some scope, missed := 0
        lastToggle := some (f.control.toggle, .taken), downToggle := false, flag := .ack }
      (a.mod = .keypad → ∃ t, exec (.answerFrame dt sd f) s = .next t ∧ Lands dt [.gates, .exch] s t ∧
        (t.gate sd).state = g.state ∧ (t.gate sd).restartUsed = g.restartUsed ∧ (t.gate sd).card = g.card ∧
        (t.gate sd).keypad = heard ∧ t.gate sd.other = s.gate sd.other ∧
        told t (if shut then .shut else if referred then .referred else .admitted)) ∧
      (a.mod = .card → ¬ shut →
        (g.state = .starting → ∃ t, exec (.answerFrame dt sd f) s = .next t ∧
          Lands dt [.gates, .display, .exch] s t ∧ (t.gate sd).state = .opened ∧ (t.gate sd).restartUsed = false ∧
          (t.gate sd).card = heard ∧ t.gate sd.other = s.gate sd.other ∧
          t.exch.nextEvent = succ32 (succ32 s.exch.nextEvent)) ∧
        (∀ origin, g.state = .restarting → g.restart = some (origin, .await) →
          ∃ t, exec (.answerFrame dt sd f) s = .next t ∧ Lands dt [.gates, .display, .exch] s t ∧
            (t.gate sd).state = .opened ∧ (t.gate sd).restart = none ∧
            (t.gate sd).restartUsed = (if origin = .ordered then false else g.restartUsed) ∧
            (t.gate sd).card = heard ∧ t.gate sd.other = s.gate sd.other ∧
            t.exch.nextEvent = succ32 (succ32 s.exch.nextEvent)) ∧
        (g.state = .opened → ∃ t, exec (.answerFrame dt sd f) s = .next t ∧ Lands dt [.gates, .exch] s t ∧
          (t.gate sd).state = .opened ∧ (t.gate sd).restartUsed = false ∧ (t.gate sd).card = heard ∧
          t.gate sd.other = s.gate sd.other ∧ told t (if referred then .referred else .admitted))) ∧
      (a.mod = .card → shut →
        (g.state = .starting ∨ g.state = .restarting → ∃ t, exec (.answerFrame dt sd f) s = .next t ∧
          Lands dt [.gates, .exch] s t ∧ (t.gate sd).state = g.state ∧ (t.gate sd).restart = g.restart ∧
          (t.gate sd).restartUsed = g.restartUsed ∧ (t.gate sd).card = heard ∧ t.gate sd.other = s.gate sd.other ∧
          told t .shut) ∧
        (g.state = .opened → (s.side sd).sale = none → ∃ t, exec (.answerFrame dt sd f) s = .next t ∧
          Lands dt [.gates, .display, .exch] s t ∧ (t.gate sd).state = .tripped ∧
          (t.gate sd).trip = some .notAdmitted ∧ (t.gate sd).power = false ∧ (t.gate sd).downlink = none ∧
          (t.gate sd).card = heard ∧ t.gate sd.other = s.gate sd.other ∧
          t.exch.nextEvent = succ32 (succ32 s.exch.nextEvent)))

/-- An uplink frame of an ACTIVE module: a resend is discarded with the flag of its first judgement; a new one passes
when its class is allowed to the module's scope, or with OPEN_ALL, or unadmitted with CHECK_REFER, and joins the
queue with ACK, or is handed over at once in a part-held UPLINK folio, or finds the queue full and is answered BUSY;
with CHECK it is refused otherwise, with REJECT and FRAME_REFUSED. One from a module that is not ACTIVE is
disregarded (R115, R116, R127, R128). The model's choices: the widths of the UPLINK body's fields and the spelling of
its UNADMITTED mark (notes/assumptions/17.md), a change count that is raised by 2 (notes/assumptions/16.md), and a
result detail of 0 where the rule names none (notes/assumptions/12.md). -/
def Obligations.UplinksAreJudged : Prop :=
  ∀ dt sd (s : State) a f, (s.gate sd).power = true → (s.gate sd).addressing = some a → a.isDownlink = false →
    (s.gate sd).receiver ≠ .resync → frameGood f = true → f.control.cls.isUplink = true →
    s.mode.stage ≠ some .readers →
    let m := (s.gate sd).mod a.mod
    let scope := m.scope.getD .other
    let mode := s.exch.config.admissionMode.get sd
    let allowed := ((s.gate sd).admission.up.get scope).allows f.control.cls = true
    let passes := allowed ∨ mode = .openAll ∨ mode = .checkRefer
    let unadmitted := !((s.gate sd).admission.up.get scope).allows f.control.cls && decide (mode = .checkRefer)
    let entry : UplinkEntry := ⟨a.mod, m.tag, f.control.cls, unadmitted, f.payload, BitVec.ofNat 32 (s.now + dt)⟩
    let isNew := ∀ j, m.lastToggle ≠ some (f.control.toggle, j)
    let taken := { m with missed := 0, lastToggle := some (f.control.toggle, .taken), flag := .ack }
    (m.status ≠ some .active → ∃ t, exec (.answerFrame dt sd f) s = .next t ∧ Lands dt [.gates] s t ∧
      (t.gate sd).mod a.mod = m ∧ (t.gate sd).queue = (s.gate sd).queue ∧ t.gate sd.other = s.gate sd.other) ∧
    (∀ j, m.status = some .active → m.lastToggle = some (f.control.toggle, j) →
      ∃ t, exec (.answerFrame dt sd f) s = .next t ∧ Lands dt [.gates] s t ∧
        (t.gate sd).mod a.mod = { m with missed := 0, flag := match j with | .taken => .ack | .refused => .reject } ∧
        (t.gate sd).queue = (s.gate sd).queue ∧ t.gate sd.other = s.gate sd.other) ∧
    (m.status = some .active → isNew → ¬ passes → ∃ t, exec (.answerFrame dt sd f) s = .next t ∧
      Lands dt [.gates, .exch] s t ∧
      (t.gate sd).mod a.mod = { m with
        missed := 0, lastToggle := some (f.control.toggle, .refused), flag := .reject } ∧
      (t.gate sd).queue = (s.gate sd).queue ∧ t.gate sd.other = s.gate sd.other ∧
      Raised s t .frameRefused sd.number (.frame a.mod.addr f.control.cls) (.scope scope)) ∧
    (m.status = some .active → isNew → passes → 4 ≤ (s.gate sd).queue.length →
      ∃ t, exec (.answerFrame dt sd f) s = .next t ∧ Lands dt [.gates] s t ∧
        (t.gate sd).mod a.mod = { m with missed := 0, flag := .busy } ∧
        (t.gate sd).queue = (s.gate sd).queue ∧ t.gate sd.other = s.gate sd.other) ∧
    (m.status = some .active → isNew → passes → (s.gate sd).queue.length < 4 →
      (∀ i, (s.header (Folio.uplink sd i)).holder = .host) →
      ∃ t, exec (.answerFrame dt sd f) s = .next t ∧ Lands dt [.gates] s t ∧ (t.gate sd).mod a.mod = taken ∧
        (t.gate sd).queue = (s.gate sd).queue ++ [entry] ∧ t.gate sd.other = s.gate sd.other) ∧
    (m.status = some .active → isNew → passes → (s.gate sd).queue = [] →
      (s.header (Folio.uplink sd 0)).holder = .part →
      ∃ t, exec (.answerFrame dt sd f) s = .next t ∧ Lands dt [.gates, .exch] s t ∧
        (t.gate sd).mod a.mod = taken ∧ (t.gate sd).queue = [] ∧ t.gate sd.other = s.gate sd.other ∧
        Answered s t (Folio.uplink sd 0) 0 .done 0 ∧
        (Memory.wf s.exch.mem = true →
          Memory.readAll t.exch.mem (Folio.uplink sd 0).body entry.bytes.length = entry.bytes))

/-- An answer that does not come, a broken frame and a receive error are misses: an ACTIVE module's first and second
only raise its count, and an unacknowledged downlink is in flight again or, sent once more than DOWNLINK_RETRIES, is
answered NO_ANSWER; the third restarts the gate automatically, or trips it with SILENT once that restart is used
(R113 to R115, R120, R121, R130). A third miss of a downlink is left out. The model's choice: in the AWAIT phase of an
ordered restart, too, the third miss with the restart unused restarts the gate (notes/assumptions/36.md). -/
def Obligations.MissedAnswersSilenceAModule : Prop :=
  ∀ dt sd s a c, (s.gate sd).power = true → (s.gate sd).addressing = some a →
    ((c = .answerTimeout dt sd ∧ a.deadline ≤ s.now + dt) ∨
      (c ∈ [Instr.breakOff dt sd, .receiveError dt sd] ∧ (s.gate sd).receiver ≠ .resync)) →
    ((s.gate sd).mod a.mod).status = some .active →
    let raised := { (s.gate sd).mod a.mod with missed := ((s.gate sd).mod a.mod).missed + 1 }
    (((s.gate sd).mod a.mod).missed < 2 → a.isDownlink = false → s.mode.stage ≠ some .readers →
      ∃ t, exec c s = .next t ∧ Lands dt [.gates] s t ∧ (t.gate sd).state = (s.gate sd).state ∧
        (t.gate sd).mod a.mod = raised ∧ t.gate sd.other = s.gate sd.other) ∧
    (∀ d, ((s.gate sd).mod a.mod).missed < 2 → a.isDownlink = true → (s.gate sd).downlink = some d → d.mod = a.mod →
      s.mode.stage ≠ some .readers →
      (d.sends ≤ s.exch.config.downlinkRetries → ∃ t, exec c s = .next t ∧ Lands dt [.gates] s t ∧
        (t.gate sd).downlink = some d ∧ (t.gate sd).mod a.mod = raised ∧ t.gate sd.other = s.gate sd.other) ∧
      (s.exch.config.downlinkRetries < d.sends → ∃ t, exec c s = .next t ∧ Lands dt [.gates, .exch] s t ∧
        (t.gate sd).downlink = none ∧ (t.gate sd).mod a.mod = raised ∧ t.gate sd.other = s.gate sd.other ∧
        Answered s t (Folio.downlink sd) (s.header (Folio.downlink sd)).ref .noAnswer
          (Config.downlinkDetail d.sends none))) ∧
    (((s.gate sd).mod a.mod).missed = 2 → a.isDownlink = false → s.mode.stage = none →
      (s.gate sd).restartUsed = false →
      ∃ t, exec c s = .next t ∧ t.now = s.now + dt ∧ (t.gate sd).state = .restarting ∧ (t.gate sd).power = false ∧
        (t.gate sd).restart = some (.automatic, .offTime) ∧ (t.gate sd).restartUsed = true ∧
        (t.gate sd).offT = some (s.now + dt + seconds 2) ∧ (t.gate sd).addressing = none ∧
        t.gate sd.other = s.gate sd.other) ∧
    (((s.gate sd).mod a.mod).missed = 2 → a.isDownlink = false → s.mode.stage = none →
      (s.gate sd).restartUsed = true →
      ∃ t, exec c s = .next t ∧ t.now = s.now + dt ∧ (t.gate sd).state = .tripped ∧
        (t.gate sd).trip = some .silent ∧ (t.gate sd).power = false ∧ (t.gate sd).addressing = none ∧
        t.gate sd.other = s.gate sd.other)

/-- A gate still STARTING or RESTARTING when its start timer expires trips, with NOT_ADMITTED if its card module was
shut, else NO_HELLO; an OPEN gate stays and its silent keypad becomes ABSENT. The off time of a restart ends with the domain
powered on. The tamper input opening trips a gate that is not TRIPPED, and on a TRIPPED gate only raises TAMPER; its
closing raises nothing and leaves the gate's state; in COLD and HOLDUP only the input changes (R119, R121, R122). The
model's choice: an input reported open that is open already raises TAMPER again (notes/assumptions/34.md). -/
def Obligations.GateTimersAndTamper : Prop :=
  (∀ dt sd s d, d ≤ s.now + dt →
    ((s.gate sd).startT = some d → s.mode.stage ≠ some .readers →
      ((s.gate sd).state = .starting ∨ (s.gate sd).state = .restarting → ∃ t, exec (.readerStartTimeout dt sd) s = .next t ∧
        Lands dt [.gates, .display, .exch] s t ∧ (t.gate sd).state = .tripped ∧
        (t.gate sd).trip = some (if (s.gate sd).card.status = some .shut then .notAdmitted else .noHello) ∧
        (t.gate sd).power = false ∧ (t.gate sd).startT = none ∧ t.gate sd.other = s.gate sd.other ∧
        t.exch.nextEvent = succ32 s.exch.nextEvent) ∧
      ((s.gate sd).state = .opened → (s.gate sd).addressing = none → ∃ t,
        exec (.readerStartTimeout dt sd) s = .next t ∧ Lands dt [.gates] s t ∧
        t.gate sd = { s.gate sd with
          startT := none, card := (s.gate sd).card.expire, keypad := (s.gate sd).keypad.expire } ∧
        t.gate sd.other = s.gate sd.other)) ∧
    (∀ o, (s.gate sd).offT = some d → (s.gate sd).restart = some (o, .offTime) →
      exec (.offTime dt sd) s = .next ((s.elapse dt).setGate sd { s.gate sd with
        power := true, divisor := s.exch.config.divisor, card := Module.awaiting true
        keypad := Module.awaiting (s.exch.config.keypadFitted.get sd), receiver := .resync
        startT := some (s.now + dt + seconds s.exch.config.readerStartTimeout), offT := none, cycleAt := none
        pollDue := none, addressing := none, restart := some (o, .await) }))) ∧
  ∀ dt sd s,
    (s.dormant = false → (s.gate sd).state ≠ .tripped → s.mode.stage = none →
      ∃ t, exec (.tamperInputOpen dt sd) s = .next t ∧ t.now = s.now + dt ∧ (t.gate sd).state = .tripped ∧
        (t.gate sd).trip = some .tamper ∧ (t.gate sd).power = false ∧ (t.gate sd).tamper = true ∧
        t.gate sd.other = s.gate sd.other) ∧
    (s.dormant = false → (s.gate sd).state = .tripped → s.mode.stage ≠ some .readers →
      ∃ t, exec (.tamperInputOpen dt sd) s = .next t ∧ Lands dt [.gates, .exch, .pins] s t ∧
        t.gate sd = { s.gate sd with tamper := true } ∧ t.gate sd.other = s.gate sd.other ∧
        t.exch.nextEvent = succ32 s.exch.nextEvent) ∧
    (s.dormant = false → ∃ t, exec (.tamperInputClosed dt sd) s = .next t ∧ Lands dt [.gates, .pins] s t ∧
      t.gate sd = { s.gate sd with tamper := false } ∧ t.gate sd.other = s.gate sd.other) ∧
    (s.dormant = true → ∀ c ∈ [Instr.tamperInputOpen dt sd, .tamperInputClosed dt sd],
      ∃ t, exec c s = .next t ∧ Lands dt [.pins] s t)

/-- READER_CLEAR is refused by its side code, the mode, the gate's state and the tamper input, in that order, and
otherwise starts the gate; READER_RESTART is refused by its side code and the gate's state, and otherwise restarts
the gate with origin ORDERED, the restart-used flag as it was (R123, R124). The model's choice: a result detail of 0
where the rule names none (notes/assumptions/12.md). -/
def Obligations.ReadersAreClearedAndRestarted : Prop :=
  ∀ dt ref n s, CanTouch s Folio.siteOrder →
    (Side.ofNumber n = none → ∀ c ∈ [Instr.readerClear dt ref n, .readerRestart dt ref n],
      ∃ t, exec c s = .next t ∧ Refused dt s t Folio.siteOrder ref .invalidSide 0) ∧
    (∀ sd, Side.ofNumber n = some sd →
      (s.mode.mode ≠ .openMode → ∃ t, exec (.readerClear dt ref n) s = .next t ∧
        Refused dt s t Folio.siteOrder ref .mode 0) ∧
      (s.mode.mode = .openMode → (s.gate sd).state ≠ .off → (s.gate sd).state ≠ .tripped →
        ∃ t, exec (.readerClear dt ref n) s = .next t ∧ Refused dt s t Folio.siteOrder ref .wrongState 0) ∧
      (s.mode.mode = .openMode → ((s.gate sd).state = .off ∨ (s.gate sd).state = .tripped) →
        ((s.gate sd).tamper = true → ∃ t, exec (.readerClear dt ref n) s = .next t ∧
          Refused dt s t Folio.siteOrder ref .tamper 0) ∧
        ((s.gate sd).tamper = false → ∃ t, exec (.readerClear dt ref n) s = .next t ∧
          Lands dt [.gates, .display, .exch] s t ∧ (t.gate sd).state = .starting ∧ (t.gate sd).trip = none ∧
          (t.gate sd).power = true ∧
          (t.gate sd).startT = some (s.now + dt + seconds s.exch.config.readerStartTimeout) ∧
          (t.gate sd).restartUsed = (s.gate sd).restartUsed ∧ t.gate sd.other = s.gate sd.other ∧
          Answered s t Folio.siteOrder ref .done 0 ∧ t.exch.nextEvent = succ32 s.exch.nextEvent)) ∧
      ((s.gate sd).state ≠ .starting → (s.gate sd).state ≠ .opened →
        ∃ t, exec (.readerRestart dt ref n) s = .next t ∧ Refused dt s t Folio.siteOrder ref .wrongState 0) ∧
      ((s.gate sd).state = .starting → s.mode.stage ≠ some .readers →
        ∃ t, exec (.readerRestart dt ref n) s = .next t ∧ Lands dt [.gates, .display, .exch] s t ∧
          (t.gate sd).state = .restarting ∧ (t.gate sd).restart = some (.ordered, .offTime) ∧
          (t.gate sd).power = false ∧ (t.gate sd).offT = some (s.now + dt + seconds 2) ∧
          (t.gate sd).restartUsed = (s.gate sd).restartUsed ∧ t.gate sd.other = s.gate sd.other ∧
          Answered s t Folio.siteOrder ref .done 0) ∧
      ((s.gate sd).state = .opened → s.mode.stage = none →
        ∃ t, exec (.readerRestart dt ref n) s = .next t ∧ t.now = s.now + dt ∧ (t.gate sd).state = .restarting ∧
          (t.gate sd).restart = some (.ordered, .offTime) ∧ (t.gate sd).power = false ∧
          (t.gate sd).downlink = none ∧ (t.gate sd).restartUsed = (s.gate sd).restartUsed ∧
          t.gate sd.other = s.gate sd.other ∧ (t.header Folio.siteOrder).holder = .host ∧
          (t.header Folio.siteOrder).result = .done))

/-- A downlink is checked in order: its module, its class and length, the gate, the module's status and its
admission; an accepted one is in flight with the module's toggle turned, and its folio stays part-held (R127, R129).
The model's choice: a result detail of 0 where the rule names none (notes/assumptions/12.md). -/
def Obligations.DownlinkIsLaunched : Prop :=
  ∀ dt sd ref r s, CanTouch s (Folio.downlink sd) → r.payload.length ≤ 237 →
    ((s.gate sd).target r.addr = none → ∃ t, exec (.downlink dt sd ref r) s = .next t ∧
      Refused dt s t (Folio.downlink sd) ref .invalidModule 0) ∧
    (∀ i, (s.gate sd).target r.addr = some i →
      let m := (s.gate sd).mod i
      let frameOk := (r.cls = .prompt ∨ r.cls = .payload) ∧ r.payload.length ≤ 200
      let allowed := s.exch.config.admissionMode.get sd = .openAll ∨
        ((s.gate sd).admission.down.get (m.scope.getD .other)).allows r.cls = true
      (¬ frameOk → ∃ t, exec (.downlink dt sd ref r) s = .next t ∧
        Refused dt s t (Folio.downlink sd) ref .invalidFrame 0) ∧
      (frameOk → (s.gate sd).state ≠ .opened → ∃ t, exec (.downlink dt sd ref r) s = .next t ∧
        Refused dt s t (Folio.downlink sd) ref .gateClosed 0) ∧
      (frameOk → (s.gate sd).state = .opened → (m.status ≠ some .active ∨ ¬ allowed) →
        ∃ t, exec (.downlink dt sd ref r) s = .next t ∧ Refused dt s t (Folio.downlink sd) ref .notAdmitted 0) ∧
      (frameOk → (s.gate sd).state = .opened → m.status = some .active → allowed →
        ∃ t, exec (.downlink dt sd ref r) s = .next t ∧ Lands dt [.gates, .exch] s t ∧
          t.gate sd = { (s.gate sd).setMod i { m with downToggle := !m.downToggle } with
            downlink := some ⟨i, r.cls, r.payload, !m.downToggle, 0, 0⟩ } ∧
          t.gate sd.other = s.gate sd.other ∧ Held t (Folio.downlink sd) ref))

/-- The answer to a downlink: ACK hands its folio back with DONE; BUSY is counted, and the tenth hands it back with
MODULE_BUSY; HELLO hands it back with NO_ANSWER and is then judged, and a card module that it shuts trips the gate;
any other good answer, NOTHING or an uplink frame, is taken as if it answered a POLL, and the downlink is sent again,
or, sent once more than DOWNLINK_RETRIES, handed back with NO_ANSWER; TAMPER is taken first and trips the gate, which
hands it back with GATE_CLOSED (R115 to R118, R122, R130). The sale of a side whose gate leaves OPEN is left out. The
model's choice: a HELLO's tag has its high byte first, and a HELLO of another length than three bytes is open
(notes/assumptions/17.md, notes/assumptions/7.md). -/
def Obligations.DownlinksAreAnswered : Prop :=
  ∀ dt sd (s : State) a d f, (s.gate sd).power = true → (s.gate sd).addressing = some a → a.isDownlink = true →
    (s.gate sd).receiver ≠ .resync → frameGood f = true → (s.gate sd).state = .opened → (s.gate sd).downlink = some d →
    d.mod = a.mod → ((s.gate sd).mod a.mod).status = some .active → s.mode.stage ≠ some .readers →
    let folio := Folio.downlink sd
    let ref := (s.header folio).ref
    let detail := Config.downlinkDetail d.sends none
    (f.control.cls = .ack → ∃ t, exec (.answerFrame dt sd f) s = .next t ∧ Lands dt [.gates, .exch] s t ∧
      (t.gate sd).downlink = none ∧ (t.gate sd).mod a.mod = { (s.gate sd).mod a.mod with missed := 0 } ∧
      t.gate sd.other = s.gate sd.other ∧ Answered s t folio ref .done detail) ∧
    (f.control.cls = .busy →
      (d.busies < 9 → ∃ t, exec (.answerFrame dt sd f) s = .next t ∧ Lands dt [.gates] s t ∧
        (t.gate sd).downlink = some { d with busies := d.busies + 1 } ∧ t.gate sd.other = s.gate sd.other) ∧
      (9 ≤ d.busies → ∃ t, exec (.answerFrame dt sd f) s = .next t ∧ Lands dt [.gates, .exch] s t ∧
        (t.gate sd).downlink = none ∧ t.gate sd.other = s.gate sd.other ∧
        Answered s t folio ref .moduleBusy (Config.downlinkDetail d.sends (some (d.busies + 1))))) ∧
    (f.control.cls = .nothing →
      (d.sends ≤ s.exch.config.downlinkRetries → ∃ t, exec (.answerFrame dt sd f) s = .next t ∧
        Lands dt [.gates] s t ∧ (t.gate sd).downlink = some d ∧ t.gate sd.other = s.gate sd.other) ∧
      (s.exch.config.downlinkRetries < d.sends → ∃ t, exec (.answerFrame dt sd f) s = .next t ∧
        Lands dt [.gates, .exch] s t ∧ (t.gate sd).downlink = none ∧ t.gate sd.other = s.gate sd.other ∧
        Answered s t folio ref .noAnswer detail)) ∧
    (f.control.cls.isUplink = true →
      ∃ t u, exec (.answerFrame dt sd f) s = .next t ∧ exec (.answerFrame dt sd f)
          (s.setGate sd { s.gate sd with addressing := some { a with isDownlink := false } }) = .next u ∧
        Lands dt [.gates, .exch] s t ∧ (t.gate sd).state = .opened ∧ t.gate sd.other = s.gate sd.other ∧
        (t.gate sd).mod a.mod = (u.gate sd).mod a.mod ∧ (t.gate sd).queue = (u.gate sd).queue ∧
        t.exch.ring = u.exch.ring ∧ t.exch.mem = u.exch.mem ∧ (∀ g, g ≠ folio → t.header g = u.header g) ∧
        (d.sends ≤ s.exch.config.downlinkRetries → (t.gate sd).downlink = some d ∧ t.header folio = s.header folio) ∧
        (s.exch.config.downlinkRetries < d.sends → (t.gate sd).downlink = none ∧
          t.header folio = { s.header folio with
            holder := .host, result := .noAnswer, count := ((s.header folio).count + 1) % 65536, detail := detail
            stamp := s.mode.clock.toNat } ∧
          t.exch.fresh.getLsbD folio.val = true)) ∧
    (f.control.cls = .hello →
      let tag := helloTag f.payload
      let shut := s.exch.config.admissionMode.get sd = .check ∧ scopeOf (s.gate sd).admission.keys tag = .other
      (¬ (shut ∧ a.mod = .card) → ∃ t, exec (.answerFrame dt sd f) s = .next t ∧ Lands dt [.gates, .exch] s t ∧
        (t.gate sd).state = .opened ∧ (t.gate sd).downlink = none ∧ ((t.gate sd).mod a.mod).tag = some tag ∧
        ((shut ∧ ((t.gate sd).mod a.mod).status = some .shut) ∨
          (¬ shut ∧ ((t.gate sd).mod a.mod).status = some .active)) ∧
        t.gate sd.other = s.gate sd.other ∧ t.exch.nextEvent = succ32 s.exch.nextEvent ∧
        Answered s t folio ref .noAnswer detail) ∧
      (shut → a.mod = .card → (s.side sd).sale = none → ∃ t, exec (.answerFrame dt sd f) s = .next t ∧
        Lands dt [.gates, .display, .exch] s t ∧ (t.gate sd).state = .tripped ∧
        (t.gate sd).trip = some .notAdmitted ∧ (t.gate sd).power = false ∧ (t.gate sd).downlink = none ∧
        (t.gate sd).card.status = some .shut ∧ t.gate sd.other = s.gate sd.other ∧
        t.exch.nextEvent = succ32 (succ32 s.exch.nextEvent) ∧ Answered s t folio ref .noAnswer detail)) ∧
    (f.control.cls = .tamper → (s.side sd).sale = none → ∃ t, exec (.answerFrame dt sd f) s = .next t ∧
      Lands dt [.gates, .display, .exch] s t ∧ (t.gate sd).state = .tripped ∧ (t.gate sd).trip = some .tamper ∧
      (t.gate sd).power = false ∧ (t.gate sd).downlink = none ∧ t.gate sd.other = s.gate sd.other ∧
      t.exch.nextEvent = succ32 (succ32 s.exch.nextEvent) ∧
      NewestEvent t s.mode.clock .tamper sd.number (.num a.mod.addr) (.gateState .opened) ∧
      Answered s t folio ref .gateClosed detail)

/-! ### Records and settings -/

/-- A returned REPORT's record leaves the part, and the head of the unreported list, if any, goes into the folio and
is handed over; a returned UPLINK takes the head of the uplink queue in the same way (R128, R136, R137). The side's
other UPLINK folio held by the part as well is left out. The model's choice: a result detail of 0 where the rule
names none (notes/assumptions/12.md). -/
def Obligations.ReturnedFoliosTakeTheNext : Prop :=
  ∀ dt sd s,
    (CanTouch s (Folio.report sd) → (s.header (Folio.report sd)).len.toNat ≤ 240 →
      ((s.records sd).unreported = [] → ∃ t, exec (.reportReturn dt sd) s = .next t ∧ Lands dt [.store, .exch] s t ∧
        t.records sd = { s.records sd with inFolio := none } ∧ t.records sd.other = s.records sd.other ∧
        (t.header (Folio.report sd)).holder = .part) ∧
      (∀ r rest, (s.records sd).unreported = r :: rest → s.mode.mode ≠ .holdup →
        ∃ t, exec (.reportReturn dt sd) s = .next t ∧ Lands dt [.store, .exch] s t ∧
          t.records sd = { s.records sd with unreported := rest, inFolio := some r } ∧
          t.records sd.other = s.records sd.other ∧ Answered s t (Folio.report sd) r.hostRef .done 0)) ∧
    (∀ i, CanTouch s (Folio.uplink sd i) → (s.header (Folio.uplink sd i)).len.toNat ≤ 240 →
      ((s.gate sd).queue = [] → ∃ t, exec (.uplinkReturn dt sd i) s = .next t ∧ Lands dt [.exch] s t ∧
        (t.header (Folio.uplink sd i)).holder = .part) ∧
      (∀ e rest, (s.gate sd).queue = e :: rest →
        (∀ j, j ≠ i → (s.header (Folio.uplink sd j)).holder = .host) →
        ∃ t, exec (.uplinkReturn dt sd i) s = .next t ∧ Lands dt [.gates, .exch] s t ∧
          t.gate sd = { s.gate sd with queue := rest } ∧ t.gate sd.other = s.gate sd.other ∧
          Answered s t (Folio.uplink sd i) 0 .done 0))

/-- WATCH: the first entry that fails gives the refusal, and no watch changes; otherwise ARM sets a watch's object
and threshold and arms it, DISARM disarms it, and LEAVE leaves it. A counted cycle that takes its meter's total from
below an armed watch's threshold to it or above disarms that watch and no other, and one that fires raises WATCH with
its number, the total and the total's new value (R9, R142, R143). The watches on a grade's totals are
TimersCompleteTheSale's. The model's choices: a result detail of 0 where the rule names none
(notes/assumptions/12.md), the difference of two times is taken modulo 2^32 (notes/assumptions/31.md), and a change
count is raised by 2 (notes/assumptions/16.md). -/
def Obligations.WatchesAreSetAndFire : Prop :=
  (∀ dt ref (r : Vector WatchReq 4) s, CanTouch s Folio.watch →
    (∀ i e, s.firstBadWatch r = some (i, e) → ∃ t, exec (.watchFolio dt ref r) s = .next t ∧
      Refused dt s t Folio.watch ref e (detailNum (i.val + 1))) ∧
    (s.firstBadWatch r = none → ∃ t, exec (.watchFolio dt ref r) s = .next t ∧ Lands dt [.store, .exch] s t ∧
      t.store = { s.store with watches := t.store.watches } ∧ Answered s t Folio.watch ref .done 0 ∧
      ∀ i : Fin 4,
        ((r.get i).action = 0 → t.store.watches.get i = s.store.watches.get i) ∧
        (∀ o, (r.get i).action = 1 → totalOf (r.get i).object = some o →
          t.store.watches.get i = ⟨o, (r.get i).threshold, true⟩) ∧
        ((r.get i).action = 2 → t.store.watches.get i = { s.store.watches.get i with armed := false }))) ∧
  ∀ dt m ph s, CompletesForward s dt m ph → (s.chan m).back = 0 → KeepsSpeed s dt m →
    let old := PerMeter.get s.store.totals.meter m
    let new := satAdd64 old (s.chan m).cf
    ∃ t, exec (.pulserEdge dt m ph) s = .next t ∧
      Lands dt [.pfe, .sides, .display, .store, .journal, .exch, .pins] s t ∧
      (∀ i, ((s.store.watches.get i).fires (.meter m) old new →
          t.store.watches.get i = { s.store.watches.get i with armed := false }) ∧
        (¬ (s.store.watches.get i).fires (.meter m) old new → t.store.watches.get i = s.store.watches.get i)) ∧
      ∀ i, (s.store.watches.get i).fires (.meter m) old new →
        (∀ j, j ≠ i → ¬ (s.store.watches.get j).fires (.meter m) old new) →
        ((s.chan m).attached = none → (s.pfe.stray.get m.side).reported = true ∧ s.pfe.nightFlag = true) →
        Raised s t .watch (i.val + 1) (.total (.meter m)) (.num (new % 2 ^ 32))

/-- ADMISSION and SCHEDULE replace their settings whole, SCHEDULE asking for an update of STATUS, and a schedule with
a second out of range, a close below its open or neither form being refused; CONFIG's accepted values replace the
previous ones, each inside its range (R126, R163, R184). The model's choices: CONFIG's detail names the field by its
place in the layout, a body shorter than the layout is taken with the bytes that stand in the folio beyond its end,
and a SCHEDULE of neither form is refused with no weekday in its detail (notes/assumptions/33.md), and a result detail
of 0 where the rule names none (notes/assumptions/12.md). -/
def Obligations.SettingsAreReplaced : Prop :=
  ∀ dt ref s,
    (∀ r : AdmissionReq, CanTouch s Folio.admission → ∃ t, exec (.admission dt ref r) s = .next t ∧
      Lands dt [.gates, .store, .journal, .exch] s t ∧
      (∀ sd, t.gate sd = { s.gate sd with admission := r.get sd }) ∧ Answered s t Folio.admission ref .done 0) ∧
    (∀ r, CanTouch s Folio.schedule →
      (∀ days i, r = .entries days → firstBadDay days = some i → ∃ t, exec (.schedule dt ref r) s = .next t ∧
        Refused dt s t Folio.schedule ref .invalidSchedule (detailNum i.val)) ∧
      (∀ x, (r = .alwaysOpen ∧ x = .alwaysOpen) ∨
          (∃ days, r = .entries days ∧ firstBadDay days = none ∧ x = .entries days) →
        ∃ t, exec (.schedule dt ref r) s = .next t ∧ Lands dt [.store, .journal, .mode, .exch] s t ∧
          t.mode = { s.mode with schedule := x } ∧ t.exch.statusAsked = true ∧
          Answered s t Folio.schedule ref .done 0) ∧
      (r = .other → ∃ t, exec (.schedule dt ref r) s = .next t ∧
        Refused dt s t Folio.schedule ref .invalidSchedule 0)) ∧
    (∀ body : List Byte, CanTouch s Folio.config → Memory.wf s.exch.mem = true → body.length ≤ 240 →
      let whole := body ++ (s.bodyBytes Folio.config).drop body.length
      ∃ t, exec (.config dt ref body) s = .next t ∧ Lands dt [.store, .journal, .exch] s t ∧
        t.exch.config.inRange ∧ t.exch.config = Settings.ofBytes whole ∧
        Answered s t Folio.config ref .done (configDetail whole) ∧
        (46 ≤ body.length → t.exch.config = Settings.ofBytes body))

/-! ### The journal -/

/-- A periodic request begins a write in the next slot, with the next sequence number and the state as it stands, or
waits for the write in flight; a write that reads back VALID makes its slot the newest and records what it holds; one
that does not raises JOURNAL_SLOT_BAD and is repeated in another slot (R135, R149, R150). The journal works as usual:
the writes of a recovery, a host reset and a warning are JournalPhasesEnd's, and the closing snapshot's
ClosingReachesClosed's. The model's choices: an expiry during a write
leaves the periodic timer as it is (notes/assumptions/32.md), and the bytes of a slot and the order of its CRC's bits
and bytes (notes/assumptions/23.md). -/
def Obligations.JournalWrites : Prop :=
  ∀ dt s, s.journal.phase = .normal →
    (∀ d, s.journal.periodicT = some d → d ≤ s.now + dt → s.journal.empty = false →
      (s.journal.inFlight = none → ∃ t w, exec (.periodicTimer dt) s = .next t ∧ Lands dt [.store, .journal] s t ∧
        t.journal.inFlight = some w ∧ w.slot = s.journal.next ∧ w.seq = s.journal.seq ∧ w.snap = s.collect ∧
        t.journal.seq = succ32 s.journal.seq ∧ t.journal.request = false ∧ t.journal.periodicSum = 0 ∧
        t.journal.periodicT = some (s.now + dt + seconds 60) ∧ t.journal.slots = s.journal.slots ∧
        t.store.totals = s.store.totals ∧ t.store.counter = s.store.counter ∧
        ∀ sd, (t.records sd).pending = (s.records sd).pending.map (fun e => { e with marked := true })) ∧
      (s.journal.inFlight.isSome = true → exec (.periodicTimer dt) s = .next
        { s.elapse dt with journal := { s.journal with request := true } })) ∧
    (∀ w, s.journal.inFlight = some w → s.journal.request = false → s.journal.calWait = .idle →
      s.journal.initWait = .idle → s.journal.closeWait = .idle →
      (∃ t, exec (.journalWriteComplete dt []) s = .next t ∧ Lands dt [.store, .journal, .exch] s t ∧
        t.journal = { s.journal with
          slots := s.journal.slots.set w.slot.val (Slot.written w.seq w.snap), newest := some w.slot
          next := slotAfter w.slot, inFlight := none, empty := false } ∧
        t.store.totals = s.store.totals ∧
        ∀ sd, (t.records sd).pending = (s.records sd).pending.filter (fun e => !e.marked) ∧
          (t.records sd).inFolio.toList ++ (t.records sd).unreported =
            (s.records sd).inFolio.toList ++ (s.records sd).unreported ++
              ((s.records sd).pending.filter (fun e => e.marked)).map
                fun e => { e.record with slot := some w.slot }) ∧
      (∀ damage, (w.readBack damage).kind ≠ .valid →
        ∃ t w', exec (.journalWriteComplete dt damage) s = .next t ∧ Lands dt [.store, .journal, .exch] s t ∧
          t.journal.slots = s.journal.slots.set w.slot.val (w.readBack damage) ∧ t.journal.newest = s.journal.newest ∧
          t.journal.inFlight = some w' ∧ w'.slot = slotAfterFailed w.slot s.journal.newest ∧
          w'.seq = s.journal.seq ∧ t.exch.nextEvent = succ32 s.exch.nextEvent))

/-- The end of a write outside the journal's usual work. The fresh snapshot's, once VALID, sets READY to 1 and takes the
mode to CLOSED, or on to OPENING where the schedule holds the dispenser open, with the inputs read afresh; the reset
snapshot's is followed by recovery from the newest slot, with the clock and the sale-number counter as they are; either
that fails is repeated in another slot. A write a host reset or a warning waited for is followed by the reset or the
final snapshot in the next slot. A final snapshot's end or failure, or that of a write only waited for, is reported,
and nothing is written again (R145, R150, R151, R153, R155, R165). With JOURNAL_EMPTY still set after a failure, and a
cold start that is due, they are left out. The model's choices: JOURNAL_EMPTY is judged after the write in flight
(notes/assumptions/47.md), and the bytes of a slot and the order of its CRC's bits and bytes
(notes/assumptions/23.md). -/
def Obligations.JournalPhasesEnd : Prop :=
  (∀ dt damage s w, s.journal.inFlight = some w →
    let j := s.journal
    let good := (w.readBack damage).kind = .valid
    let slots := j.slots.set w.slot.val (w.readBack damage)
    let stays := fun (t : State) => t.now = s.now + dt ∧ t.mode.mode = s.mode.mode ∧
      t.exch.ready = s.exch.ready ∧ t.journal.slots = slots
    (good → j.phase = .fresh → ∃ t, exec (.journalWriteComplete dt damage) s = .next t ∧ t.now = s.now + dt ∧
      t.exch.ready = true ∧ t.journal.phase = .normal ∧ t.journal.slots = slots ∧ t.journal.newest = some w.slot ∧
      (s.mode.clockUnset = true ∨ s.mode.openNow = false → t.mode.mode = .closed ∧ t.mode.stage = none) ∧
      (s.mode.clockUnset = false → s.mode.openNow = true → t.mode.mode = .opening ∧ t.mode.stage = some .wake) ∧
      t.journal.switchClosed = s.pins.metrologyClosed ∧
      (∀ sd, (t.side sd).nozzles = s.pins.nozzles.get sd) ∧ t.exch.fresh.getLsbD Folio.priceView.val = true ∧
      t.exch.fresh.getLsbD Folio.totals.val = true ∧ t.exch.fresh.getLsbD Folio.status.val = true) ∧
    (∀ i seq snap, good → j.phase = .resetWriting → newestSlot slots = some (i, seq, snap) →
      ∃ t w', exec (.journalWriteComplete dt damage) s = .next t ∧ stays t ∧ t.journal.phase = .fresh ∧
        t.journal.newest = some i ∧ t.journal.inFlight = some w' ∧ w'.seq = succ32 seq ∧
        t.exch.config = snap.config ∧ t.prices.active = snap.active ∧ t.prices.grades = snap.grades ∧
        t.prices.maps = snap.maps ∧ t.mode.schedule = snap.schedule ∧ t.mode.clock = s.mode.clock ∧
        t.mode.clockUnset = s.mode.clockUnset ∧ t.journal.master = snap.master ∧
        t.store.counter = snap.counter ∧
        ∀ sd, (t.gate sd).state = if (snap.trips.get sd).isSome then .tripped else .off) ∧
    (¬ good → (j.phase = .fresh ∨ j.phase = .resetWriting) →
      ∃ t w', exec (.journalWriteComplete dt damage) s = .next t ∧ stays t ∧ t.journal.phase = j.phase ∧
        t.journal.newest = j.newest ∧ t.journal.inFlight = some w' ∧
        w'.slot = slotAfterFailed w.slot j.newest ∧ w'.seq = j.seq ∧
        t.exch.nextEvent = succ32 s.exch.nextEvent) ∧
    (∀ next, good ∨ j.empty = false →
        ((j.phase = .resetWait ∧ next = .resetWriting) ∨ (j.phase = .finalWait ∧ next = .finalWriting)) →
      ∃ t w', exec (.journalWriteComplete dt damage) s = .next t ∧ stays t ∧ t.journal.phase = next ∧
        t.journal.inFlight = some w' ∧ w'.seq = j.seq ∧
        (good → t.journal.newest = some w.slot ∧ w'.slot = slotAfter w.slot) ∧
        (¬ good → t.journal.newest = j.newest ∧ w'.slot = slotAfterFailed w.slot j.newest)) ∧
    (j.phase = .finalWriting ∨ j.phase = .coldWait → (s.mode.mode ≠ .holdup ∨ s.mode.cleared = false) →
      ∃ t, exec (.journalWriteComplete dt damage) s = .next t ∧ stays t ∧ t.journal.phase = .done ∧
        t.journal.inFlight = none ∧ (good → t.journal.newest = some w.slot) ∧
        (¬ good → t.journal.newest = j.newest ∧ t.exch.nextEvent = succ32 s.exch.nextEvent))) ∧
  ∀ dt damage s, s.journal.inFlight = none →
    exec (.journalWriteComplete dt damage) s = .next (s.elapse dt) ∧
      (s.journal.phase = .done → exec (.periodicTimer dt) s = .next (s.elapse dt))

/-- A change of the metrology switch is taken outside HOLDUP; JOURNAL_INIT is refused by the switch, the mode and an
UNSET factor, in that order, and otherwise zeroes the totals, advances the metrology counter and begins its write,
its folio staying part-held (R156, R158). With a write in flight the JOURNAL_INIT waits for it to end. The model's
choices: a level reported again is no change (notes/assumptions/34.md), the metrology counter passes from 2^32 - 1 to 1
(notes/assumptions/39.md), and a result detail of 0 where the rule names none (notes/assumptions/12.md). -/
def Obligations.SwitchAndJournalInit : Prop :=
  ∀ dt ref s closed,
    (s.mode.mode ≠ .holdup → s.journal.switchClosed ≠ closed →
      ∃ t, exec (.metrologySwitchChange dt closed) s = .next t ∧ Lands dt [.display, .journal, .exch, .pins] s t ∧
        t.journal = { s.journal with switchClosed := closed } ∧
        t.pins = { s.pins with metrologyClosed := closed }) ∧
    (s.mode.mode = .holdup ∨ s.journal.switchClosed = closed → exec (.metrologySwitchChange dt closed) s =
      .next { s.elapse dt with pins := { s.pins with metrologyClosed := closed } }) ∧
    (CanTouch s Folio.siteOrder →
      (s.journal.switchClosed = false → ∃ t, exec (.journalInit dt ref) s = .next t ∧
        Refused dt s t Folio.siteOrder ref .metrologySwitch 0) ∧
      (s.journal.switchClosed = true → s.mode.mode ≠ .closed → ∃ t, exec (.journalInit dt ref) s = .next t ∧
        Refused dt s t Folio.siteOrder ref .mode 0) ∧
      (∀ m, s.journal.switchClosed = true → s.mode.mode = .closed → firstUnset s.journal.master = some m →
        ∃ t, exec (.journalInit dt ref) s = .next t ∧
          Refused dt s t Folio.siteOrder ref .outOfStep (detailNum m.number)) ∧
      (s.journal.switchClosed = true → s.mode.mode = .closed → firstUnset s.journal.master = none →
        s.journal.inFlight = none → ∃ t w, exec (.journalInit dt ref) s = .next t ∧
          Lands dt [.store, .journal, .exch] s t ∧ t.store.totals = Totals.zero ∧
          t.store.counter = s.store.counter ∧ t.journal.metrology = advanceMetrology s.journal.metrology ∧
          t.journal.master = s.journal.master ∧ t.journal.inFlight = some w ∧ w.snap.totals = Totals.zero ∧
          t.journal.initWait = .inWrite ∧ Held t Folio.siteOrder ref ∧
          t.exch.nextEvent = succ32 s.exch.nextEvent) ∧
      (s.journal.switchClosed = true → s.mode.mode = .closed → firstUnset s.journal.master = none →
        s.journal.inFlight.isSome = true → ∃ t, exec (.journalInit dt ref) s = .next t ∧
          Lands dt [.store, .journal, .exch] s t ∧ t.store = { s.store with totals := Totals.zero } ∧
          t.journal = { s.journal with
            metrology := advanceMetrology s.journal.metrology, initWait := .toBegin } ∧
          Held t Folio.siteOrder ref ∧ t.exch.nextEvent = succ32 s.exch.nextEvent))

/-- CALIBRATION is refused with the switch open, and by its first failing entry, and a folio of LEAVE alone changes
nothing; otherwise each SET gives its meter a new master factor, which reaches an unattached channel at once and an
attached one when it is detached, and the folio stays part-held (R8, R157). The model's choices: the order of the
entries' checks (notes/assumptions/15.md), and a result detail of 0 where the rule names none
(notes/assumptions/12.md). -/
def Obligations.CalibrationIsApplied : Prop :=
  ∀ dt ref r s, CanTouch s Folio.calibration →
    (s.journal.switchClosed = false → ∃ t, exec (.calibration dt ref r) s = .next t ∧
      Refused dt s t Folio.calibration ref .metrologySwitch 0) ∧
    (∀ m e, s.journal.switchClosed = true → s.firstBadCal r = some (m, e) →
      ∃ t, exec (.calibration dt ref r) s = .next t ∧ Refused dt s t Folio.calibration ref e (detailNum m.number)) ∧
    (s.journal.switchClosed = true → (∀ m, PerMeter.get r m = .leave) →
      ∃ t, exec (.calibration dt ref r) s = .next t ∧ Refused dt s t Folio.calibration ref .done 0) ∧
    (s.journal.switchClosed = true → s.firstBadCal r = none → (∃ m cf, PerMeter.get r m = .set cf) →
      ∃ t, exec (.calibration dt ref r) s = .next t ∧ Lands dt [.pfe, .store, .journal, .exch] s t ∧
        Held t Folio.calibration ref ∧ t.store.totals = s.store.totals ∧
        ∀ m, match PerMeter.get r m with
          | .leave => PerMeter.get t.journal.master m = PerMeter.get s.journal.master m ∧ t.chan m = s.chan m
          | .set cf => PerMeter.get t.journal.master m = some cf ∧
            t.chan m = if (s.chan m).attached = none then { s.chan m with cf := cf }
              else { s.chan m with cfAside := some cf })

/-- Power-on with no VALID slot leaves the part CLOSED and READY at its defaults; with one it recovers the newest
slot: the prices, maps and settings as the slot holds them, the sale-number counter advanced by 16 for it and for each
slot passed over, and the fresh snapshot's write in flight, the mode still COLD. With the warning input asserted the
mode goes to HOLDUP, the store as it was found (R145, R152 to R154, R175, R176, R186). The model's choices: what
stands before recovery has ended and the counter's place in it, and the warning found at power-on
(notes/assumptions/25.md), the code of a blank in a grade's text (notes/assumptions/49.md), and what a write cut short
and a decay leave in the store (notes/assumptions/23.md). -/
def Obligations.PowerOnRecovers : Prop :=
  ∀ dt pins taken decay s,
    let slots := decaySlots (slotsAfterCut s.journal taken) decay
    (pins.warning = false → newestSlot slots = none → ∃ t, exec (.powerOn dt pins taken decay) s = .next t ∧
      t.now = s.now + dt ∧ t.pins = pins ∧ t.mode.mode = .closed ∧ t.mode.stage = none ∧
      t.mode.clockUnset = true ∧ t.exch.ready = true ∧ t.exch.config = Settings.default ∧ t.exch.mask = 0 ∧
      (∀ a, Memory.read t.exch.mem a = 0) ∧
      t.store = SaleStore.reset ∧ t.prices = PriceTable.reset ∧ t.journal.slots = slots ∧ t.journal.empty = true ∧
      (∀ sd, (t.side sd).state = .idle ∧ (t.side sd).nozzles = pins.nozzles.get sd ∧ (t.disp sd).state = .dark) ∧
      (∀ p, t.motor p = { Motor.reset with lastStop := t.now, restUntil := t.now + seconds 10 })) ∧
    (∀ i seq snap, pins.warning = false → newestSlot slots = some (i, seq, snap) →
      ∃ t w, exec (.powerOn dt pins taken decay) s = .next t ∧ t.now = s.now + dt ∧
      t.pins = pins ∧ t.mode.mode = .cold ∧ t.exch.ready = false ∧ t.exch.config = snap.config ∧
      t.prices.active = snap.active ∧ t.prices.grades = snap.grades ∧
      t.prices.maps = snap.maps ∧ t.prices.staged = snap.staged ∧ t.mode.schedule = snap.schedule ∧
      t.mode.clock = snap.clock ∧ t.mode.clockUnset = true ∧ t.journal.master = snap.master ∧
      t.journal.newest = some i ∧ t.journal.inFlight = some w ∧ w.seq = succ32 seq ∧
      t.store.counter = advance32 (16 * (1 + (passedOver slots 15 i).length)) snap.counter ∧
      (∀ sd, (t.side sd).state = .idle ∧ (t.side sd).sale = none) ∧
      (∀ sd, (t.gate sd).state = if (snap.trips.get sd).isSome then .tripped else .off)) ∧
    (pins.warning = true → ∃ t, exec (.powerOn dt pins taken decay) s = .next t ∧ t.now = s.now + dt ∧ t.pins = pins ∧
      t.mode.mode = .holdup ∧ t.mode.warning = true ∧ t.exch.ready = false ∧ t.journal.slots = slots ∧
      t.journal.inFlight = none ∧ t.journal.phase = .done ∧ (∀ a, Memory.read t.exch.mem a = 0) ∧
      (∀ sd, (t.side sd).state = .idle ∧ (t.side sd).sale = none) ∧
      ∀ p, (t.motor p).state = .stopped ∧ (t.motor p).contactor = false)

/-- A host reset taken with a write in flight brings COLD and READY 0 with every side IDLE and its valves closed,
every contactor open and every domain off, and waits for the write; with READY 0 or in HOLDUP it is not taken (R131,
R155). With no write in flight, whose reset snapshot or recovery follows at once, it is left out. The model's choice: a
gate that was TRIPPED stays so until recovery, while the write is in flight, and any other is OFF at once
(notes/assumptions/26.md). -/
def Obligations.HostResetStopsThePart : Prop :=
  ∀ dt s,
    (∀ w, s.exch.ready = true → s.mode.mode ≠ .holdup → s.journal.inFlight = some w →
      ∃ t, exec (.hostReset dt) s = .next t ∧ t.now = s.now + dt ∧ t.mode.mode = .cold ∧ t.mode.stage = none ∧
        t.mode.clock = s.mode.clock ∧ t.exch.ready = false ∧ t.pins = s.pins ∧
        (∀ sd, (t.side sd).state = .idle ∧ (t.side sd).sale = none ∧ (t.side sd).nozzles = (s.side sd).nozzles ∧
          ∀ p, (t.side sd).valves.get p = ⟨false, false⟩) ∧
        (∀ p, (t.motor p).state = .stopped ∧ (t.motor p).contactor = false ∧ (t.motor p).lastStop = t.now) ∧
        (∀ sd, (t.gate sd).power = false ∧ (t.gate sd).downlink = none ∧
          (t.gate sd).state = if (s.gate sd).state = .tripped ∧ (s.gate sd).trip ≠ none then .tripped else .off) ∧
        t.journal.inFlight = some w ∧ t.journal.phase = .resetWait) ∧
    (s.exch.ready = false ∨ s.mode.mode = .holdup → exec (.hostReset dt) s = .next (s.elapse dt))

/-- The power-fail warning brings HOLDUP and READY 0, with every side IDLE and its valves closed, every contactor
open, the supply and the heater off; it clears once its input has been inactive for 1 s, and the cold start follows
once the journal has reported, SCRATCH kept; with no write in flight the final snapshot begins at once and holds the
records as recorded in its slot, none of them pending (R88, R106, R146, R151, R175, R186). A cold start that finds a
VALID slot is left out. The model's choices: the final snapshot holds its records as unreported
(notes/assumptions/41.md), a warning in HOLDUP takes back a clear already reached (notes/assumptions/40.md), the
warning input reads clear as soon as it goes inactive (notes/assumptions/53.md), and a level reported again acts as
its change (notes/assumptions/34.md). -/
def Obligations.WarningBringsHoldup : Prop :=
  ∀ dt s,
    (∀ w, s.mode.mode ≠ .holdup → s.journal.inFlight = some w → ∃ t, exec (.powerWarning dt) s = .next t ∧
      t.now = s.now + dt ∧ t.mode.mode = .holdup ∧ t.mode.stage = none ∧ t.mode.warning = true ∧
      t.exch.ready = false ∧ t.pins = { s.pins with warning := true } ∧
      (∀ sd, (t.side sd).state = .idle ∧ (t.side sd).sale = none ∧ ∀ p, (t.side sd).valves.get p = ⟨false, false⟩) ∧
      (∀ p, (t.motor p).state = .stopped ∧ (t.motor p).contactor = false ∧ (t.motor p).users = Users.none) ∧
      t.motors.fifo = [] ∧ t.display.supply = false ∧ t.display.heater = false ∧
      (∀ sd, (t.disp sd).state = .dark ∧ (t.gate sd).state ≠ .opened) ∧ t.journal.inFlight = some w) ∧
    (s.mode.mode ≠ .holdup → s.journal.phase = .normal → s.journal.inFlight = none → s.journal.empty = false →
      ∃ t w, exec (.powerWarning dt) s = .next t ∧ t.now = s.now + dt ∧ t.mode.mode = .holdup ∧ t.exch.ready = false ∧
        t.journal.phase = .finalWriting ∧ t.journal.inFlight = some w ∧ w.slot = s.journal.next ∧
        w.seq = s.journal.seq ∧ ∀ sd, (t.side sd).sale = none ∧ w.snap.sales.get sd = none ∧ w.snap.pending.get sd = [] ∧
          w.snap.unreported.get sd = (s.records sd).inFolio.toList ++ (s.records sd).unreported ++
            (t.records sd).pending.map fun e => { e.record with slot := some s.journal.next }) ∧
    (s.mode.mode = .holdup →
      exec (.powerWarning dt) s = .next { s.elapse dt with
        pins := { s.pins with warning := true }
        mode := { s.mode with warning := true, clearT := none, cleared := false } } ∧
      (s.mode.warning = true → exec (.warningInputInactive dt) s = .next { s.elapse dt with
        pins := { s.pins with warning := false }
        mode := { s.mode with warning := false, clearT := some (s.now + dt + seconds 1) } }) ∧
      (∀ d, s.mode.clearT = some d → d ≤ s.now + dt →
        (s.journal.phase ≠ .done → exec (.warningCleared dt) s = .next { s.elapse dt with
          mode := { s.mode with clearT := none, cleared := true } }) ∧
        (s.journal.phase = .done → newestSlot s.journal.slots = none → ∃ t, exec (.warningCleared dt) s = .next t ∧
          t.now = s.now + dt ∧ t.mode.mode = .closed ∧ t.exch.ready = true ∧ t.pins = s.pins ∧
          t.journal.slots = s.journal.slots ∧
          (Memory.wf s.exch.mem = true → ∀ a, Memory.read t.exch.mem a =
            if 6912 ≤ a then Memory.read s.exch.mem a else 0)))) ∧
    (s.mode.mode ≠ .holdup → exec (.warningInputInactive dt) s =
        .next { s.elapse dt with pins := { s.pins with warning := false } } ∧
      exec (.warningCleared dt) s = .next (s.elapse dt))

/-! ### Modes -/

/-- The clock ticks by one second, after Sunday's last second to Monday 0; SET_CLOCK refuses a clock out of range,
and otherwise gives the clock its value and clears CLOCK_UNSET; an opening edge at a new value opens a CLOSED
dispenser, a closing edge begins the closing of an OPEN one and aborts an opening, and a value that is no edge, or an
edge in another mode, changes the clock alone (R161, R162, R164). A bank staged for the tick's moment, and a closing
edge with a sale in AUTHORIZED or with no sale, are left out. The model's choice: a result detail of 0 where the rule
names none (notes/assumptions/12.md). -/
def Obligations.ClockMoves : Prop :=
  ∀ dt ref weekday second s,
    (s.mode.clockUnset = true ∨ (s.prices.staged = none ∧ s.mode.schedule = .alwaysOpen) →
      exec (.clockTick dt) s = .next { s.elapse dt with mode := { s.mode with clock := s.mode.clock.tick } }) ∧
    (∀ days, s.mode.clockUnset = false → s.prices.staged = none → s.mode.schedule = .entries days →
      (daySchedule days s.mode.clock.tick.weekday).1 < (daySchedule days s.mode.clock.tick.weekday).2 →
      s.mode.clock.tick.second = (daySchedule days s.mode.clock.tick.weekday).1 → s.mode.mode = .closed →
      ∃ t, exec (.clockTick dt) s = .next t ∧ Lands dt [.display, .mode, .exch] s t ∧
        t.mode.clock = s.mode.clock.tick ∧ t.mode.mode = .opening ∧ t.mode.stage = some .wake ∧
        t.mode.wakeT = some (s.now + dt + seconds 2) ∧ t.display.supply = true ∧
        t.exch.nextEvent = succ32 s.exch.nextEvent) ∧
    (∀ days, s.mode.clockUnset = false → s.prices.staged = none → s.mode.schedule = .entries days →
      let tick := s.mode.clock.tick
      let edges := daySchedule days tick.weekday
      (edges.2 ≤ edges.1 ∨ (tick.second ≠ edges.1 ∧ tick.second ≠ edges.2) ∨
          (tick.second = edges.1 ∧ s.mode.mode ≠ .closed) ∨
          (tick.second = edges.2 ∧ s.mode.mode ≠ .openMode ∧ s.mode.mode ≠ .opening ∧ tick.second ≠ edges.1) →
        exec (.clockTick dt) s = .next { s.elapse dt with mode := { s.mode with clock := tick } }) ∧
      (edges.1 < edges.2 → tick.second = edges.2 →
        (s.mode.mode = .openMode → (∀ sd, (s.side sd).state ≠ .authorized) →
          (∃ sd, (s.side sd).state.holdsSale = true) → ∃ t, exec (.clockTick dt) s = .next t ∧
            Lands dt [.display, .mode, .exch] s t ∧ t.mode.clock = tick ∧ t.mode.mode = .closing ∧
            t.mode.stage = some .drain ∧ t.mode.graceT = some (s.now + dt + seconds s.exch.config.closeGrace) ∧
            ∀ sd, t.mode.drainAwait.get sd = (s.side sd).state.holdsSale) ∧
        (s.mode.mode = .opening → ∃ t, exec (.clockTick dt) s = .next t ∧ t.now = s.now + dt ∧ t.mode.clock = tick ∧
          t.mode.mode = .closed ∧ t.mode.stage = none ∧ t.display.heater = false ∧
          (∀ sd, (t.gate sd).state = .off ∨ (t.gate sd).state = .tripped) ∧
          ∀ p, (t.motor p).users.prime = false))) ∧
    (CanTouch s Folio.siteOrder →
      (6 < weekday ∨ 86399 < second → ∃ t, exec (.setClock dt ref weekday second) s = .next t ∧
        Refused dt s t Folio.siteOrder ref .invalidClock 0) ∧
      (weekday ≤ 6 → second ≤ 86399 → ∃ t, exec (.setClock dt ref weekday second) s = .next t ∧
        t.now = s.now + dt ∧ t.mode.clock = ⟨weekday, second⟩ ∧ t.mode.clockUnset = false ∧
        t.mode.schedule = s.mode.schedule ∧ t.pins = s.pins ∧ (t.header Folio.siteOrder).holder = .host ∧
        (t.header Folio.siteOrder).result = .done ∧
        (t.header Folio.siteOrder).stamp = weekday * 86400 + second))

/-- OPEN begins an opening from CLOSED, is answered DONE in OPEN and BUSY_SEQUENCE in a sequence; CLOSE begins a
closing from OPEN, which waits in DRAIN for a sale with its grace timer running, aborts an opening, and is answered
DONE otherwise (R166, R167, R171, R172). A CLOSE from OPEN with a sale in AUTHORIZED, which it completes, and with no
sale, which goes on at once, are left out. The model's choice: a result detail of 0 where the rule names none
(notes/assumptions/12.md). -/
def Obligations.OpenAndClose : Prop :=
  ∀ dt ref s, CanTouch s Folio.siteOrder →
    (s.mode.mode = .closed → ∃ t, exec (.openSite dt ref) s = .next t ∧ Lands dt [.display, .mode, .exch] s t ∧
      t.mode.mode = .opening ∧ t.mode.stage = some .wake ∧ t.mode.wakeT = some (s.now + dt + seconds 2) ∧
      t.mode.outcome = Outcome.clear ∧ t.display.supply = true ∧ t.display.darkT = none ∧
      Answered s t Folio.siteOrder ref .done 0) ∧
    (s.mode.mode = .opening ∨ s.mode.mode = .closing → ∃ t, exec (.openSite dt ref) s = .next t ∧
      Refused dt s t Folio.siteOrder ref .busySequence 0) ∧
    (s.mode.mode = .openMode → ∃ t, exec (.openSite dt ref) s = .next t ∧
      Refused dt s t Folio.siteOrder ref .done 0) ∧
    (s.mode.mode = .closed ∨ s.mode.mode = .closing → ∃ t, exec (.closeSite dt ref) s = .next t ∧
      Refused dt s t Folio.siteOrder ref .done 0) ∧
    (s.mode.mode = .openMode → (∀ sd, (s.side sd).state ≠ .authorized) →
      (∃ sd, (s.side sd).state.holdsSale = true) → ∃ t, exec (.closeSite dt ref) s = .next t ∧
        Lands dt [.display, .mode, .exch] s t ∧ t.mode.mode = .closing ∧ t.mode.stage = some .drain ∧
        t.mode.graceT = some (s.now + dt + seconds s.exch.config.closeGrace) ∧
        (∀ sd, t.mode.drainAwait.get sd = (s.side sd).state.holdsSale) ∧ Answered s t Folio.siteOrder ref .done 0) ∧
    (s.mode.mode = .opening → ∃ t, exec (.closeSite dt ref) s = .next t ∧ t.now = s.now + dt ∧
      t.mode.mode = .closed ∧ t.mode.stage = none ∧ t.display.heater = false ∧
      (∀ sd, (t.gate sd).state = .off ∨ (t.gate sd).state = .tripped) ∧ (∀ p, (t.motor p).users.prime = false) ∧
      (t.header Folio.siteOrder).holder = .host ∧ (t.header Folio.siteOrder).result = .done)

/-- The wake delay's end runs CHECK, which returns to CLOSED with an empty journal, an UNSET or out of range master
factor or a mapped grade without a price, and otherwise goes on to WARM: without a reading at the threshold the heater
goes on and the warm timer starts, and with one WARM is done at once, without the cold detail, and LAMP follows; the
grace timer's end sends the remaining sales to ENDING with CLOSING; the spacing timer's end stops HIGH when its turn
has come, AUX being next, and 1 s later AUX, after which the DISPLAY stage asks the displays to go dark: the dark timer
starts, or goes on if it is running (R87, R104, R167, R168, R171 to R173). AUX's turn with a lamp test in hand, or with
DARK_DELAY 0, by which the displays go dark at once, is left out. -/
def Obligations.StageTimersExpire : Prop :=
  ∀ dt s d, d ≤ s.now + dt →
    (s.mode.stage = some .wake → s.mode.wakeT = some d →
      let factorOk := fun m => ∃ cf, PerMeter.get s.journal.master m = some cf ∧ 256 ≤ cf ∧ cf ≤ 16383
      let unpriced := fun g => mapped s.prices.maps g = true ∧ s.prices.active.get g = 0
      (s.journal.empty = true ∨ (∃ m, ¬ factorOk m) ∨ (∃ g, unpriced g) →
        ∃ t, exec (.wakeSettle dt) s = .next t ∧ t.now = s.now + dt ∧
          t.mode.mode = .closed ∧ t.mode.stage = none ∧ t.mode.wakeT = none) ∧
      (s.journal.empty = false → (∀ m, factorOk m) → (∀ g, ¬ unpriced g) →
        ((∀ r, s.display.temperature = some r → r < s.exch.config.warmThreshold) →
          ∃ t, exec (.wakeSettle dt) s = .next t ∧
            Lands dt [.display, .mode, .exch] s t ∧ t.mode.stage = some .warm ∧ t.display.heater = true ∧
            t.display.coldFlag = false ∧
            t.display.warmT = some (s.now + dt + seconds (60 * s.exch.config.warmLimit))) ∧
        (∀ r, s.display.temperature = some r → s.exch.config.warmThreshold ≤ r →
          ∃ t, exec (.wakeSettle dt) s = .next t ∧ Lands dt [.display, .mode, .exch] s t ∧
            t.mode.stage = some .lamp ∧ t.mode.outcome.cold = false ∧ t.display.heater = false ∧
            t.display.coldFlag = false ∧ t.mode.lampAwait = Both.same true))) ∧
    (∀ sd o, s.mode.stage = some .drain → s.mode.graceT = some d →
      ((s.side sd).state = .starting ∨ (s.side sd).state.delivers = true ∨ (s.side sd).state = .suspended) →
      (s.side sd).sale = some o → ∃ t, exec (.closeGrace dt) s = .next t ∧
        Lands dt [.sides, .display, .journal, .mode, .exch] s t ∧ t.mode = { s.mode with graceT := none } ∧
        (t.side sd).state = .ending ∧
        (t.side sd).sale = some { o with record := { o.record with reason := some .closing } } ∧
        ∀ p, ((t.side sd).valves.get p).main = false) ∧
    (s.mode.stage = some .motorsOff → s.mode.spacingT = some d → s.mode.spacingNext = some .high →
      (s.motor .high).state.confirmed = true → NoneLeavesStarting s →
      ∃ t, exec (.motorSpacing dt) s = .next t ∧ Lands dt [.motors, .mode, .exch] s t ∧
        (t.motor .high).state = .stopped ∧ (t.motor .high).contactor = false ∧ (t.motor .high).users = Users.none ∧
        (t.motor .high).lastStop = t.now ∧ t.motor .low = s.motor .low ∧ t.motor .aux = s.motor .aux ∧
        t.mode = { s.mode with spacingNext := some .aux, spacingT := some (s.now + dt + seconds 1) } ∧
        t.exch.nextEvent = s.exch.nextEvent) ∧
    (s.mode.stage = some .motorsOff → s.mode.spacingT = some d → s.mode.spacingNext = some .aux →
      (s.motor .aux).state.confirmed = true → NoneLeavesStarting s → s.display.darkening = false →
      (∀ sd, (s.disp sd).state ≠ .testing ∧ (s.disp sd).lamp = none) →
      (s.display.darkT = none → s.exch.config.darkDelay ≠ 0) →
      ∃ t, exec (.motorSpacing dt) s = .next t ∧ Lands dt [.motors, .display, .mode, .exch] s t ∧
        (t.motor .aux).state = .stopped ∧ (t.motor .aux).contactor = false ∧ (t.motor .aux).users = Users.none ∧
        (t.motor .aux).lastStop = t.now ∧ t.motor .low = s.motor .low ∧ t.motor .high = s.motor .high ∧
        t.mode = { s.mode with stage := some .display, spacingNext := none, spacingT := none } ∧
        t.display = { s.display with
          darkT := some (s.display.darkT.getD (s.now + dt + seconds s.exch.config.darkDelay)) } ∧
        t.exch.nextEvent = s.exch.nextEvent)

/-- Opening goes on to OPEN. When a lamp test ends, passed or failed, on the side that LAMP awaits last, PRIME
registers with every product a mapped grade needs; while one of them is still to start, PRIME waits for it, and once
each runs or has failed, PRIME is released and READERS brings up the gates. A start confirmed, or a failure, of the
product PRIME awaits last does the same. When a gate that READERS awaits last opens by a HELLO or trips at the start
timer's expiry, the mode becomes OPEN with the opening outcome, and each IDLE side with a nozzle lifted goes to
CALLING; failed sides, products and gates are named in the outcome (R45, R101, R119, R125, R168 to R170). With others
awaited the stage goes on. A failure with others awaited, or with the product still in the FIFO, which no run reaches,
is left out. The model's choices: a gate once settled stays so (notes/assumptions/48.md), the order of a motor's
notices and tests (notes/assumptions/37.md), and a HELLO's tag has its high byte first (notes/assumptions/17.md). -/
def Obligations.OpeningReachesOpen : Prop :=
  (∀ dt sd s frame purpose echo l failed, s.mode.stage = some .lamp → (s.disp sd).state = .testing →
    (s.disp sd).transfer = some ⟨frame, purpose⟩ → (s.disp sd).lamp = some l → (s.disp sd).zero = none →
    (s.disp sd).goingDark = false → s.display.darkening = false → (s.side sd).state.holdsSale = false →
    ((failed = false ∧ purpose = .t3 ∧ l.step = .t3 ∧ firstDiff allOff echo 0 = none) ∨
      (failed = true ∧ ∃ i, (purpose = .t2 ∧ l.step = .t2 ∧ firstDiff allOn echo 0 = some i) ∨
        (purpose = .t3 ∧ l.step = .t3 ∧ firstDiff allOff echo 0 = some i))) →
    s.mode.lampAwait.get sd = true →
    ∃ t, exec (.transferEnd dt sd echo) s = .next t ∧ t.now = s.now + dt ∧
      (t.disp sd).state = (if failed then .fault else .lit) ∧
      t.mode.outcome.displays =
        (if failed then s.mode.outcome.displays.set sd true else s.mode.outcome.displays) ∧
      (s.mode.lampAwait.get sd.other = true → t.mode.stage = some .lamp ∧
        t.mode.lampAwait = s.mode.lampAwait.set sd false) ∧
      (s.mode.lampAwait.get sd.other = false →
        (∀ p, Needed s p → (s.motor p).state ∈ [MotorState.stopped, .waiting, .starting] →
          s.pins.pressureOk.get p = false → t.mode.stage = some .prime ∧ t.mode.primeWait.get p = true ∧
            ∀ q, Needed s q → t.mode.primeReg.get q = true ∧ (t.motor q).users.prime = true) ∧
        ((∀ p, Needed s p → (s.motor p).state.confirmed = true ∨ (s.motor p).state = .failed) →
          ReadersFollow s t ∧
            ∀ p, Needed s p → (s.motor p).state = .failed → t.mode.outcome.products.get p = true))) ∧
  (∀ dt p s, s.mode.stage = some .prime →
    ((s.motor p).state = .starting → (s.motor p).users.prime = true →
      ∃ t, exec (.pressureOkPresent dt p) s = .next t ∧ t.now = s.now + dt ∧
        t.mode.outcome.products = s.mode.outcome.products ∧
        ((∀ q, q ≠ p → s.mode.primeWait.get q = false) → ReadersFollow s t) ∧
        ∀ q, q ≠ p → s.mode.primeWait.get q = true → s.pins.pressureOk.get q = false →
          t.mode.stage = some .prime ∧ t.mode.primeWait.get p = false ∧ t.mode.primeWait.get q = true) ∧
    (∀ c, FailsNow c s dt p → s.mode.primeReg.get p = true → p ∉ s.motors.fifo →
      (∀ sd, (s.side sd).state ≠ .authorized ∧ (s.side sd).state ≠ .starting) →
      (∀ q, q ≠ p → s.mode.primeWait.get q = false) →
      ∃ t, exec c s = .next t ∧ t.now = s.now + dt ∧ (t.motor p).state = .failed ∧
        t.mode.outcome.products = s.mode.outcome.products.set p true ∧ ReadersFollow s t)) ∧
  ∀ dt sd s c, s.mode.stage = some .readers → s.mode.readersAwait.get sd = true →
    (s.gate sd).state = .starting ∨ (s.gate sd).state = .restarting →
    let hello := ∃ a f, c = .answerFrame dt sd f ∧ (s.gate sd).power = true ∧ (s.gate sd).addressing = some a ∧
      a.mod = .card ∧ a.isDownlink = false ∧ (s.gate sd).receiver ≠ .resync ∧ frameGood f = true ∧
      f.control.cls = .hello ∧ ¬ (s.exch.config.admissionMode.get sd = .check ∧
        scopeOf (s.gate sd).admission.keys (helloTag f.payload) = .other)
    let expires := c = .readerStartTimeout dt sd ∧ ∃ d, (s.gate sd).startT = some d ∧ d ≤ s.now + dt
    ∀ trips : Bool, (trips = false ∧ hello) ∨ (trips = true ∧ expires) →
      ∃ t, exec c s = .next t ∧ t.now = s.now + dt ∧
        (t.gate sd).state = (if trips then .tripped else .opened) ∧ t.gate sd.other = s.gate sd.other ∧
        (s.mode.readersAwait.get sd.other = false →
          t.mode.mode = .openMode ∧ t.mode.stage = none ∧
          t.mode.outcome = (if trips then { s.mode.outcome with gates := s.mode.outcome.gates.set sd true }
            else s.mode.outcome) ∧
          NewestEvent t s.mode.clock .mode Mode.openMode.code (.num s.mode.mode.code) (.outcome t.mode.outcome) ∧
          ∀ x, (t.side x).state = if (s.side x).state = .idle ∧ (s.side x).nozzles.toList.any id = true
            then .calling else (s.side x).state) ∧
        (s.mode.readersAwait.get sd.other = true → ¬ GateSettled s sd.other →
          t.mode.mode = s.mode.mode ∧ t.mode.stage = some .readers ∧
          t.mode.readersAwait = s.mode.readersAwait.set sd false)

/-- Closing goes on to CLOSED. The completion of the sale that DRAIN awaits last, or a CLOSE in OPEN with no sale,
turns the gates OFF and begins to stop the motors. In DISPLAY the dark timer's expiry with both sides dark, or the end
of the last blanking transfer, switches the supply off and asks for the closing snapshot. The end of the first VALID
write that begins after the request is night entry: the mode is CLOSED with no stage, each side in CALLING or ENDED
enters IDLE, the displays are DARK, no motor has a user or is FAILED, and the periodic timer is stopped; a write begun
before it, or one that fails, is followed by another (R13, R71, R90, R104, R105, R149, R172 to R174). Sides in
AUTHORIZED are left out. The model's choices: the supply goes off while a side in FAULT may still blank
(notes/assumptions/52.md), and the bytes of a slot and the order of its CRC's bits and bytes
(notes/assumptions/23.md). -/
def Obligations.ClosingReachesClosed : Prop :=
  (∀ dt sd s o c d, s.mode.mode = .closing → s.mode.stage = some .drain → (s.side sd).state = .ending →
    (s.side sd).sale = some o → o.cap = some c → o.record.side = sd → (s.side sd).settleT = some d → d ≤ s.now + dt →
    s.prices.swapDue = false → (s.side sd.other).state ≠ .starting →
    ∃ t, exec (.settleTime dt sd) s = .next t ∧ t.now = s.now + dt ∧ (t.side sd).sale = none ∧
      (s.mode.drainAwait.get sd.other = false → MotorsGoOff s t) ∧
      (s.mode.drainAwait.get sd.other = true → t.mode = { s.mode with
        drainAwait := s.mode.drainAwait.set sd false })) ∧
  (∀ dt ref s, CanTouch s Folio.siteOrder → s.mode.mode = .openMode →
    (∀ sd, (s.side sd).state.holdsSale = false) → ∃ t, exec (.closeSite dt ref) s = .next t ∧ t.now = s.now + dt ∧
      MotorsGoOff s t ∧ (t.header Folio.siteOrder).holder = .host ∧ (t.header Folio.siteOrder).result = .done ∧
      (t.header Folio.siteOrder).ref = ref) ∧
  (∀ dt s, s.mode.stage = some .display →
    (∀ d, s.display.darkT = some d → d ≤ s.now + dt →
      (∀ sd, ((s.disp sd).state = .dark ∨ (s.disp sd).state = .fault) ∧ (s.disp sd).goingDark = false) →
      ∃ t, exec (.darkDelay dt) s = .next t ∧ Lands dt [.display, .store, .journal, .mode, .exch] s t ∧
        SnapshotBegins s t) ∧
    (∀ sd frame echo, s.display.darkening = true → (s.disp sd).transfer = some ⟨frame, .blank⟩ →
      (s.disp sd).goingDark = true → (s.disp sd).state ≠ .dark → (s.disp sd).lamp = none →
      (s.disp sd.other).goingDark = false → ∃ t, exec (.transferEnd dt sd echo) s = .next t ∧
        Lands dt [.display, .store, .journal, .mode, .exch] s t ∧ (t.disp sd).state = .dark ∧ SnapshotBegins s t)) ∧
  ∀ dt damage s w, s.mode.stage = some .snapshot → s.journal.phase = .normal → s.journal.inFlight = some w →
    (∀ sd, (s.side sd).state ≠ .authorized) →
    let good := (w.readBack damage).kind = .valid
    (good → s.journal.closeWait = .inWrite → ∃ t, exec (.journalWriteComplete dt damage) s = .next t ∧
      t.now = s.now + dt ∧ t.mode.mode = .closed ∧ t.mode.stage = none ∧ t.journal.newest = some w.slot ∧
      t.pfe.nightFlag = false ∧ t.journal.periodicT = none ∧
      NewestEvent t s.mode.clock .mode Mode.closed.code (.num s.mode.mode.code) (.modeCause .night) ∧
      (∀ sd, (t.side sd).state = (if (s.side sd).state = .calling ∨ (s.side sd).state = .ended then .idle
        else (s.side sd).state) ∧ (t.disp sd).state = .dark) ∧
      ∀ p, (t.motor p).users = Users.none ∧
        (t.motor p).state = if (s.motor p).state = .failed then .stopped else (s.motor p).state) ∧
    (good → s.journal.closeWait = .toBegin → s.journal.request = true →
      ∃ t w', exec (.journalWriteComplete dt damage) s = .next t ∧ t.now = s.now + dt ∧ t.mode = s.mode ∧
        t.journal.inFlight = some w' ∧ w'.slot = slotAfter w.slot ∧ w'.seq = s.journal.seq ∧
        t.journal.closeWait = .inWrite) ∧
    (¬ good → s.journal.closeWait ≠ .idle → ∃ t w', exec (.journalWriteComplete dt damage) s = .next t ∧
      t.now = s.now + dt ∧ t.mode = s.mode ∧ t.journal.inFlight = some w' ∧
      w'.slot = slotAfterFailed w.slot s.journal.newest ∧ w'.seq = s.journal.seq ∧
      t.journal.closeWait = .inWrite)

/-! ### The exchange memory -/

/-- READ_MEMORY returns the bytes from its address onwards and changes nothing else. WRITE_MEMORY stores a byte of
SCRATCH or of the body of a folio the host holds, sets the body length or a byte of the host reference, leaves a
header field the part writes, and on a folio the part holds or posts only sets STRAY. A start address outside the
memory stops the model (notes/assumptions/5.md). IDENT, TOUCH, FRESH, FRESH_MASK and CONTROL read as their registers
stand; a read of any other address returns zeros and sets STRAY, as an unknown command byte and a write to IDENT or an
unknown address do; FRESH clears the bits written 1, FRESH_MASK replaces the mask, and STRAY clears its bit (R177 to
R179). The model's choices: an unknown register reads as four zeros, and a read returns the register whole
(notes/assumptions/27.md). -/
def Obligations.TheLinkReadsAndWrites : Prop :=
  (∀ dt (addr : BitVec 16) n (v : Byte) s,
    (addr.toNat < 8192 →
      exec (.readMemory dt addr n) s =
        .next { s.elapse dt with exch := { s.exch with spiOut := s.readBytes addr.toNat n } } ∧
      (6912 ≤ addr.toNat → exec (.writeMemory dt addr [v]) s = .next { s.elapse dt with
        exch := { s.exch with mem := Memory.write s.exch.mem addr.toNat v } }) ∧
      (∀ (h : addr.toNat / 256 < 27),
        let f : Folio := ⟨addr.toNat / 256, h⟩
        (f.posted = true ∨ (s.header f).holder = .part →
          exec (.writeMemory dt addr [v]) s = .next (s.elapse dt).setStray) ∧
        (f.posted = false → (s.header f).holder = .host →
          (16 ≤ addr.toNat % 256 → exec (.writeMemory dt addr [v]) s = .next { s.elapse dt with
            exch := { s.exch with mem := Memory.write s.exch.mem addr.toNat v } }) ∧
          (addr.toNat % 256 = 12 → exec (.writeMemory dt addr [v]) s =
            .next ((s.elapse dt).setHeader f { s.header f with len := v })) ∧
          (8 ≤ addr.toNat % 256 → addr.toNat % 256 < 12 → ∃ ref : Word32,
            exec (.writeMemory dt addr [v]) s = .next ((s.elapse dt).setHeader f { s.header f with ref := ref }) ∧
              be 4 ref.toNat = (be 4 (s.header f).ref.toNat).set (addr.toNat % 256 - 8) v) ∧
          (addr.toNat % 256 < 8 ∨ (13 ≤ addr.toNat % 256 ∧ addr.toNat % 256 < 16) →
            exec (.writeMemory dt addr [v]) s = .next (s.elapse dt))))) ∧
    (8192 ≤ addr.toNat → exec (.readMemory dt addr n) s = .fault (.addressOutside addr) ∧
      exec (.writeMemory dt addr [v]) s = .fault (.addressOutside addr))) ∧
  ∀ dt (addr : BitVec 16) (v : Word32) (cmd : Byte) s,
    (∀ bytes, (addr = 0#16 ∧ bytes = be 2 0x5A6E ++ be 2 0x0600 ++ be 2 0x0001) ∨ (addr = 1#16 ∧ bytes = be 4 0) ∨
        (addr = 2#16 ∧ bytes = be 4 s.exch.fresh.toNat) ∨ (addr = 3#16 ∧ bytes = be 4 s.exch.mask.toNat) ∨
        (addr = 4#16 ∧ bytes = be 4 s.control.toNat) →
      exec (.readRegister dt addr) s = .next { s.elapse dt with exch := { s.exch with spiOut := bytes } }) ∧
    (4 < addr.toNat → exec (.readRegister dt addr) s =
      .next { s.elapse dt with exch := { s.exch with spiOut := be 4 0, stray := true } }) ∧
    (cmd ∉ [0x21#8, 0x22#8, 0x31#8, 0x32#8] → exec (.unknownCommand dt cmd) s = .next (s.elapse dt).setStray) ∧
    (addr = 0#16 ∨ 4 < addr.toNat → exec (.strayRegisterWrite dt addr) s = .next (s.elapse dt).setStray) ∧
    exec (.fresh dt v) s = .next { s.elapse dt with exch := { s.exch with fresh := s.exch.fresh &&& ~~~v } } ∧
    exec (.freshMask dt v) s = .next { s.elapse dt with exch := { s.exch with mask := v } } ∧
    exec (.stray dt) s = .next { s.elapse dt with exch := { s.exch with stray := false } }

/-- A pending change is gathered into one update of STATUS, under its change count and without its fresh bit, once
100 ms have passed since the last one; before that, or with nothing pending, only time passes (R182). The model's
choice: a change is pending when the posted body differs from the present state or an update has been asked for
(notes/assumptions/16.md). -/
def Obligations.StatusIsGathered : Prop :=
  ∀ dt s,
    (s.exch.status ≠ some s.composeStatus ∨ s.exch.statusAsked = true →
      (∀ t0, s.exch.statusAt = some t0 → t0 + millis 100 ≤ s.now + dt) →
      ∃ t, exec (.statusUpdate dt) s = .next t ∧ Lands dt [.exch] s t ∧ t.exch.status = some s.composeStatus ∧
        t.exch.statusAsked = false ∧ t.exch.statusAt = some (s.now + dt) ∧ t.exch.fresh = s.exch.fresh ∧
        (t.header Folio.status).count = ((s.header Folio.status).count + 2) % 65536 ∧
        (∀ f, f ≠ Folio.status → t.header f = s.header f)) ∧
    ((s.exch.status = some s.composeStatus ∧ s.exch.statusAsked = false) ∨
        (∃ t0, s.exch.statusAt = some t0 ∧ s.now + dt < t0 + millis 100) →
      exec (.statusUpdate dt) s = .next (s.elapse dt))

/-- A touch is stray while READY is 0, of a posted folio, of a folio the part holds, and of a number above 26, and so
is a request whose folio the part holds; a body length above 240 is answered INVALID_LENGTH, REPORT with the reference
of the record in it, UPLINK with 0 and any other with the host's; a touch of an UPLINK folio is its return, and one of
a REPORT folio with no record waiting returns it (R128, R137, R179 to R181). The
model's choice: a result detail of 0 where the rule names none (notes/assumptions/12.md). -/
def Obligations.TouchIsTaken : Prop :=
  ∀ dt (v : Word32) s,
    (∀ c f, folioOf c = some f → (s.header f).holder = .part → ∃ n, exec c s = .next ({ s with now := n }).setStray) ∧
    (26 < v.toNat % 256 → exec (.touch dt v) s = .next (s.elapse dt).setStray) ∧
    (∀ (h : v.toNat % 256 < 27),
      let f : Folio := ⟨v.toNat % 256, h⟩
      (s.exch.ready = false ∨ f.val ≤ 6 ∨ (s.header f).holder = .part →
        exec (.touch dt v) s = .next (s.elapse dt).setStray) ∧
      (∀ ref, CanTouch s f → 7 ≤ f.val → 240 < (s.header f).len.toNat →
        ((∀ sd, f ≠ Folio.report sd ∧ ∀ i, f ≠ Folio.uplink sd i) → ref = (s.header f).ref) →
        (∀ sd, f = Folio.report sd → ref = ((s.records sd).inFolio.map (·.hostRef)).getD (s.header f).ref) →
        (∀ sd i, f = Folio.uplink sd i → ref = 0) →
        ∃ t, exec (.touch dt v) s = .next t ∧ Refused dt s t f ref .invalidLength 0) ∧
      (∀ sd, f = Folio.report sd → CanTouch s f → (s.header f).len.toNat ≤ 240 → (s.records sd).unreported = [] →
        ∃ t, exec (.touch dt v) s = .next t ∧ Lands dt [.store, .exch] s t ∧
          t.records sd = { s.records sd with inFolio := none } ∧ Held t f (s.header f).ref) ∧
      (∀ sd i, f = Folio.uplink sd i → exec (.touch dt v) s = exec (.uplinkReturn dt sd i) s))
end

