-- ==== Sys2Proof/Laws/State.lean ====
section
/-!
SUPPORT. What the operations on single parts of the state leave as it was: one lemma per operation.
-/
set_option linter.unnecessarySeqFocus false
set_option linter.unusedTactic false
set_option linter.unreachableTactic false

namespace Sys2Proof.Machine

@[simp] theorem State.elapse_frame (s : State) (dt : Nat) :
    (s.elapse dt).pfe = s.pfe ∧ (s.elapse dt).sides = s.sides ∧ (s.elapse dt).prices = s.prices ∧
      (s.elapse dt).motors = s.motors ∧ (s.elapse dt).display = s.display ∧ (s.elapse dt).gates = s.gates ∧
      (s.elapse dt).store = s.store ∧ (s.elapse dt).journal = s.journal ∧ (s.elapse dt).mode = s.mode ∧
      (s.elapse dt).exch.mem = s.exch.mem ∧ (s.elapse dt).exch.config = s.exch.config ∧
      (s.elapse dt).exch.mask = s.exch.mask ∧ (s.elapse dt).exch.ready = s.exch.ready ∧ (s.elapse dt).pins = s.pins ∧
      (s.elapse dt).pending = s.pending := by
  unfold State.elapse; (try dsimp only [State.bothSides]); (repeat' split) <;> simp

@[simp] theorem State.setSide_frame (s : State) (sd : Side) (x : SideCtl) :
    (s.setSide sd x).now = s.now ∧ (s.setSide sd x).pfe = s.pfe ∧ (s.setSide sd x).prices = s.prices ∧
      (s.setSide sd x).motors = s.motors ∧ (s.setSide sd x).display = s.display ∧ (s.setSide sd x).gates = s.gates ∧
      (s.setSide sd x).store = s.store ∧ (s.setSide sd x).journal = s.journal ∧ (s.setSide sd x).mode = s.mode ∧
      (s.setSide sd x).exch.mem = s.exch.mem ∧ (s.setSide sd x).exch.config = s.exch.config ∧
      (s.setSide sd x).exch.mask = s.exch.mask ∧ (s.setSide sd x).exch.ready = s.exch.ready ∧
      (s.setSide sd x).pins = s.pins ∧ (s.setSide sd x).pending = s.pending := by
  unfold State.setSide; (try dsimp only [State.bothSides]); (repeat' split) <;> simp

@[simp] theorem State.setChan_frame (s : State) (m : Meter) (c : Channel) :
    (s.setChan m c).now = s.now ∧ (s.setChan m c).sides = s.sides ∧ (s.setChan m c).prices = s.prices ∧
      (s.setChan m c).motors = s.motors ∧ (s.setChan m c).display = s.display ∧ (s.setChan m c).gates = s.gates ∧
      (s.setChan m c).store = s.store ∧ (s.setChan m c).journal = s.journal ∧ (s.setChan m c).mode = s.mode ∧
      (s.setChan m c).exch.mem = s.exch.mem ∧ (s.setChan m c).exch.config = s.exch.config ∧
      (s.setChan m c).exch.mask = s.exch.mask ∧ (s.setChan m c).exch.ready = s.exch.ready ∧
      (s.setChan m c).pins = s.pins ∧ (s.setChan m c).pending = s.pending := by
  unfold State.setChan; (try dsimp only [State.bothSides]); (repeat' split) <;> simp

@[simp] theorem State.setMotor_frame (s : State) (p : Product) (m : Motor) :
    (s.setMotor p m).now = s.now ∧ (s.setMotor p m).pfe = s.pfe ∧ (s.setMotor p m).sides = s.sides ∧
      (s.setMotor p m).prices = s.prices ∧ (s.setMotor p m).display = s.display ∧ (s.setMotor p m).gates = s.gates ∧
      (s.setMotor p m).store = s.store ∧ (s.setMotor p m).journal = s.journal ∧ (s.setMotor p m).mode = s.mode ∧
      (s.setMotor p m).exch.mem = s.exch.mem ∧ (s.setMotor p m).exch.config = s.exch.config ∧
      (s.setMotor p m).exch.mask = s.exch.mask ∧ (s.setMotor p m).exch.ready = s.exch.ready ∧
      (s.setMotor p m).pins = s.pins ∧ (s.setMotor p m).pending = s.pending := by
  unfold State.setMotor; (try dsimp only [State.bothSides]); (repeat' split) <;> simp

@[simp] theorem State.setFifo_frame (s : State) (f : List Product) :
    (s.setFifo f).now = s.now ∧ (s.setFifo f).pfe = s.pfe ∧ (s.setFifo f).sides = s.sides ∧
      (s.setFifo f).prices = s.prices ∧ (s.setFifo f).display = s.display ∧ (s.setFifo f).gates = s.gates ∧
      (s.setFifo f).store = s.store ∧ (s.setFifo f).journal = s.journal ∧ (s.setFifo f).mode = s.mode ∧
      (s.setFifo f).exch.mem = s.exch.mem ∧ (s.setFifo f).exch.config = s.exch.config ∧
      (s.setFifo f).exch.mask = s.exch.mask ∧ (s.setFifo f).exch.ready = s.exch.ready ∧ (s.setFifo f).pins = s.pins ∧
      (s.setFifo f).pending = s.pending := by
  unfold State.setFifo; (try dsimp only [State.bothSides]); (repeat' split) <;> simp

@[simp] theorem State.setDisp_frame (s : State) (sd : Side) (d : DispSide) :
    (s.setDisp sd d).now = s.now ∧ (s.setDisp sd d).pfe = s.pfe ∧ (s.setDisp sd d).sides = s.sides ∧
      (s.setDisp sd d).prices = s.prices ∧ (s.setDisp sd d).motors = s.motors ∧ (s.setDisp sd d).gates = s.gates ∧
      (s.setDisp sd d).store = s.store ∧ (s.setDisp sd d).journal = s.journal ∧ (s.setDisp sd d).mode = s.mode ∧
      (s.setDisp sd d).exch.mem = s.exch.mem ∧ (s.setDisp sd d).exch.config = s.exch.config ∧
      (s.setDisp sd d).exch.mask = s.exch.mask ∧ (s.setDisp sd d).exch.ready = s.exch.ready ∧
      (s.setDisp sd d).pins = s.pins ∧ (s.setDisp sd d).pending = s.pending := by
  unfold State.setDisp; (try dsimp only [State.bothSides]); (repeat' split) <;> simp

@[simp] theorem State.setGate_frame (s : State) (sd : Side) (g : GateCtl) :
    (s.setGate sd g).now = s.now ∧ (s.setGate sd g).pfe = s.pfe ∧ (s.setGate sd g).sides = s.sides ∧
      (s.setGate sd g).prices = s.prices ∧ (s.setGate sd g).motors = s.motors ∧
      (s.setGate sd g).display = s.display ∧ (s.setGate sd g).store = s.store ∧
      (s.setGate sd g).journal = s.journal ∧ (s.setGate sd g).mode = s.mode ∧
      (s.setGate sd g).exch.mem = s.exch.mem ∧ (s.setGate sd g).exch.config = s.exch.config ∧
      (s.setGate sd g).exch.mask = s.exch.mask ∧ (s.setGate sd g).exch.ready = s.exch.ready ∧
      (s.setGate sd g).pins = s.pins ∧ (s.setGate sd g).pending = s.pending := by
  unfold State.setGate; (try dsimp only [State.bothSides]); (repeat' split) <;> simp

@[simp] theorem State.setRecords_frame (s : State) (sd : Side) (r : Records) :
    (s.setRecords sd r).now = s.now ∧ (s.setRecords sd r).pfe = s.pfe ∧ (s.setRecords sd r).sides = s.sides ∧
      (s.setRecords sd r).prices = s.prices ∧ (s.setRecords sd r).motors = s.motors ∧
      (s.setRecords sd r).display = s.display ∧ (s.setRecords sd r).gates = s.gates ∧
      (s.setRecords sd r).journal = s.journal ∧ (s.setRecords sd r).mode = s.mode ∧
      (s.setRecords sd r).exch.mem = s.exch.mem ∧ (s.setRecords sd r).exch.config = s.exch.config ∧
      (s.setRecords sd r).exch.mask = s.exch.mask ∧ (s.setRecords sd r).exch.ready = s.exch.ready ∧
      (s.setRecords sd r).pins = s.pins ∧ (s.setRecords sd r).pending = s.pending := by
  unfold State.setRecords; (try dsimp only [State.bothSides]); (repeat' split) <;> simp

@[simp] theorem State.setHeader_frame (s : State) (f : Folio) (h : Header) :
    (s.setHeader f h).now = s.now ∧ (s.setHeader f h).pfe = s.pfe ∧ (s.setHeader f h).sides = s.sides ∧
      (s.setHeader f h).prices = s.prices ∧ (s.setHeader f h).motors = s.motors ∧
      (s.setHeader f h).display = s.display ∧ (s.setHeader f h).gates = s.gates ∧ (s.setHeader f h).store = s.store ∧
      (s.setHeader f h).journal = s.journal ∧ (s.setHeader f h).mode = s.mode ∧
      (s.setHeader f h).exch.mem = s.exch.mem ∧ (s.setHeader f h).exch.config = s.exch.config ∧
      (s.setHeader f h).exch.mask = s.exch.mask ∧ (s.setHeader f h).exch.ready = s.exch.ready ∧
      (s.setHeader f h).pins = s.pins ∧ (s.setHeader f h).pending = s.pending := by
  unfold State.setHeader; (try dsimp only [State.bothSides]); (repeat' split) <;> simp

@[simp] theorem State.setFresh_frame (s : State) (f : Folio) :
    (s.setFresh f).now = s.now ∧ (s.setFresh f).pfe = s.pfe ∧ (s.setFresh f).sides = s.sides ∧
      (s.setFresh f).prices = s.prices ∧ (s.setFresh f).motors = s.motors ∧ (s.setFresh f).display = s.display ∧
      (s.setFresh f).gates = s.gates ∧ (s.setFresh f).store = s.store ∧ (s.setFresh f).journal = s.journal ∧
      (s.setFresh f).mode = s.mode ∧ (s.setFresh f).exch.mem = s.exch.mem ∧
      (s.setFresh f).exch.config = s.exch.config ∧ (s.setFresh f).exch.mask = s.exch.mask ∧
      (s.setFresh f).exch.ready = s.exch.ready ∧ (s.setFresh f).pins = s.pins ∧ (s.setFresh f).pending = s.pending := by
  unfold State.setFresh; (try dsimp only [State.bothSides]); (repeat' split) <;> simp

@[simp] theorem State.clearFresh_frame (s : State) (f : Folio) :
    (s.clearFresh f).now = s.now ∧ (s.clearFresh f).pfe = s.pfe ∧ (s.clearFresh f).sides = s.sides ∧
      (s.clearFresh f).prices = s.prices ∧ (s.clearFresh f).motors = s.motors ∧
      (s.clearFresh f).display = s.display ∧ (s.clearFresh f).gates = s.gates ∧ (s.clearFresh f).store = s.store ∧
      (s.clearFresh f).journal = s.journal ∧ (s.clearFresh f).mode = s.mode ∧
      (s.clearFresh f).exch.mem = s.exch.mem ∧ (s.clearFresh f).exch.config = s.exch.config ∧
      (s.clearFresh f).exch.mask = s.exch.mask ∧ (s.clearFresh f).exch.ready = s.exch.ready ∧
      (s.clearFresh f).pins = s.pins ∧ (s.clearFresh f).pending = s.pending := by
  unfold State.clearFresh; (try dsimp only [State.bothSides]); (repeat' split) <;> simp

@[simp] theorem State.setStray_frame (s : State) :
    (s.setStray).now = s.now ∧ (s.setStray).pfe = s.pfe ∧ (s.setStray).sides = s.sides ∧
      (s.setStray).prices = s.prices ∧ (s.setStray).motors = s.motors ∧ (s.setStray).display = s.display ∧
      (s.setStray).gates = s.gates ∧ (s.setStray).store = s.store ∧ (s.setStray).journal = s.journal ∧
      (s.setStray).mode = s.mode ∧ (s.setStray).exch.mem = s.exch.mem ∧ (s.setStray).exch.config = s.exch.config ∧
      (s.setStray).exch.mask = s.exch.mask ∧ (s.setStray).exch.ready = s.exch.ready ∧ (s.setStray).pins = s.pins ∧
      (s.setStray).pending = s.pending := by
  unfold State.setStray; (try dsimp only [State.bothSides]); (repeat' split) <;> simp

@[simp] theorem State.bump_frame (s : State) (f : Folio) :
    (s.bump f).now = s.now ∧ (s.bump f).pfe = s.pfe ∧ (s.bump f).sides = s.sides ∧ (s.bump f).prices = s.prices ∧
      (s.bump f).motors = s.motors ∧ (s.bump f).display = s.display ∧ (s.bump f).gates = s.gates ∧
      (s.bump f).store = s.store ∧ (s.bump f).journal = s.journal ∧ (s.bump f).mode = s.mode ∧
      (s.bump f).exch.mem = s.exch.mem ∧ (s.bump f).exch.config = s.exch.config ∧
      (s.bump f).exch.mask = s.exch.mask ∧ (s.bump f).exch.ready = s.exch.ready ∧ (s.bump f).pins = s.pins ∧
      (s.bump f).pending = s.pending := by
  unfold State.bump; (try dsimp only [State.bothSides]); (repeat' split) <;> simp

@[simp] theorem State.writeBody_frame (s : State) (f : Folio) (bytes : List Byte) :
    (s.writeBody f bytes).now = s.now ∧ (s.writeBody f bytes).pfe = s.pfe ∧ (s.writeBody f bytes).sides = s.sides ∧
      (s.writeBody f bytes).prices = s.prices ∧ (s.writeBody f bytes).motors = s.motors ∧
      (s.writeBody f bytes).display = s.display ∧ (s.writeBody f bytes).gates = s.gates ∧
      (s.writeBody f bytes).store = s.store ∧ (s.writeBody f bytes).journal = s.journal ∧
      (s.writeBody f bytes).mode = s.mode ∧ (s.writeBody f bytes).exch.config = s.exch.config ∧
      (s.writeBody f bytes).exch.mask = s.exch.mask ∧ (s.writeBody f bytes).exch.ready = s.exch.ready ∧
      (s.writeBody f bytes).pins = s.pins ∧ (s.writeBody f bytes).pending = s.pending := by
  unfold State.writeBody; (try dsimp only [State.bothSides]); (repeat' split) <;> simp

@[simp] theorem State.raise_frame (s : State) (kind : EventKind) (object : Nat) (d1 : Detail) (d2 : Detail) :
    (s.raise kind object d1 d2).now = s.now ∧ (s.raise kind object d1 d2).pfe = s.pfe ∧
      (s.raise kind object d1 d2).sides = s.sides ∧ (s.raise kind object d1 d2).prices = s.prices ∧
      (s.raise kind object d1 d2).motors = s.motors ∧ (s.raise kind object d1 d2).display = s.display ∧
      (s.raise kind object d1 d2).gates = s.gates ∧ (s.raise kind object d1 d2).store = s.store ∧
      (s.raise kind object d1 d2).journal = s.journal ∧ (s.raise kind object d1 d2).mode = s.mode ∧
      (s.raise kind object d1 d2).exch.mem = s.exch.mem ∧ (s.raise kind object d1 d2).exch.config = s.exch.config ∧
      (s.raise kind object d1 d2).exch.mask = s.exch.mask ∧ (s.raise kind object d1 d2).exch.ready = s.exch.ready ∧
      (s.raise kind object d1 d2).pins = s.pins ∧ (s.raise kind object d1 d2).pending = s.pending := by
  unfold State.raise; (try dsimp only [State.bothSides]); (repeat' split) <;> simp

@[simp] theorem State.recompose_frame (s : State) (sd : Side) :
    (s.recompose sd).now = s.now ∧ (s.recompose sd).pfe = s.pfe ∧ (s.recompose sd).sides = s.sides ∧
      (s.recompose sd).prices = s.prices ∧ (s.recompose sd).motors = s.motors ∧ (s.recompose sd).gates = s.gates ∧
      (s.recompose sd).store = s.store ∧ (s.recompose sd).journal = s.journal ∧ (s.recompose sd).mode = s.mode ∧
      (s.recompose sd).exch.mem = s.exch.mem ∧ (s.recompose sd).exch.config = s.exch.config ∧
      (s.recompose sd).exch.mask = s.exch.mask ∧ (s.recompose sd).exch.ready = s.exch.ready ∧
      (s.recompose sd).pins = s.pins ∧ (s.recompose sd).pending = s.pending := by
  unfold State.recompose; (try dsimp only [State.bothSides]); (repeat' split) <;> simp

@[simp] theorem State.newFigures_frame (s : State) (sd : Side) :
    (s.newFigures sd).now = s.now ∧ (s.newFigures sd).pfe = s.pfe ∧ (s.newFigures sd).sides = s.sides ∧
      (s.newFigures sd).prices = s.prices ∧ (s.newFigures sd).motors = s.motors ∧ (s.newFigures sd).gates = s.gates ∧
      (s.newFigures sd).store = s.store ∧ (s.newFigures sd).journal = s.journal ∧ (s.newFigures sd).mode = s.mode ∧
      (s.newFigures sd).exch.mem = s.exch.mem ∧ (s.newFigures sd).exch.config = s.exch.config ∧
      (s.newFigures sd).exch.mask = s.exch.mask ∧ (s.newFigures sd).exch.ready = s.exch.ready ∧
      (s.newFigures sd).pins = s.pins ∧ (s.newFigures sd).pending = s.pending := by
  unfold State.newFigures; (try dsimp only [State.bothSides]); (repeat' split) <;> simp

@[simp] theorem State.recomposeBoth_frame (s : State) :
    (s.recomposeBoth).now = s.now ∧ (s.recomposeBoth).pfe = s.pfe ∧ (s.recomposeBoth).sides = s.sides ∧
      (s.recomposeBoth).prices = s.prices ∧ (s.recomposeBoth).motors = s.motors ∧ (s.recomposeBoth).gates = s.gates ∧
      (s.recomposeBoth).store = s.store ∧ (s.recomposeBoth).journal = s.journal ∧ (s.recomposeBoth).mode = s.mode ∧
      (s.recomposeBoth).exch.mem = s.exch.mem ∧ (s.recomposeBoth).exch.config = s.exch.config ∧
      (s.recomposeBoth).exch.mask = s.exch.mask ∧ (s.recomposeBoth).exch.ready = s.exch.ready ∧
      (s.recomposeBoth).pins = s.pins ∧ (s.recomposeBoth).pending = s.pending := by
  unfold State.recomposeBoth; (try dsimp only [State.bothSides]); (repeat' split) <;> simp

@[simp] theorem State.handOver_frame (s : State) (f : Folio) (r : Result) (detail : Word32) :
    (s.handOver f r detail).now = s.now ∧ (s.handOver f r detail).pfe = s.pfe ∧
      (s.handOver f r detail).sides = s.sides ∧ (s.handOver f r detail).prices = s.prices ∧
      (s.handOver f r detail).motors = s.motors ∧ (s.handOver f r detail).display = s.display ∧
      (s.handOver f r detail).gates = s.gates ∧ (s.handOver f r detail).store = s.store ∧
      (s.handOver f r detail).journal = s.journal ∧ (s.handOver f r detail).mode = s.mode ∧
      (s.handOver f r detail).exch.mem = s.exch.mem ∧ (s.handOver f r detail).exch.config = s.exch.config ∧
      (s.handOver f r detail).exch.mask = s.exch.mask ∧ (s.handOver f r detail).exch.ready = s.exch.ready ∧
      (s.handOver f r detail).pins = s.pins ∧ (s.handOver f r detail).pending = s.pending := by
  unfold State.handOver; (try dsimp only [State.bothSides]); (repeat' split) <;> simp

@[simp] theorem State.touched_frame (s : State) (f : Folio) :
    (s.touched f).now = s.now ∧ (s.touched f).pfe = s.pfe ∧ (s.touched f).sides = s.sides ∧
      (s.touched f).prices = s.prices ∧ (s.touched f).motors = s.motors ∧ (s.touched f).display = s.display ∧
      (s.touched f).gates = s.gates ∧ (s.touched f).store = s.store ∧ (s.touched f).journal = s.journal ∧
      (s.touched f).mode = s.mode ∧ (s.touched f).exch.mem = s.exch.mem ∧ (s.touched f).exch.config = s.exch.config ∧
      (s.touched f).exch.mask = s.exch.mask ∧ (s.touched f).exch.ready = s.exch.ready ∧ (s.touched f).pins = s.pins ∧
      (s.touched f).pending = s.pending := by
  unfold State.touched; (try dsimp only [State.bothSides]); (repeat' split) <;> simp

@[simp] theorem State.hostFill_frame (s : State) (f : Folio) (ref : Word32) (bytes : List Byte) :
    (s.hostFill f ref bytes).now = s.now ∧ (s.hostFill f ref bytes).pfe = s.pfe ∧
      (s.hostFill f ref bytes).sides = s.sides ∧ (s.hostFill f ref bytes).prices = s.prices ∧
      (s.hostFill f ref bytes).motors = s.motors ∧ (s.hostFill f ref bytes).display = s.display ∧
      (s.hostFill f ref bytes).gates = s.gates ∧ (s.hostFill f ref bytes).store = s.store ∧
      (s.hostFill f ref bytes).journal = s.journal ∧ (s.hostFill f ref bytes).mode = s.mode ∧
      (s.hostFill f ref bytes).exch.config = s.exch.config ∧ (s.hostFill f ref bytes).exch.mask = s.exch.mask ∧
      (s.hostFill f ref bytes).exch.ready = s.exch.ready ∧ (s.hostFill f ref bytes).pins = s.pins ∧
      (s.hostFill f ref bytes).pending = s.pending := by
  unfold State.hostFill; (try dsimp only [State.bothSides]); (repeat' split) <;> simp

@[simp] theorem State.rewriteStatus_frame (s : State) :
    (s.rewriteStatus).now = s.now ∧ (s.rewriteStatus).pfe = s.pfe ∧ (s.rewriteStatus).sides = s.sides ∧
      (s.rewriteStatus).prices = s.prices ∧ (s.rewriteStatus).motors = s.motors ∧
      (s.rewriteStatus).display = s.display ∧ (s.rewriteStatus).gates = s.gates ∧ (s.rewriteStatus).store = s.store ∧
      (s.rewriteStatus).journal = s.journal ∧ (s.rewriteStatus).mode = s.mode ∧
      (s.rewriteStatus).exch.mem = s.exch.mem ∧ (s.rewriteStatus).exch.config = s.exch.config ∧
      (s.rewriteStatus).exch.mask = s.exch.mask ∧ (s.rewriteStatus).exch.ready = s.exch.ready ∧
      (s.rewriteStatus).pins = s.pins ∧ (s.rewriteStatus).pending = s.pending := by
  unfold State.rewriteStatus; (try dsimp only [State.bothSides]); (repeat' split) <;> simp

@[simp] theorem State.askStatus_frame (s : State) :
    (s.askStatus).now = s.now ∧ (s.askStatus).pfe = s.pfe ∧ (s.askStatus).sides = s.sides ∧
      (s.askStatus).prices = s.prices ∧ (s.askStatus).motors = s.motors ∧ (s.askStatus).display = s.display ∧
      (s.askStatus).gates = s.gates ∧ (s.askStatus).store = s.store ∧ (s.askStatus).journal = s.journal ∧
      (s.askStatus).mode = s.mode ∧ (s.askStatus).exch.mem = s.exch.mem ∧ (s.askStatus).exch.config = s.exch.config ∧
      (s.askStatus).exch.mask = s.exch.mask ∧ (s.askStatus).exch.ready = s.exch.ready ∧ (s.askStatus).pins = s.pins ∧
      (s.askStatus).pending = s.pending := by
  unfold State.askStatus; (try dsimp only [State.bothSides]); (repeat' split) <;> simp

@[simp] theorem State.postStatus_frame (s : State) :
    (s.postStatus).now = s.now ∧ (s.postStatus).pfe = s.pfe ∧ (s.postStatus).sides = s.sides ∧
      (s.postStatus).prices = s.prices ∧ (s.postStatus).motors = s.motors ∧ (s.postStatus).display = s.display ∧
      (s.postStatus).gates = s.gates ∧ (s.postStatus).store = s.store ∧ (s.postStatus).journal = s.journal ∧
      (s.postStatus).mode = s.mode ∧ (s.postStatus).exch.mem = s.exch.mem ∧
      (s.postStatus).exch.config = s.exch.config ∧ (s.postStatus).exch.mask = s.exch.mask ∧
      (s.postStatus).exch.ready = s.exch.ready ∧ (s.postStatus).pins = s.pins ∧ (s.postStatus).pending = s.pending := by
  unfold State.postStatus; (try dsimp only [State.bothSides]); (repeat' split) <;> simp

@[simp] theorem State.updatePriceView_frame (s : State) :
    (s.updatePriceView).now = s.now ∧ (s.updatePriceView).pfe = s.pfe ∧ (s.updatePriceView).sides = s.sides ∧
      (s.updatePriceView).prices = s.prices ∧ (s.updatePriceView).motors = s.motors ∧
      (s.updatePriceView).display = s.display ∧ (s.updatePriceView).gates = s.gates ∧
      (s.updatePriceView).store = s.store ∧ (s.updatePriceView).journal = s.journal ∧
      (s.updatePriceView).mode = s.mode ∧ (s.updatePriceView).exch.mem = s.exch.mem ∧
      (s.updatePriceView).exch.config = s.exch.config ∧ (s.updatePriceView).exch.mask = s.exch.mask ∧
      (s.updatePriceView).exch.ready = s.exch.ready ∧ (s.updatePriceView).pins = s.pins ∧
      (s.updatePriceView).pending = s.pending := by
  unfold State.updatePriceView; (try dsimp only [State.bothSides]); (repeat' split) <;> simp

@[simp] theorem State.postPriceView_frame (s : State) :
    (s.postPriceView).now = s.now ∧ (s.postPriceView).pfe = s.pfe ∧ (s.postPriceView).sides = s.sides ∧
      (s.postPriceView).prices = s.prices ∧ (s.postPriceView).motors = s.motors ∧
      (s.postPriceView).display = s.display ∧ (s.postPriceView).gates = s.gates ∧ (s.postPriceView).store = s.store ∧
      (s.postPriceView).journal = s.journal ∧ (s.postPriceView).mode = s.mode ∧
      (s.postPriceView).exch.mem = s.exch.mem ∧ (s.postPriceView).exch.config = s.exch.config ∧
      (s.postPriceView).exch.mask = s.exch.mask ∧ (s.postPriceView).exch.ready = s.exch.ready ∧
      (s.postPriceView).pins = s.pins ∧ (s.postPriceView).pending = s.pending := by
  unfold State.postPriceView; (try dsimp only [State.bothSides]); (repeat' split) <;> simp

@[simp] theorem State.updateTotals_frame (s : State) (slot : Fin 16) (seq : Nat) (snap : Snapshot) :
    (s.updateTotals slot seq snap).now = s.now ∧ (s.updateTotals slot seq snap).pfe = s.pfe ∧
      (s.updateTotals slot seq snap).sides = s.sides ∧ (s.updateTotals slot seq snap).prices = s.prices ∧
      (s.updateTotals slot seq snap).motors = s.motors ∧ (s.updateTotals slot seq snap).display = s.display ∧
      (s.updateTotals slot seq snap).gates = s.gates ∧ (s.updateTotals slot seq snap).store = s.store ∧
      (s.updateTotals slot seq snap).journal = s.journal ∧ (s.updateTotals slot seq snap).mode = s.mode ∧
      (s.updateTotals slot seq snap).exch.mem = s.exch.mem ∧
      (s.updateTotals slot seq snap).exch.config = s.exch.config ∧
      (s.updateTotals slot seq snap).exch.mask = s.exch.mask ∧
      (s.updateTotals slot seq snap).exch.ready = s.exch.ready ∧ (s.updateTotals slot seq snap).pins = s.pins ∧
      (s.updateTotals slot seq snap).pending = s.pending := by
  unfold State.updateTotals; (try dsimp only [State.bothSides]); (repeat' split) <;> simp

@[simp] theorem State.updateTotalsWatches_frame (s : State) :
    (s.updateTotalsWatches).now = s.now ∧ (s.updateTotalsWatches).pfe = s.pfe ∧
      (s.updateTotalsWatches).sides = s.sides ∧ (s.updateTotalsWatches).prices = s.prices ∧
      (s.updateTotalsWatches).motors = s.motors ∧ (s.updateTotalsWatches).display = s.display ∧
      (s.updateTotalsWatches).gates = s.gates ∧ (s.updateTotalsWatches).store = s.store ∧
      (s.updateTotalsWatches).journal = s.journal ∧ (s.updateTotalsWatches).mode = s.mode ∧
      (s.updateTotalsWatches).exch.mem = s.exch.mem ∧ (s.updateTotalsWatches).exch.config = s.exch.config ∧
      (s.updateTotalsWatches).exch.mask = s.exch.mask ∧ (s.updateTotalsWatches).exch.ready = s.exch.ready ∧
      (s.updateTotalsWatches).pins = s.pins ∧ (s.updateTotalsWatches).pending = s.pending := by
  unfold State.updateTotalsWatches; (try dsimp only [State.bothSides]); (repeat' split) <;> simp

end Sys2Proof.Machine
end

