-- ==== Sys2Proof/Laws/Access.lean ====
section
/-!
SUPPORT. What each reader of a part of the state reads after each writer: the value written where the names agree, the old
value elsewhere.
-/
namespace Sys2Proof

@[simp] theorem Both.get_set_self {α : Type} (p : Both α) (sd : Side) (x : α) : (p.set sd x).get sd = x := by
  cases sd <;> rfl

theorem Both.get_set_ne {α : Type} (p : Both α) {sd sd' : Side} (x : α) (h : sd' ≠ sd) :
    (p.set sd x).get sd' = p.get sd' := by
  cases sd <;> cases sd' <;> first | rfl | exact absurd rfl h

@[simp] theorem Both.get_set_other {α : Type} (p : Both α) (sd : Side) (x : α) :
    (p.set sd x).get sd.other = p.get sd.other := by
  cases sd <;> rfl

@[simp] theorem Both.get_same {α : Type} (x : α) (sd : Side) : (Both.same x).get sd = x := by cases sd <;> rfl

@[simp] theorem Both.get_map {α β : Type} (f : α → β) (p : Both α) (sd : Side) : (p.map f).get sd = f (p.get sd) := by
  cases sd <;> rfl

@[simp] theorem PerProduct.get_set_self {α : Type} (t : PerProduct α) (p : Product) (x : α) :
    (t.set p x).get p = x := by
  cases p <;> rfl

theorem PerProduct.get_set_ne {α : Type} (t : PerProduct α) {p q : Product} (x : α) (h : q ≠ p) :
    (t.set p x).get q = t.get q := by
  cases p <;> cases q <;> first | rfl | exact absurd rfl h

@[simp] theorem PerProduct.get_same {α : Type} (x : α) (p : Product) : (PerProduct.same x).get p = x := by
  cases p <;> rfl

@[simp] theorem PerProduct.get_map {α β : Type} (f : α → β) (t : PerProduct α) (p : Product) :
    (t.map f).get p = f (t.get p) := by
  cases p <;> rfl

@[simp] theorem PerMeter.get_set_self {α : Type} (t : PerMeter α) (m : Meter) (x : α) :
    PerMeter.get (PerMeter.set t m x) m = x := by
  simp [PerMeter.get, PerMeter.set]

theorem PerMeter.get_set_ne {α : Type} (t : PerMeter α) {m m' : Meter} (x : α) (h : m' ≠ m) :
    PerMeter.get (PerMeter.set t m x) m' = PerMeter.get t m' := by
  obtain ⟨sd, p⟩ := m
  obtain ⟨sd', p'⟩ := m'
  cases sd <;> cases sd' <;> cases p <;> cases p' <;> first | rfl | exact absurd rfl h

@[simp] theorem PerMeter.get_same {α : Type} (x : α) (m : Meter) : PerMeter.get (PerMeter.same x) m = x := by
  obtain ⟨sd, p⟩ := m
  cases sd <;> cases p <;> rfl

@[simp] theorem get_mapEach {α β : Type} {n : Nat} (f : α → β) (v : Vector α n) (i : Fin n) :
    (mapEach f v).get i = f (v.get i) := by
  show (mapEach f v)[i.val] = f v[i.val]
  simp [mapEach]
  rfl

end Sys2Proof

namespace Sys2Proof.Machine

@[simp] theorem State.setSide_side_self (s : State) (sd : Side) (x : SideCtl) : (s.setSide sd x).side sd = x :=
  Both.get_set_self _ _ _

theorem State.setSide_side_ne (s : State) {sd sd' : Side} (x : SideCtl) (h : sd' ≠ sd) :
    (s.setSide sd x).side sd' = s.side sd' := Both.get_set_ne _ _ h

@[simp] theorem State.setSide_side_other (s : State) (sd : Side) (x : SideCtl) :
    (s.setSide sd x).side sd.other = s.side sd.other := Both.get_set_other _ _ _

@[simp] theorem State.setChan_chan_self (s : State) (m : Meter) (x : Channel) : (s.setChan m x).chan m = x :=
  PerMeter.get_set_self _ _ _

theorem State.setChan_chan_ne (s : State) {m m' : Meter} (x : Channel) (h : m' ≠ m) :
    (s.setChan m x).chan m' = s.chan m' := PerMeter.get_set_ne _ _ h

@[simp] theorem State.setMotor_motor_self (s : State) (p : Product) (x : Motor) : (s.setMotor p x).motor p = x :=
  PerProduct.get_set_self _ _ _

theorem State.setMotor_motor_ne (s : State) {p p' : Product} (x : Motor) (h : p' ≠ p) :
    (s.setMotor p x).motor p' = s.motor p' := PerProduct.get_set_ne _ _ h

@[simp] theorem State.setDisp_disp_self (s : State) (sd : Side) (x : DispSide) : (s.setDisp sd x).disp sd = x :=
  Both.get_set_self _ _ _

theorem State.setDisp_disp_ne (s : State) {sd sd' : Side} (x : DispSide) (h : sd' ≠ sd) :
    (s.setDisp sd x).disp sd' = s.disp sd' := Both.get_set_ne _ _ h

@[simp] theorem State.setDisp_disp_other (s : State) (sd : Side) (x : DispSide) :
    (s.setDisp sd x).disp sd.other = s.disp sd.other := Both.get_set_other _ _ _

@[simp] theorem State.setGate_gate_self (s : State) (sd : Side) (x : GateCtl) : (s.setGate sd x).gate sd = x :=
  Both.get_set_self _ _ _

theorem State.setGate_gate_ne (s : State) {sd sd' : Side} (x : GateCtl) (h : sd' ≠ sd) :
    (s.setGate sd x).gate sd' = s.gate sd' := Both.get_set_ne _ _ h

@[simp] theorem State.setGate_gate_other (s : State) (sd : Side) (x : GateCtl) :
    (s.setGate sd x).gate sd.other = s.gate sd.other := Both.get_set_other _ _ _

@[simp] theorem State.setRecords_records_self (s : State) (sd : Side) (x : Records) : (s.setRecords sd x).records sd = x :=
  Both.get_set_self _ _ _

theorem State.setRecords_records_ne (s : State) {sd sd' : Side} (x : Records) (h : sd' ≠ sd) :
    (s.setRecords sd x).records sd' = s.records sd' := Both.get_set_ne _ _ h

@[simp] theorem State.setRecords_records_other (s : State) (sd : Side) (x : Records) :
    (s.setRecords sd x).records sd.other = s.records sd.other := Both.get_set_other _ _ _

@[simp] theorem State.setHeader_header_self (s : State) (f : Folio) (h : Header) : (s.setHeader f h).header f = h := by
  show (s.exch.headers.set f.val h)[f.val] = h
  exact Vector.getElem_set_self _

theorem State.setHeader_header_ne (s : State) {f g : Folio} (h : Header) (hne : g ≠ f) :
    (s.setHeader f h).header g = s.header g := by
  have hv : f.val ≠ g.val := fun e => hne (Fin.ext e.symm)
  show (s.exch.headers.set f.val h)[g.val] = s.exch.headers[g.val]
  rw [Vector.getElem_set_ne _ _ hv]

@[simp] theorem State.setSide_reads (s : State) (k : Side) (x : SideCtl) :
    (∀ i, (s.setSide k x).chan i = s.chan i) ∧ (∀ i, (s.setSide k x).motor i = s.motor i) ∧
      (∀ i, (s.setSide k x).disp i = s.disp i) ∧ (∀ i, (s.setSide k x).gate i = s.gate i) ∧
      (∀ i, (s.setSide k x).records i = s.records i) ∧ (∀ i, (s.setSide k x).header i = s.header i) :=
  ⟨fun _ => rfl, fun _ => rfl, fun _ => rfl, fun _ => rfl, fun _ => rfl, fun _ => rfl⟩

@[simp] theorem State.setChan_reads (s : State) (k : Meter) (x : Channel) :
    (∀ i, (s.setChan k x).side i = s.side i) ∧ (∀ i, (s.setChan k x).motor i = s.motor i) ∧
      (∀ i, (s.setChan k x).disp i = s.disp i) ∧ (∀ i, (s.setChan k x).gate i = s.gate i) ∧
      (∀ i, (s.setChan k x).records i = s.records i) ∧ (∀ i, (s.setChan k x).header i = s.header i) :=
  ⟨fun _ => rfl, fun _ => rfl, fun _ => rfl, fun _ => rfl, fun _ => rfl, fun _ => rfl⟩

@[simp] theorem State.setMotor_reads (s : State) (k : Product) (x : Motor) :
    (∀ i, (s.setMotor k x).side i = s.side i) ∧ (∀ i, (s.setMotor k x).chan i = s.chan i) ∧
      (∀ i, (s.setMotor k x).disp i = s.disp i) ∧ (∀ i, (s.setMotor k x).gate i = s.gate i) ∧
      (∀ i, (s.setMotor k x).records i = s.records i) ∧ (∀ i, (s.setMotor k x).header i = s.header i) :=
  ⟨fun _ => rfl, fun _ => rfl, fun _ => rfl, fun _ => rfl, fun _ => rfl, fun _ => rfl⟩

@[simp] theorem State.setDisp_reads (s : State) (k : Side) (x : DispSide) :
    (∀ i, (s.setDisp k x).side i = s.side i) ∧ (∀ i, (s.setDisp k x).chan i = s.chan i) ∧
      (∀ i, (s.setDisp k x).motor i = s.motor i) ∧ (∀ i, (s.setDisp k x).gate i = s.gate i) ∧
      (∀ i, (s.setDisp k x).records i = s.records i) ∧ (∀ i, (s.setDisp k x).header i = s.header i) :=
  ⟨fun _ => rfl, fun _ => rfl, fun _ => rfl, fun _ => rfl, fun _ => rfl, fun _ => rfl⟩

@[simp] theorem State.setGate_reads (s : State) (k : Side) (x : GateCtl) :
    (∀ i, (s.setGate k x).side i = s.side i) ∧ (∀ i, (s.setGate k x).chan i = s.chan i) ∧
      (∀ i, (s.setGate k x).motor i = s.motor i) ∧ (∀ i, (s.setGate k x).disp i = s.disp i) ∧
      (∀ i, (s.setGate k x).records i = s.records i) ∧ (∀ i, (s.setGate k x).header i = s.header i) :=
  ⟨fun _ => rfl, fun _ => rfl, fun _ => rfl, fun _ => rfl, fun _ => rfl, fun _ => rfl⟩

@[simp] theorem State.setRecords_reads (s : State) (k : Side) (x : Records) :
    (∀ i, (s.setRecords k x).side i = s.side i) ∧ (∀ i, (s.setRecords k x).chan i = s.chan i) ∧
      (∀ i, (s.setRecords k x).motor i = s.motor i) ∧ (∀ i, (s.setRecords k x).disp i = s.disp i) ∧
      (∀ i, (s.setRecords k x).gate i = s.gate i) ∧ (∀ i, (s.setRecords k x).header i = s.header i) :=
  ⟨fun _ => rfl, fun _ => rfl, fun _ => rfl, fun _ => rfl, fun _ => rfl, fun _ => rfl⟩

@[simp] theorem State.setHeader_reads (s : State) (k : Folio) (x : Header) :
    (∀ i, (s.setHeader k x).side i = s.side i) ∧ (∀ i, (s.setHeader k x).chan i = s.chan i) ∧
      (∀ i, (s.setHeader k x).motor i = s.motor i) ∧ (∀ i, (s.setHeader k x).disp i = s.disp i) ∧
      (∀ i, (s.setHeader k x).gate i = s.gate i) ∧ (∀ i, (s.setHeader k x).records i = s.records i) :=
  ⟨fun _ => rfl, fun _ => rfl, fun _ => rfl, fun _ => rfl, fun _ => rfl, fun _ => rfl⟩

@[simp] theorem State.elapse_reads (s : State) (dt : Nat) :
    (∀ i, (s.elapse dt).side i = s.side i) ∧ (∀ i, (s.elapse dt).chan i = s.chan i) ∧
      (∀ i, (s.elapse dt).motor i = s.motor i) ∧ (∀ i, (s.elapse dt).disp i = s.disp i) ∧
      (∀ i, (s.elapse dt).gate i = s.gate i) ∧ (∀ i, (s.elapse dt).records i = s.records i) ∧
      (∀ i, (s.elapse dt).header i = s.header i) :=
  ⟨fun _ => rfl, fun _ => rfl, fun _ => rfl, fun _ => rfl, fun _ => rfl, fun _ => rfl, fun _ => rfl⟩

@[simp] theorem State.setFifo_reads (s : State) (q : List Product) :
    (∀ i, (s.setFifo q).side i = s.side i) ∧ (∀ i, (s.setFifo q).chan i = s.chan i) ∧
      (∀ i, (s.setFifo q).motor i = s.motor i) ∧ (∀ i, (s.setFifo q).disp i = s.disp i) ∧
      (∀ i, (s.setFifo q).gate i = s.gate i) ∧ (∀ i, (s.setFifo q).records i = s.records i) ∧
      (∀ i, (s.setFifo q).header i = s.header i) :=
  ⟨fun _ => rfl, fun _ => rfl, fun _ => rfl, fun _ => rfl, fun _ => rfl, fun _ => rfl, fun _ => rfl⟩

@[simp] theorem State.setFresh_reads (s : State) (g : Folio) :
    (∀ i, (s.setFresh g).side i = s.side i) ∧ (∀ i, (s.setFresh g).chan i = s.chan i) ∧
      (∀ i, (s.setFresh g).motor i = s.motor i) ∧ (∀ i, (s.setFresh g).disp i = s.disp i) ∧
      (∀ i, (s.setFresh g).gate i = s.gate i) ∧ (∀ i, (s.setFresh g).records i = s.records i) ∧
      (∀ i, (s.setFresh g).header i = s.header i) :=
  ⟨fun _ => rfl, fun _ => rfl, fun _ => rfl, fun _ => rfl, fun _ => rfl, fun _ => rfl, fun _ => rfl⟩

@[simp] theorem State.clearFresh_reads (s : State) (g : Folio) :
    (∀ i, (s.clearFresh g).side i = s.side i) ∧ (∀ i, (s.clearFresh g).chan i = s.chan i) ∧
      (∀ i, (s.clearFresh g).motor i = s.motor i) ∧ (∀ i, (s.clearFresh g).disp i = s.disp i) ∧
      (∀ i, (s.clearFresh g).gate i = s.gate i) ∧ (∀ i, (s.clearFresh g).records i = s.records i) ∧
      (∀ i, (s.clearFresh g).header i = s.header i) :=
  ⟨fun _ => rfl, fun _ => rfl, fun _ => rfl, fun _ => rfl, fun _ => rfl, fun _ => rfl, fun _ => rfl⟩

@[simp] theorem State.setStray_reads (s : State) :
    (∀ i, (s.setStray).side i = s.side i) ∧ (∀ i, (s.setStray).chan i = s.chan i) ∧
      (∀ i, (s.setStray).motor i = s.motor i) ∧ (∀ i, (s.setStray).disp i = s.disp i) ∧
      (∀ i, (s.setStray).gate i = s.gate i) ∧ (∀ i, (s.setStray).records i = s.records i) ∧
      (∀ i, (s.setStray).header i = s.header i) :=
  ⟨fun _ => rfl, fun _ => rfl, fun _ => rfl, fun _ => rfl, fun _ => rfl, fun _ => rfl, fun _ => rfl⟩

@[simp] theorem State.elapse_now (s : State) (dt : Nat) : (s.elapse dt).now = s.now + dt := rfl

/-- A hand-over writes the header of its folio and no other (R181). -/
theorem State.handOver_header (s : State) (f : Folio) (r : Result) (detail : Word32) :
    (s.handOver f r detail).header f = { s.header f with
        result := r, detail := detail, stamp := s.mode.clock.toNat
        count := ((s.header f).count + 1) % 65536, holder := .host } ∧
      ∀ g, g ≠ f → (s.handOver f r detail).header g = s.header g :=
  ⟨State.setHeader_header_self _ _ _, fun _ h => State.setHeader_header_ne _ _ h⟩

/-- An event changes the ring at its place, the counter, and the change count of its EVENTS folio (R185). -/
theorem State.raise_ring (s : State) (kind : EventKind) (object : Nat) (d1 d2 : Detail) :
    (s.raise kind object d1 d2).exch.ring = s.exch.ring.set (ringPos s.exch.nextEvent).val
        (some ⟨s.exch.nextEvent, s.mode.clock, object, kind, d1, d2⟩) ∧
      (s.raise kind object d1 d2).exch.nextEvent = succ32 s.exch.nextEvent ∧
      ∀ g, g ≠ eventFolio (ringPos s.exch.nextEvent) → (s.raise kind object d1 d2).header g = s.header g :=
  ⟨rfl, rfl, fun _ h => State.setHeader_header_ne _ _ h⟩

/-- A folio refused for its length changes its own header and fresh bit, with the host reference of R181. -/
theorem State.refuseLength_header (s : State) (f : Folio) :
    (s.refuseLength f).header f = { s.header f with
        ref := s.answerRef f, result := .invalidLength, detail := 0, stamp := s.mode.clock.toNat
        count := ((s.header f).count + 1) % 65536, holder := .host } ∧
      ∀ g, g ≠ f → (s.refuseLength f).header g = s.header g := by
  constructor
  · simp [State.refuseLength, (State.handOver_header _ f _ _).1]
  · intro g h
    simp only [State.refuseLength]
    rw [(State.handOver_header _ f _ _).2 g h]; exact State.setHeader_header_ne _ _ h

/-- All that a touch can do: STRAY, INVALID_LENGTH, or its owner's decision on the part-held folio (R180). -/
theorem State.touchWith_cases (s : State) (f : Folio) (serve : State → State) :
    (s.touchable f = false ∧ s.touchWith f serve = s.setStray) ∨
      (s.touchable f = true ∧ 240 < (s.header f).len.toNat ∧
        s.touchWith f serve = (s.touched f).refuseLength f) ∨
      (s.touchable f = true ∧ (s.header f).len.toNat ≤ 240 ∧ s.touchWith f serve = serve (s.touched f)) := by
  unfold State.touchWith
  cases ht : s.touchable f
  · exact .inl ⟨rfl, rfl⟩
  · by_cases h : 240 < (s.header f).len.toNat
    · exact .inr (.inl ⟨rfl, h, by simp [h]⟩)
    · exact .inr (.inr ⟨rfl, by omega, by simp [h]⟩)

end Sys2Proof.Machine
end

