-- ==== Sys2Proof/Laws/Displays.lean ====
section
/-!
SUPPORT. The bytes of a composed frame: its length, and the lamp byte with one bit to each lamp.
-/
namespace Sys2Proof.Machine

@[simp] theorem figure_length (width decimals value : Nat) : (figure width decimals value).length = width := by
  simp [figure]

@[simp] theorem pole_length (p : PriceTable) (sd : Side) (n : Fin 4) : (pole p sd n).length = 5 := by
  unfold pole; split <;> simp

@[simp] theorem charPair_length (c : Byte) : (charPair c).length = 2 := by
  unfold charPair; split <;> rfl

@[simp] theorem eight_length (text : List Byte) : (eight text).length = 8 := by
  simp [eight]

/-- A composed frame has 54 bytes (05, The segment chains). -/
@[simp] theorem State.composeFrame_length (s : State) (sd : Side) : (s.composeFrame sd).length = 54 := by
  simp [State.composeFrame, List.length_flatMap]

/-- The last byte of a composed frame is the lamp byte. -/
theorem State.composeFrame_lamps (s : State) (sd : Side) : (s.composeFrame sd).getLast? = some (lampByte (s.lamps sd)) := by
  simp [State.composeFrame]

/-- Each lamp has its bit of the lamp byte, 1 while it is lit (R95). -/
theorem lampByte_bit (lamps : Vector Bool 8) (i : Fin 8) :
    (lampByte lamps).getLsbD (lampBit i).val = lamps.get i := by
  unfold lampByte lampBit
  generalize Config.firstLampIsBit0 = b
  simp only [show List.finRange 8 = [0, 1, 2, 3, 4, 5, 6, 7] from rfl, List.foldl_cons, List.foldl_nil]
  have bit : ∀ (x : Bool) (j : Nat) (h : j < 8), (if x then 1#8 else 0#8)[j] = (x && decide (j = 0)) := by
    decide
  cases b <;> fin_cases i <;> simp [bit]

end Sys2Proof.Machine
end

