-- ==== Sys2Proof/Laws/Frames.lean ====
section
/-!
SUPPORT. The frame of every shared operation: what it leaves of the state as it was.
-/
set_option linter.unnecessarySeqFocus false
set_option linter.unusedTactic false
set_option linter.unreachableTactic false

namespace Sys2Proof.Machine

@[simp] theorem State.beginWrite_frame (s : State) :
    (s.beginWrite).now = s.now ∧ (s.beginWrite).pfe = s.pfe ∧ (s.beginWrite).sides = s.sides ∧
      (s.beginWrite).prices = s.prices ∧ (s.beginWrite).motors = s.motors ∧ (s.beginWrite).display = s.display ∧
      (s.beginWrite).gates = s.gates ∧ (s.beginWrite).mode = s.mode ∧ (s.beginWrite).exch.mem = s.exch.mem ∧
      (s.beginWrite).exch.config = s.exch.config ∧ (s.beginWrite).exch.mask = s.exch.mask ∧
      (s.beginWrite).exch.ready = s.exch.ready ∧ (s.beginWrite).pins = s.pins ∧ (s.beginWrite).pending = s.pending := by
  unfold State.beginWrite; (try dsimp only [State.bothSides]); (repeat' split) <;> simp

@[simp] theorem State.setRequest_frame (s : State) :
    (s.setRequest).now = s.now ∧ (s.setRequest).pfe = s.pfe ∧ (s.setRequest).sides = s.sides ∧
      (s.setRequest).prices = s.prices ∧ (s.setRequest).motors = s.motors ∧ (s.setRequest).display = s.display ∧
      (s.setRequest).gates = s.gates ∧ (s.setRequest).store = s.store ∧ (s.setRequest).mode = s.mode ∧
      (s.setRequest).exch.mem = s.exch.mem ∧ (s.setRequest).exch.config = s.exch.config ∧
      (s.setRequest).exch.mask = s.exch.mask ∧ (s.setRequest).exch.ready = s.exch.ready ∧
      (s.setRequest).pins = s.pins ∧ (s.setRequest).pending = s.pending := by
  unfold State.setRequest; (try dsimp only [State.bothSides]); (repeat' split) <;> simp

@[simp] theorem State.requestSnapshot_frame (s : State) :
    (s.requestSnapshot).now = s.now ∧ (s.requestSnapshot).pfe = s.pfe ∧ (s.requestSnapshot).sides = s.sides ∧
      (s.requestSnapshot).prices = s.prices ∧ (s.requestSnapshot).motors = s.motors ∧
      (s.requestSnapshot).display = s.display ∧ (s.requestSnapshot).gates = s.gates ∧
      (s.requestSnapshot).mode = s.mode ∧ (s.requestSnapshot).exch.mem = s.exch.mem ∧
      (s.requestSnapshot).exch.config = s.exch.config ∧ (s.requestSnapshot).exch.mask = s.exch.mask ∧
      (s.requestSnapshot).exch.ready = s.exch.ready ∧ (s.requestSnapshot).pins = s.pins ∧
      (s.requestSnapshot).pending = s.pending := by
  unfold State.requestSnapshot; (try dsimp only [State.bothSides]); (repeat' split) <;> simp

@[simp] theorem State.periodicCheck_frame (s : State) :
    (s.periodicCheck).now = s.now ∧ (s.periodicCheck).pfe = s.pfe ∧ (s.periodicCheck).sides = s.sides ∧
      (s.periodicCheck).prices = s.prices ∧ (s.periodicCheck).motors = s.motors ∧
      (s.periodicCheck).display = s.display ∧ (s.periodicCheck).gates = s.gates ∧ (s.periodicCheck).store = s.store ∧
      (s.periodicCheck).mode = s.mode ∧ (s.periodicCheck).exch.mem = s.exch.mem ∧
      (s.periodicCheck).exch.config = s.exch.config ∧ (s.periodicCheck).exch.mask = s.exch.mask ∧
      (s.periodicCheck).exch.ready = s.exch.ready ∧ (s.periodicCheck).pins = s.pins ∧
      (s.periodicCheck).pending = s.pending := by
  unfold State.periodicCheck; (try dsimp only [State.bothSides]); (repeat' split) <;> simp

@[simp] theorem State.periodicAdd_frame (s : State) (cf : Nat) :
    (s.periodicAdd cf).now = s.now ∧ (s.periodicAdd cf).pfe = s.pfe ∧ (s.periodicAdd cf).sides = s.sides ∧
      (s.periodicAdd cf).prices = s.prices ∧ (s.periodicAdd cf).motors = s.motors ∧
      (s.periodicAdd cf).display = s.display ∧ (s.periodicAdd cf).gates = s.gates ∧
      (s.periodicAdd cf).mode = s.mode ∧ (s.periodicAdd cf).exch.mem = s.exch.mem ∧
      (s.periodicAdd cf).exch.config = s.exch.config ∧ (s.periodicAdd cf).exch.mask = s.exch.mask ∧
      (s.periodicAdd cf).exch.ready = s.exch.ready ∧ (s.periodicAdd cf).pins = s.pins ∧
      (s.periodicAdd cf).pending = s.pending := by
  unfold State.periodicAdd; (try dsimp only [State.bothSides]); (repeat' split) <;> simp

@[simp] theorem State.testWatch_frame (s : State) (t : TotalId) (old : Nat) (new : Nat) (i : Fin 4) :
    (s.testWatch t old new i).now = s.now ∧ (s.testWatch t old new i).pfe = s.pfe ∧
      (s.testWatch t old new i).sides = s.sides ∧ (s.testWatch t old new i).prices = s.prices ∧
      (s.testWatch t old new i).motors = s.motors ∧ (s.testWatch t old new i).display = s.display ∧
      (s.testWatch t old new i).gates = s.gates ∧ (s.testWatch t old new i).journal = s.journal ∧
      (s.testWatch t old new i).mode = s.mode ∧ (s.testWatch t old new i).exch.mem = s.exch.mem ∧
      (s.testWatch t old new i).exch.config = s.exch.config ∧ (s.testWatch t old new i).exch.mask = s.exch.mask ∧
      (s.testWatch t old new i).exch.ready = s.exch.ready ∧ (s.testWatch t old new i).pins = s.pins ∧
      (s.testWatch t old new i).pending = s.pending := by
  unfold State.testWatch; (try dsimp only [State.bothSides]); (repeat' split) <;> simp

@[simp] theorem State.testWatches_frame (s : State) (t : TotalId) (old : Nat) (new : Nat) :
    (s.testWatches t old new).now = s.now ∧ (s.testWatches t old new).pfe = s.pfe ∧
      (s.testWatches t old new).sides = s.sides ∧ (s.testWatches t old new).prices = s.prices ∧
      (s.testWatches t old new).motors = s.motors ∧ (s.testWatches t old new).display = s.display ∧
      (s.testWatches t old new).gates = s.gates ∧ (s.testWatches t old new).journal = s.journal ∧
      (s.testWatches t old new).mode = s.mode ∧ (s.testWatches t old new).exch.mem = s.exch.mem ∧
      (s.testWatches t old new).exch.config = s.exch.config ∧ (s.testWatches t old new).exch.mask = s.exch.mask ∧
      (s.testWatches t old new).exch.ready = s.exch.ready ∧ (s.testWatches t old new).pins = s.pins ∧
      (s.testWatches t old new).pending = s.pending := by
  unfold State.testWatches; (try dsimp only [State.bothSides]); (repeat' split) <;> simp

@[simp] theorem State.setTotals_frame (s : State) (t : Totals) :
    (s.setTotals t).now = s.now ∧ (s.setTotals t).pfe = s.pfe ∧ (s.setTotals t).sides = s.sides ∧
      (s.setTotals t).prices = s.prices ∧ (s.setTotals t).motors = s.motors ∧ (s.setTotals t).display = s.display ∧
      (s.setTotals t).gates = s.gates ∧ (s.setTotals t).journal = s.journal ∧ (s.setTotals t).mode = s.mode ∧
      (s.setTotals t).exch.mem = s.exch.mem ∧ (s.setTotals t).exch.config = s.exch.config ∧
      (s.setTotals t).exch.mask = s.exch.mask ∧ (s.setTotals t).exch.ready = s.exch.ready ∧
      (s.setTotals t).pins = s.pins ∧ (s.setTotals t).pending = s.pending := by
  unfold State.setTotals; (try dsimp only [State.bothSides]); (repeat' split) <;> simp

@[simp] theorem State.addMeterTotal_frame (s : State) (m : Meter) (cf : Nat) :
    (s.addMeterTotal m cf).now = s.now ∧ (s.addMeterTotal m cf).pfe = s.pfe ∧
      (s.addMeterTotal m cf).sides = s.sides ∧ (s.addMeterTotal m cf).prices = s.prices ∧
      (s.addMeterTotal m cf).motors = s.motors ∧ (s.addMeterTotal m cf).display = s.display ∧
      (s.addMeterTotal m cf).gates = s.gates ∧ (s.addMeterTotal m cf).journal = s.journal ∧
      (s.addMeterTotal m cf).mode = s.mode ∧ (s.addMeterTotal m cf).exch.mem = s.exch.mem ∧
      (s.addMeterTotal m cf).exch.config = s.exch.config ∧ (s.addMeterTotal m cf).exch.mask = s.exch.mask ∧
      (s.addMeterTotal m cf).exch.ready = s.exch.ready ∧ (s.addMeterTotal m cf).pins = s.pins ∧
      (s.addMeterTotal m cf).pending = s.pending := by
  unfold State.addMeterTotal; (try dsimp only [State.bothSides]); (repeat' split) <;> simp

@[simp] theorem State.addUnattributed_frame (s : State) (m : Meter) (cf : Nat) :
    (s.addUnattributed m cf).now = s.now ∧ (s.addUnattributed m cf).pfe = s.pfe ∧
      (s.addUnattributed m cf).sides = s.sides ∧ (s.addUnattributed m cf).prices = s.prices ∧
      (s.addUnattributed m cf).motors = s.motors ∧ (s.addUnattributed m cf).display = s.display ∧
      (s.addUnattributed m cf).gates = s.gates ∧ (s.addUnattributed m cf).journal = s.journal ∧
      (s.addUnattributed m cf).mode = s.mode ∧ (s.addUnattributed m cf).exch.mem = s.exch.mem ∧
      (s.addUnattributed m cf).exch.config = s.exch.config ∧ (s.addUnattributed m cf).exch.mask = s.exch.mask ∧
      (s.addUnattributed m cf).exch.ready = s.exch.ready ∧ (s.addUnattributed m cf).pins = s.pins ∧
      (s.addUnattributed m cf).pending = s.pending := by
  unfold State.addUnattributed; (try dsimp only [State.bothSides]); (repeat' split) <;> simp

@[simp] theorem State.addGradeTotals_frame (s : State) (g : Fin 6) (volume : Nat) (money : Nat) :
    (s.addGradeTotals g volume money).now = s.now ∧ (s.addGradeTotals g volume money).pfe = s.pfe ∧
      (s.addGradeTotals g volume money).sides = s.sides ∧ (s.addGradeTotals g volume money).prices = s.prices ∧
      (s.addGradeTotals g volume money).motors = s.motors ∧ (s.addGradeTotals g volume money).display = s.display ∧
      (s.addGradeTotals g volume money).gates = s.gates ∧ (s.addGradeTotals g volume money).journal = s.journal ∧
      (s.addGradeTotals g volume money).mode = s.mode ∧ (s.addGradeTotals g volume money).exch.mem = s.exch.mem ∧
      (s.addGradeTotals g volume money).exch.config = s.exch.config ∧
      (s.addGradeTotals g volume money).exch.mask = s.exch.mask ∧
      (s.addGradeTotals g volume money).exch.ready = s.exch.ready ∧ (s.addGradeTotals g volume money).pins = s.pins ∧
      (s.addGradeTotals g volume money).pending = s.pending := by
  unfold State.addGradeTotals; (try dsimp only [State.bothSides]); (repeat' split) <;> simp

@[simp] theorem State.countRecord_frame (s : State) (r : SaleRecord) :
    (s.countRecord r).now = s.now ∧ (s.countRecord r).pfe = s.pfe ∧ (s.countRecord r).sides = s.sides ∧
      (s.countRecord r).prices = s.prices ∧ (s.countRecord r).motors = s.motors ∧
      (s.countRecord r).display = s.display ∧ (s.countRecord r).gates = s.gates ∧
      (s.countRecord r).journal = s.journal ∧ (s.countRecord r).mode = s.mode ∧
      (s.countRecord r).exch.mem = s.exch.mem ∧ (s.countRecord r).exch.config = s.exch.config ∧
      (s.countRecord r).exch.mask = s.exch.mask ∧ (s.countRecord r).exch.ready = s.exch.ready ∧
      (s.countRecord r).pins = s.pins ∧ (s.countRecord r).pending = s.pending := by
  unfold State.countRecord; (try dsimp only [State.bothSides]); (repeat' split) <;> simp

@[simp] theorem State.takeRecord_frame (s : State) (r : SaleRecord) :
    (s.takeRecord r).now = s.now ∧ (s.takeRecord r).pfe = s.pfe ∧ (s.takeRecord r).sides = s.sides ∧
      (s.takeRecord r).prices = s.prices ∧ (s.takeRecord r).motors = s.motors ∧
      (s.takeRecord r).display = s.display ∧ (s.takeRecord r).gates = s.gates ∧ (s.takeRecord r).mode = s.mode ∧
      (s.takeRecord r).exch.mem = s.exch.mem ∧ (s.takeRecord r).exch.config = s.exch.config ∧
      (s.takeRecord r).exch.mask = s.exch.mask ∧ (s.takeRecord r).exch.ready = s.exch.ready ∧
      (s.takeRecord r).pins = s.pins ∧ (s.takeRecord r).pending = s.pending := by
  unfold State.takeRecord; (try dsimp only [State.bothSides]); (repeat' split) <;> simp

@[simp] theorem State.advanceNumber_frame (s : State) :
    (s.advanceNumber).now = s.now ∧ (s.advanceNumber).pfe = s.pfe ∧ (s.advanceNumber).sides = s.sides ∧
      (s.advanceNumber).prices = s.prices ∧ (s.advanceNumber).motors = s.motors ∧
      (s.advanceNumber).display = s.display ∧ (s.advanceNumber).gates = s.gates ∧
      (s.advanceNumber).journal = s.journal ∧ (s.advanceNumber).mode = s.mode ∧
      (s.advanceNumber).exch.mem = s.exch.mem ∧ (s.advanceNumber).exch.config = s.exch.config ∧
      (s.advanceNumber).exch.mask = s.exch.mask ∧ (s.advanceNumber).exch.ready = s.exch.ready ∧
      (s.advanceNumber).pins = s.pins ∧ (s.advanceNumber).pending = s.pending := by
  unfold State.advanceNumber; (try dsimp only [State.bothSides]); (repeat' split) <;> simp

@[simp] theorem State.reportHandOver_frame (s : State) (sd : Side) :
    (s.reportHandOver sd).now = s.now ∧ (s.reportHandOver sd).pfe = s.pfe ∧ (s.reportHandOver sd).sides = s.sides ∧
      (s.reportHandOver sd).prices = s.prices ∧ (s.reportHandOver sd).motors = s.motors ∧
      (s.reportHandOver sd).display = s.display ∧ (s.reportHandOver sd).gates = s.gates ∧
      (s.reportHandOver sd).store = s.store ∧ (s.reportHandOver sd).journal = s.journal ∧
      (s.reportHandOver sd).mode = s.mode ∧ (s.reportHandOver sd).exch.mem = s.exch.mem ∧
      (s.reportHandOver sd).exch.config = s.exch.config ∧ (s.reportHandOver sd).exch.mask = s.exch.mask ∧
      (s.reportHandOver sd).exch.ready = s.exch.ready ∧ (s.reportHandOver sd).pins = s.pins ∧
      (s.reportHandOver sd).pending = s.pending := by
  unfold State.reportHandOver; (try dsimp only [State.bothSides]); (repeat' split) <;> simp

@[simp] theorem State.reportFlow_frame (s : State) (sd : Side) :
    (s.reportFlow sd).now = s.now ∧ (s.reportFlow sd).pfe = s.pfe ∧ (s.reportFlow sd).sides = s.sides ∧
      (s.reportFlow sd).prices = s.prices ∧ (s.reportFlow sd).motors = s.motors ∧
      (s.reportFlow sd).display = s.display ∧ (s.reportFlow sd).gates = s.gates ∧
      (s.reportFlow sd).journal = s.journal ∧ (s.reportFlow sd).mode = s.mode ∧
      (s.reportFlow sd).exch.config = s.exch.config ∧ (s.reportFlow sd).exch.mask = s.exch.mask ∧
      (s.reportFlow sd).exch.ready = s.exch.ready ∧ (s.reportFlow sd).pins = s.pins ∧
      (s.reportFlow sd).pending = s.pending := by
  unfold State.reportFlow; (try dsimp only [State.bothSides]); (repeat' split) <;> simp

@[simp] theorem State.recordMarked_frame (s : State) (slot : Fin 16) :
    (s.recordMarked slot).now = s.now ∧ (s.recordMarked slot).pfe = s.pfe ∧ (s.recordMarked slot).sides = s.sides ∧
      (s.recordMarked slot).prices = s.prices ∧ (s.recordMarked slot).motors = s.motors ∧
      (s.recordMarked slot).display = s.display ∧ (s.recordMarked slot).gates = s.gates ∧
      (s.recordMarked slot).journal = s.journal ∧ (s.recordMarked slot).mode = s.mode ∧
      (s.recordMarked slot).exch.config = s.exch.config ∧ (s.recordMarked slot).exch.mask = s.exch.mask ∧
      (s.recordMarked slot).exch.ready = s.exch.ready ∧ (s.recordMarked slot).pins = s.pins ∧
      (s.recordMarked slot).pending = s.pending := by
  unfold State.recordMarked; (try dsimp only [State.bothSides]); (repeat' split) <;> simp

@[simp] theorem State.reportRunning_frame (s : State) (u : User) (p : Product) :
    (s.reportRunning u p).now = s.now ∧ (s.reportRunning u p).pfe = s.pfe ∧ (s.reportRunning u p).prices = s.prices ∧
      (s.reportRunning u p).motors = s.motors ∧ (s.reportRunning u p).display = s.display ∧
      (s.reportRunning u p).gates = s.gates ∧ (s.reportRunning u p).store = s.store ∧
      (s.reportRunning u p).journal = s.journal ∧ (s.reportRunning u p).mode.mode = s.mode.mode ∧
      (s.reportRunning u p).exch.mem = s.exch.mem ∧ (s.reportRunning u p).exch.config = s.exch.config ∧
      (s.reportRunning u p).exch.mask = s.exch.mask ∧ (s.reportRunning u p).exch.ready = s.exch.ready ∧
      (s.reportRunning u p).pins = s.pins ∧ (s.reportRunning u p).pending = s.pending := by
  unfold State.reportRunning; (try dsimp only [State.bothSides]); (repeat' split) <;> simp

@[simp] theorem State.reportAll_frame (s : State) (u : Users) (p : Product) :
    (s.reportAll u p).now = s.now ∧ (s.reportAll u p).pfe = s.pfe ∧ (s.reportAll u p).prices = s.prices ∧
      (s.reportAll u p).motors = s.motors ∧ (s.reportAll u p).display = s.display ∧
      (s.reportAll u p).gates = s.gates ∧ (s.reportAll u p).store = s.store ∧ (s.reportAll u p).journal = s.journal ∧
      (s.reportAll u p).mode.mode = s.mode.mode ∧ (s.reportAll u p).exch.mem = s.exch.mem ∧
      (s.reportAll u p).exch.config = s.exch.config ∧ (s.reportAll u p).exch.mask = s.exch.mask ∧
      (s.reportAll u p).exch.ready = s.exch.ready ∧ (s.reportAll u p).pins = s.pins ∧
      (s.reportAll u p).pending = s.pending := by
  unfold State.reportAll; (try dsimp only [State.bothSides]); (repeat' split) <;> simp

@[simp] theorem State.rundown_frame (s : State) (p : Product) (m : Motor) :
    (s.rundown p m).now = s.now ∧ (s.rundown p m).pfe = s.pfe ∧ (s.rundown p m).sides = s.sides ∧
      (s.rundown p m).prices = s.prices ∧ (s.rundown p m).display = s.display ∧ (s.rundown p m).gates = s.gates ∧
      (s.rundown p m).store = s.store ∧ (s.rundown p m).journal = s.journal ∧ (s.rundown p m).mode = s.mode ∧
      (s.rundown p m).exch.mem = s.exch.mem ∧ (s.rundown p m).exch.config = s.exch.config ∧
      (s.rundown p m).exch.mask = s.exch.mask ∧ (s.rundown p m).exch.ready = s.exch.ready ∧
      (s.rundown p m).pins = s.pins ∧ (s.rundown p m).pending = s.pending := by
  unfold State.rundown; (try dsimp only [State.bothSides]); (repeat' split) <;> simp

@[simp] theorem State.confirmStart_frame (s : State) (p : Product) :
    (s.confirmStart p).now = s.now ∧ (s.confirmStart p).pfe = s.pfe ∧ (s.confirmStart p).prices = s.prices ∧
      (s.confirmStart p).display = s.display ∧ (s.confirmStart p).gates = s.gates ∧
      (s.confirmStart p).store = s.store ∧ (s.confirmStart p).journal = s.journal ∧
      (s.confirmStart p).mode.mode = s.mode.mode ∧ (s.confirmStart p).exch.mem = s.exch.mem ∧
      (s.confirmStart p).exch.config = s.exch.config ∧ (s.confirmStart p).exch.mask = s.exch.mask ∧
      (s.confirmStart p).exch.ready = s.exch.ready ∧ (s.confirmStart p).pins = s.pins ∧
      (s.confirmStart p).pending = s.pending := by
  unfold State.confirmStart; (try dsimp only [State.bothSides]); (repeat' split) <;> simp

@[simp] theorem State.grant_frame (s : State) (p : Product) (rest : List Product) :
    (s.grant p rest).now = s.now ∧ (s.grant p rest).pfe = s.pfe ∧ (s.grant p rest).prices = s.prices ∧
      (s.grant p rest).display = s.display ∧ (s.grant p rest).gates = s.gates ∧ (s.grant p rest).store = s.store ∧
      (s.grant p rest).journal = s.journal ∧ (s.grant p rest).mode.mode = s.mode.mode ∧
      (s.grant p rest).exch.mem = s.exch.mem ∧ (s.grant p rest).exch.config = s.exch.config ∧
      (s.grant p rest).exch.mask = s.exch.mask ∧ (s.grant p rest).exch.ready = s.exch.ready ∧
      (s.grant p rest).pins = s.pins ∧ (s.grant p rest).pending = s.pending := by
  unfold State.grant; (try dsimp only [State.bothSides]); (repeat' split) <;> simp

@[simp] theorem State.arbiterTest_frame (s : State) :
    (s.arbiterTest).now = s.now ∧ (s.arbiterTest).pfe = s.pfe ∧ (s.arbiterTest).prices = s.prices ∧
      (s.arbiterTest).display = s.display ∧ (s.arbiterTest).gates = s.gates ∧ (s.arbiterTest).store = s.store ∧
      (s.arbiterTest).journal = s.journal ∧ (s.arbiterTest).mode.mode = s.mode.mode ∧
      (s.arbiterTest).exch.mem = s.exch.mem ∧ (s.arbiterTest).exch.config = s.exch.config ∧
      (s.arbiterTest).exch.mask = s.exch.mask ∧ (s.arbiterTest).exch.ready = s.exch.ready ∧
      (s.arbiterTest).pins = s.pins ∧ (s.arbiterTest).pending = s.pending := by
  unfold State.arbiterTest; (try dsimp only [State.bothSides]); (repeat' split) <;> simp

@[simp] theorem State.joinFifo_frame (s : State) (p : Product) :
    (s.joinFifo p).now = s.now ∧ (s.joinFifo p).pfe = s.pfe ∧ (s.joinFifo p).prices = s.prices ∧
      (s.joinFifo p).display = s.display ∧ (s.joinFifo p).gates = s.gates ∧ (s.joinFifo p).store = s.store ∧
      (s.joinFifo p).journal = s.journal ∧ (s.joinFifo p).mode.mode = s.mode.mode ∧
      (s.joinFifo p).exch.mem = s.exch.mem ∧ (s.joinFifo p).exch.config = s.exch.config ∧
      (s.joinFifo p).exch.mask = s.exch.mask ∧ (s.joinFifo p).exch.ready = s.exch.ready ∧
      (s.joinFifo p).pins = s.pins ∧ (s.joinFifo p).pending = s.pending := by
  unfold State.joinFifo; (try dsimp only [State.bothSides]); (repeat' split) <;> simp

@[simp] theorem State.dropFifo_frame (s : State) (p : Product) :
    (s.dropFifo p).now = s.now ∧ (s.dropFifo p).pfe = s.pfe ∧ (s.dropFifo p).prices = s.prices ∧
      (s.dropFifo p).display = s.display ∧ (s.dropFifo p).gates = s.gates ∧ (s.dropFifo p).store = s.store ∧
      (s.dropFifo p).journal = s.journal ∧ (s.dropFifo p).mode.mode = s.mode.mode ∧
      (s.dropFifo p).exch.mem = s.exch.mem ∧ (s.dropFifo p).exch.config = s.exch.config ∧
      (s.dropFifo p).exch.mask = s.exch.mask ∧ (s.dropFifo p).exch.ready = s.exch.ready ∧
      (s.dropFifo p).pins = s.pins ∧ (s.dropFifo p).pending = s.pending := by
  unfold State.dropFifo; (try dsimp only [State.bothSides]); (repeat' split) <;> simp

@[simp] theorem State.newHeadTest_frame (s : State) (b : Option Product) :
    (s.newHeadTest b).now = s.now ∧ (s.newHeadTest b).pfe = s.pfe ∧ (s.newHeadTest b).prices = s.prices ∧
      (s.newHeadTest b).display = s.display ∧ (s.newHeadTest b).gates = s.gates ∧ (s.newHeadTest b).store = s.store ∧
      (s.newHeadTest b).journal = s.journal ∧ (s.newHeadTest b).mode.mode = s.mode.mode ∧
      (s.newHeadTest b).exch.mem = s.exch.mem ∧ (s.newHeadTest b).exch.config = s.exch.config ∧
      (s.newHeadTest b).exch.mask = s.exch.mask ∧ (s.newHeadTest b).exch.ready = s.exch.ready ∧
      (s.newHeadTest b).pins = s.pins ∧ (s.newHeadTest b).pending = s.pending := by
  unfold State.newHeadTest; (try dsimp only [State.bothSides]); (repeat' split) <;> simp

@[simp] theorem State.register_frame (s : State) (u : User) (p : Product) :
    (s.register u p).now = s.now ∧ (s.register u p).pfe = s.pfe ∧ (s.register u p).prices = s.prices ∧
      (s.register u p).display = s.display ∧ (s.register u p).gates = s.gates ∧ (s.register u p).store = s.store ∧
      (s.register u p).journal = s.journal ∧ (s.register u p).mode.mode = s.mode.mode ∧
      (s.register u p).exch.mem = s.exch.mem ∧ (s.register u p).exch.config = s.exch.config ∧
      (s.register u p).exch.mask = s.exch.mask ∧ (s.register u p).exch.ready = s.exch.ready ∧
      (s.register u p).pins = s.pins ∧ (s.register u p).pending = s.pending := by
  unfold State.register; (try dsimp only [State.bothSides]); (repeat' split) <;> simp

@[simp] theorem State.release_frame (s : State) (u : User) (p : Product) :
    (s.release u p).now = s.now ∧ (s.release u p).pfe = s.pfe ∧ (s.release u p).prices = s.prices ∧
      (s.release u p).display = s.display ∧ (s.release u p).gates = s.gates ∧ (s.release u p).store = s.store ∧
      (s.release u p).journal = s.journal ∧ (s.release u p).mode.mode = s.mode.mode ∧
      (s.release u p).exch.mem = s.exch.mem ∧ (s.release u p).exch.config = s.exch.config ∧
      (s.release u p).exch.mask = s.exch.mask ∧ (s.release u p).exch.ready = s.exch.ready ∧
      (s.release u p).pins = s.pins ∧ (s.release u p).pending = s.pending := by
  unfold State.release; (try dsimp only [State.bothSides]); (repeat' split) <;> simp

@[simp] theorem State.releaseAll_frame (s : State) (u : User) :
    (s.releaseAll u).now = s.now ∧ (s.releaseAll u).pfe = s.pfe ∧ (s.releaseAll u).prices = s.prices ∧
      (s.releaseAll u).display = s.display ∧ (s.releaseAll u).gates = s.gates ∧ (s.releaseAll u).store = s.store ∧
      (s.releaseAll u).journal = s.journal ∧ (s.releaseAll u).mode.mode = s.mode.mode ∧
      (s.releaseAll u).exch.mem = s.exch.mem ∧ (s.releaseAll u).exch.config = s.exch.config ∧
      (s.releaseAll u).exch.mask = s.exch.mask ∧ (s.releaseAll u).exch.ready = s.exch.ready ∧
      (s.releaseAll u).pins = s.pins ∧ (s.releaseAll u).pending = s.pending := by
  unfold State.releaseAll; (try dsimp only [State.bothSides]); (repeat' split) <;> simp

@[simp] theorem State.failMotor_frame (s : State) (p : Product) (cause : MotorCause) :
    (s.failMotor p cause).now = s.now ∧ (s.failMotor p cause).pfe = s.pfe ∧ (s.failMotor p cause).sides = s.sides ∧
      (s.failMotor p cause).prices = s.prices ∧ (s.failMotor p cause).display = s.display ∧
      (s.failMotor p cause).gates = s.gates ∧ (s.failMotor p cause).store = s.store ∧
      (s.failMotor p cause).journal = s.journal ∧ (s.failMotor p cause).mode = s.mode ∧
      (s.failMotor p cause).exch.mem = s.exch.mem ∧ (s.failMotor p cause).exch.config = s.exch.config ∧
      (s.failMotor p cause).exch.mask = s.exch.mask ∧ (s.failMotor p cause).exch.ready = s.exch.ready ∧
      (s.failMotor p cause).pins = s.pins ∧ (s.failMotor p cause).pending = s.pending := by
  unfold State.failMotor; (try dsimp only [State.bothSides]); (repeat' split) <;> simp

@[simp] theorem State.unfailMotor_frame (s : State) (p : Product) :
    (s.unfailMotor p).now = s.now ∧ (s.unfailMotor p).pfe = s.pfe ∧ (s.unfailMotor p).sides = s.sides ∧
      (s.unfailMotor p).prices = s.prices ∧ (s.unfailMotor p).display = s.display ∧
      (s.unfailMotor p).gates = s.gates ∧ (s.unfailMotor p).store = s.store ∧ (s.unfailMotor p).journal = s.journal ∧
      (s.unfailMotor p).mode = s.mode ∧ (s.unfailMotor p).exch.mem = s.exch.mem ∧
      (s.unfailMotor p).exch.config = s.exch.config ∧ (s.unfailMotor p).exch.mask = s.exch.mask ∧
      (s.unfailMotor p).exch.ready = s.exch.ready ∧ (s.unfailMotor p).pins = s.pins ∧
      (s.unfailMotor p).pending = s.pending := by
  unfold State.unfailMotor; (try dsimp only [State.bothSides]); (repeat' split) <;> simp

@[simp] theorem State.rejoin_frame (s : State) (p : Product) :
    (s.rejoin p).now = s.now ∧ (s.rejoin p).pfe = s.pfe ∧ (s.rejoin p).prices = s.prices ∧
      (s.rejoin p).display = s.display ∧ (s.rejoin p).gates = s.gates ∧ (s.rejoin p).store = s.store ∧
      (s.rejoin p).journal = s.journal ∧ (s.rejoin p).mode.mode = s.mode.mode ∧ (s.rejoin p).exch.mem = s.exch.mem ∧
      (s.rejoin p).exch.config = s.exch.config ∧ (s.rejoin p).exch.mask = s.exch.mask ∧
      (s.rejoin p).exch.ready = s.exch.ready ∧ (s.rejoin p).pins = s.pins ∧ (s.rejoin p).pending = s.pending := by
  unfold State.rejoin; (try dsimp only [State.bothSides]); (repeat' split) <;> simp

@[simp] theorem State.stopMotor_frame (s : State) (p : Product) :
    (s.stopMotor p).now = s.now ∧ (s.stopMotor p).pfe = s.pfe ∧ (s.stopMotor p).prices = s.prices ∧
      (s.stopMotor p).display = s.display ∧ (s.stopMotor p).gates = s.gates ∧ (s.stopMotor p).store = s.store ∧
      (s.stopMotor p).journal = s.journal ∧ (s.stopMotor p).mode.mode = s.mode.mode ∧
      (s.stopMotor p).exch.mem = s.exch.mem ∧ (s.stopMotor p).exch.config = s.exch.config ∧
      (s.stopMotor p).exch.mask = s.exch.mask ∧ (s.stopMotor p).exch.ready = s.exch.ready ∧
      (s.stopMotor p).pins = s.pins ∧ (s.stopMotor p).pending = s.pending := by
  unfold State.stopMotor; (try dsimp only [State.bothSides]); (repeat' split) <;> simp

@[simp] theorem State.motorsHoldup_frame (s : State) :
    (s.motorsHoldup).now = s.now ∧ (s.motorsHoldup).pfe = s.pfe ∧ (s.motorsHoldup).sides = s.sides ∧
      (s.motorsHoldup).prices = s.prices ∧ (s.motorsHoldup).display = s.display ∧ (s.motorsHoldup).gates = s.gates ∧
      (s.motorsHoldup).store = s.store ∧ (s.motorsHoldup).journal = s.journal ∧ (s.motorsHoldup).mode = s.mode ∧
      (s.motorsHoldup).exch.mem = s.exch.mem ∧ (s.motorsHoldup).exch.config = s.exch.config ∧
      (s.motorsHoldup).exch.mask = s.exch.mask ∧ (s.motorsHoldup).exch.ready = s.exch.ready ∧
      (s.motorsHoldup).pins = s.pins ∧ (s.motorsHoldup).pending = s.pending := by
  unfold State.motorsHoldup; (try dsimp only [State.bothSides]); (repeat' split) <;> simp

@[simp] theorem State.motorsReset_frame (s : State) :
    (s.motorsReset).now = s.now ∧ (s.motorsReset).pfe = s.pfe ∧ (s.motorsReset).sides = s.sides ∧
      (s.motorsReset).prices = s.prices ∧ (s.motorsReset).display = s.display ∧ (s.motorsReset).gates = s.gates ∧
      (s.motorsReset).store = s.store ∧ (s.motorsReset).journal = s.journal ∧ (s.motorsReset).mode = s.mode ∧
      (s.motorsReset).exch.mem = s.exch.mem ∧ (s.motorsReset).exch.config = s.exch.config ∧
      (s.motorsReset).exch.mask = s.exch.mask ∧ (s.motorsReset).exch.ready = s.exch.ready ∧
      (s.motorsReset).pins = s.pins ∧ (s.motorsReset).pending = s.pending := by
  unfold State.motorsReset; (try dsimp only [State.bothSides]); (repeat' split) <;> simp

@[simp] theorem State.startTransfer_frame (s : State) (sd : Side) (frame : List Byte) (purpose : Purpose) :
    (s.startTransfer sd frame purpose).now = s.now ∧ (s.startTransfer sd frame purpose).pfe = s.pfe ∧
      (s.startTransfer sd frame purpose).sides = s.sides ∧ (s.startTransfer sd frame purpose).prices = s.prices ∧
      (s.startTransfer sd frame purpose).motors = s.motors ∧ (s.startTransfer sd frame purpose).gates = s.gates ∧
      (s.startTransfer sd frame purpose).store = s.store ∧ (s.startTransfer sd frame purpose).journal = s.journal ∧
      (s.startTransfer sd frame purpose).mode = s.mode ∧ (s.startTransfer sd frame purpose).exch.mem = s.exch.mem ∧
      (s.startTransfer sd frame purpose).exch.config = s.exch.config ∧
      (s.startTransfer sd frame purpose).exch.mask = s.exch.mask ∧
      (s.startTransfer sd frame purpose).exch.ready = s.exch.ready ∧
      (s.startTransfer sd frame purpose).pins = s.pins ∧ (s.startTransfer sd frame purpose).pending = s.pending := by
  unfold State.startTransfer; (try dsimp only [State.bothSides]); (repeat' split) <;> simp

@[simp] theorem State.startComposed_frame (s : State) (sd : Side) (purpose : Purpose) :
    (s.startComposed sd purpose).now = s.now ∧ (s.startComposed sd purpose).pfe = s.pfe ∧
      (s.startComposed sd purpose).sides = s.sides ∧ (s.startComposed sd purpose).prices = s.prices ∧
      (s.startComposed sd purpose).motors = s.motors ∧ (s.startComposed sd purpose).gates = s.gates ∧
      (s.startComposed sd purpose).store = s.store ∧ (s.startComposed sd purpose).journal = s.journal ∧
      (s.startComposed sd purpose).mode = s.mode ∧ (s.startComposed sd purpose).exch.mem = s.exch.mem ∧
      (s.startComposed sd purpose).exch.config = s.exch.config ∧
      (s.startComposed sd purpose).exch.mask = s.exch.mask ∧ (s.startComposed sd purpose).exch.ready = s.exch.ready ∧
      (s.startComposed sd purpose).pins = s.pins ∧ (s.startComposed sd purpose).pending = s.pending := by
  unfold State.startComposed; (try dsimp only [State.bothSides]); (repeat' split) <;> simp

@[simp] theorem State.nextTransfer_frame (s : State) (sd : Side) :
    (s.nextTransfer sd).now = s.now ∧ (s.nextTransfer sd).pfe = s.pfe ∧ (s.nextTransfer sd).sides = s.sides ∧
      (s.nextTransfer sd).prices = s.prices ∧ (s.nextTransfer sd).motors = s.motors ∧
      (s.nextTransfer sd).gates = s.gates ∧ (s.nextTransfer sd).store = s.store ∧
      (s.nextTransfer sd).journal = s.journal ∧ (s.nextTransfer sd).mode = s.mode ∧
      (s.nextTransfer sd).exch.mem = s.exch.mem ∧ (s.nextTransfer sd).exch.config = s.exch.config ∧
      (s.nextTransfer sd).exch.mask = s.exch.mask ∧ (s.nextTransfer sd).exch.ready = s.exch.ready ∧
      (s.nextTransfer sd).pins = s.pins ∧ (s.nextTransfer sd).pending = s.pending := by
  unfold State.nextTransfer; (try dsimp only [State.bothSides]); (repeat' split) <;> simp

@[simp] theorem State.requestZero_frame (s : State) (sd : Side) (sale : Nat) :
    (s.requestZero sd sale).now = s.now ∧ (s.requestZero sd sale).pfe = s.pfe ∧
      (s.requestZero sd sale).sides = s.sides ∧ (s.requestZero sd sale).prices = s.prices ∧
      (s.requestZero sd sale).motors = s.motors ∧ (s.requestZero sd sale).gates = s.gates ∧
      (s.requestZero sd sale).store = s.store ∧ (s.requestZero sd sale).journal = s.journal ∧
      (s.requestZero sd sale).mode = s.mode ∧ (s.requestZero sd sale).exch.mem = s.exch.mem ∧
      (s.requestZero sd sale).exch.config = s.exch.config ∧ (s.requestZero sd sale).exch.mask = s.exch.mask ∧
      (s.requestZero sd sale).exch.ready = s.exch.ready ∧ (s.requestZero sd sale).pins = s.pins ∧
      (s.requestZero sd sale).pending = s.pending := by
  unfold State.requestZero; (try dsimp only [State.bothSides]); (repeat' split) <;> simp

@[simp] theorem State.abandonZero_frame (s : State) (sd : Side) :
    (s.abandonZero sd).now = s.now ∧ (s.abandonZero sd).pfe = s.pfe ∧ (s.abandonZero sd).sides = s.sides ∧
      (s.abandonZero sd).prices = s.prices ∧ (s.abandonZero sd).motors = s.motors ∧
      (s.abandonZero sd).gates = s.gates ∧ (s.abandonZero sd).store = s.store ∧
      (s.abandonZero sd).journal = s.journal ∧ (s.abandonZero sd).mode = s.mode ∧
      (s.abandonZero sd).exch.mem = s.exch.mem ∧ (s.abandonZero sd).exch.config = s.exch.config ∧
      (s.abandonZero sd).exch.mask = s.exch.mask ∧ (s.abandonZero sd).exch.ready = s.exch.ready ∧
      (s.abandonZero sd).pins = s.pins ∧ (s.abandonZero sd).pending = s.pending := by
  unfold State.abandonZero; (try dsimp only [State.bothSides]); (repeat' split) <;> simp

@[simp] theorem State.beginLamp_frame (s : State) (sd : Side) (order : Bool) :
    (s.beginLamp sd order).now = s.now ∧ (s.beginLamp sd order).pfe = s.pfe ∧
      (s.beginLamp sd order).sides = s.sides ∧ (s.beginLamp sd order).prices = s.prices ∧
      (s.beginLamp sd order).motors = s.motors ∧ (s.beginLamp sd order).gates = s.gates ∧
      (s.beginLamp sd order).store = s.store ∧ (s.beginLamp sd order).journal = s.journal ∧
      (s.beginLamp sd order).mode = s.mode ∧ (s.beginLamp sd order).exch.mem = s.exch.mem ∧
      (s.beginLamp sd order).exch.config = s.exch.config ∧ (s.beginLamp sd order).exch.mask = s.exch.mask ∧
      (s.beginLamp sd order).exch.ready = s.exch.ready ∧ (s.beginLamp sd order).pins = s.pins ∧
      (s.beginLamp sd order).pending = s.pending := by
  unfold State.beginLamp; (try dsimp only [State.bothSides]); (repeat' split) <;> simp

@[simp] theorem State.displayFault_frame (s : State) (sd : Side) (cause : DispCause) (index : Nat) :
    (s.displayFault sd cause index).now = s.now ∧ (s.displayFault sd cause index).pfe = s.pfe ∧
      (s.displayFault sd cause index).sides = s.sides ∧ (s.displayFault sd cause index).prices = s.prices ∧
      (s.displayFault sd cause index).motors = s.motors ∧ (s.displayFault sd cause index).gates = s.gates ∧
      (s.displayFault sd cause index).store = s.store ∧ (s.displayFault sd cause index).journal = s.journal ∧
      (s.displayFault sd cause index).mode = s.mode ∧ (s.displayFault sd cause index).exch.mem = s.exch.mem ∧
      (s.displayFault sd cause index).exch.config = s.exch.config ∧
      (s.displayFault sd cause index).exch.mask = s.exch.mask ∧
      (s.displayFault sd cause index).exch.ready = s.exch.ready ∧ (s.displayFault sd cause index).pins = s.pins ∧
      (s.displayFault sd cause index).pending = s.pending := by
  unfold State.displayFault; (try dsimp only [State.bothSides]); (repeat' split) <;> simp

@[simp] theorem State.supplyOn_frame (s : State) :
    (s.supplyOn).now = s.now ∧ (s.supplyOn).pfe = s.pfe ∧ (s.supplyOn).sides = s.sides ∧
      (s.supplyOn).prices = s.prices ∧ (s.supplyOn).motors = s.motors ∧ (s.supplyOn).gates = s.gates ∧
      (s.supplyOn).store = s.store ∧ (s.supplyOn).journal = s.journal ∧ (s.supplyOn).mode = s.mode ∧
      (s.supplyOn).exch.mem = s.exch.mem ∧ (s.supplyOn).exch.config = s.exch.config ∧
      (s.supplyOn).exch.mask = s.exch.mask ∧ (s.supplyOn).exch.ready = s.exch.ready ∧ (s.supplyOn).pins = s.pins ∧
      (s.supplyOn).pending = s.pending := by
  unfold State.supplyOn; (try dsimp only [State.bothSides]); (repeat' split) <;> simp

@[simp] theorem State.releaseRetest_frame (s : State) (sd : Side) :
    (s.releaseRetest sd).now = s.now ∧ (s.releaseRetest sd).pfe = s.pfe ∧ (s.releaseRetest sd).sides = s.sides ∧
      (s.releaseRetest sd).prices = s.prices ∧ (s.releaseRetest sd).motors = s.motors ∧
      (s.releaseRetest sd).display = s.display ∧ (s.releaseRetest sd).gates = s.gates ∧
      (s.releaseRetest sd).store = s.store ∧ (s.releaseRetest sd).journal = s.journal ∧
      (s.releaseRetest sd).mode = s.mode ∧ (s.releaseRetest sd).exch.mem = s.exch.mem ∧
      (s.releaseRetest sd).exch.config = s.exch.config ∧ (s.releaseRetest sd).exch.mask = s.exch.mask ∧
      (s.releaseRetest sd).exch.ready = s.exch.ready ∧ (s.releaseRetest sd).pins = s.pins ∧
      (s.releaseRetest sd).pending = s.pending := by
  unfold State.releaseRetest; (try dsimp only [State.bothSides]); (repeat' split) <;> simp

@[simp] theorem State.darkenSide_frame (s : State) (sd : Side) :
    (s.darkenSide sd).now = s.now ∧ (s.darkenSide sd).pfe = s.pfe ∧ (s.darkenSide sd).sides = s.sides ∧
      (s.darkenSide sd).prices = s.prices ∧ (s.darkenSide sd).motors = s.motors ∧ (s.darkenSide sd).gates = s.gates ∧
      (s.darkenSide sd).store = s.store ∧ (s.darkenSide sd).journal = s.journal ∧ (s.darkenSide sd).mode = s.mode ∧
      (s.darkenSide sd).exch.mem = s.exch.mem ∧ (s.darkenSide sd).exch.config = s.exch.config ∧
      (s.darkenSide sd).exch.mask = s.exch.mask ∧ (s.darkenSide sd).exch.ready = s.exch.ready ∧
      (s.darkenSide sd).pins = s.pins ∧ (s.darkenSide sd).pending = s.pending := by
  unfold State.darkenSide; (try dsimp only [State.bothSides]); (repeat' split) <;> simp

@[simp] theorem State.darkenTesting_frame (s : State) (sd : Side) :
    (s.darkenTesting sd).now = s.now ∧ (s.darkenTesting sd).pfe = s.pfe ∧ (s.darkenTesting sd).sides = s.sides ∧
      (s.darkenTesting sd).prices = s.prices ∧ (s.darkenTesting sd).motors = s.motors ∧
      (s.darkenTesting sd).gates = s.gates ∧ (s.darkenTesting sd).store = s.store ∧
      (s.darkenTesting sd).journal = s.journal ∧ (s.darkenTesting sd).mode = s.mode ∧
      (s.darkenTesting sd).exch.mem = s.exch.mem ∧ (s.darkenTesting sd).exch.config = s.exch.config ∧
      (s.darkenTesting sd).exch.mask = s.exch.mask ∧ (s.darkenTesting sd).exch.ready = s.exch.ready ∧
      (s.darkenTesting sd).pins = s.pins ∧ (s.darkenTesting sd).pending = s.pending := by
  unfold State.darkenTesting; (try dsimp only [State.bothSides]); (repeat' split) <;> simp

@[simp] theorem State.darkenAtExpiry_frame (s : State) (sd : Side) :
    (s.darkenAtExpiry sd).now = s.now ∧ (s.darkenAtExpiry sd).pfe = s.pfe ∧ (s.darkenAtExpiry sd).sides = s.sides ∧
      (s.darkenAtExpiry sd).prices = s.prices ∧ (s.darkenAtExpiry sd).motors = s.motors ∧
      (s.darkenAtExpiry sd).gates = s.gates ∧ (s.darkenAtExpiry sd).store = s.store ∧
      (s.darkenAtExpiry sd).journal = s.journal ∧ (s.darkenAtExpiry sd).mode = s.mode ∧
      (s.darkenAtExpiry sd).exch.mem = s.exch.mem ∧ (s.darkenAtExpiry sd).exch.config = s.exch.config ∧
      (s.darkenAtExpiry sd).exch.mask = s.exch.mask ∧ (s.darkenAtExpiry sd).exch.ready = s.exch.ready ∧
      (s.darkenAtExpiry sd).pins = s.pins ∧ (s.darkenAtExpiry sd).pending = s.pending := by
  unfold State.darkenAtExpiry; (try dsimp only [State.bothSides]); (repeat' split) <;> simp

@[simp] theorem State.darkExpire_frame (s : State) :
    (s.darkExpire).now = s.now ∧ (s.darkExpire).pfe = s.pfe ∧ (s.darkExpire).sides = s.sides ∧
      (s.darkExpire).prices = s.prices ∧ (s.darkExpire).motors = s.motors ∧ (s.darkExpire).gates = s.gates ∧
      (s.darkExpire).store = s.store ∧ (s.darkExpire).journal = s.journal ∧ (s.darkExpire).mode = s.mode ∧
      (s.darkExpire).exch.mem = s.exch.mem ∧ (s.darkExpire).exch.config = s.exch.config ∧
      (s.darkExpire).exch.mask = s.exch.mask ∧ (s.darkExpire).exch.ready = s.exch.ready ∧
      (s.darkExpire).pins = s.pins ∧ (s.darkExpire).pending = s.pending := by
  unfold State.darkExpire; (try dsimp only [State.bothSides]); (repeat' split) <;> simp

@[simp] theorem State.goDark_frame (s : State) :
    (s.goDark).now = s.now ∧ (s.goDark).pfe = s.pfe ∧ (s.goDark).sides = s.sides ∧ (s.goDark).prices = s.prices ∧
      (s.goDark).motors = s.motors ∧ (s.goDark).gates = s.gates ∧ (s.goDark).store = s.store ∧
      (s.goDark).journal = s.journal ∧ (s.goDark).mode = s.mode ∧ (s.goDark).exch.mem = s.exch.mem ∧
      (s.goDark).exch.config = s.exch.config ∧ (s.goDark).exch.mask = s.exch.mask ∧
      (s.goDark).exch.ready = s.exch.ready ∧ (s.goDark).pins = s.pins ∧ (s.goDark).pending = s.pending := by
  unfold State.goDark; (try dsimp only [State.bothSides]); (repeat' split) <;> simp

@[simp] theorem State.displaysHoldup_frame (s : State) :
    (s.displaysHoldup).now = s.now ∧ (s.displaysHoldup).pfe = s.pfe ∧ (s.displaysHoldup).sides = s.sides ∧
      (s.displaysHoldup).prices = s.prices ∧ (s.displaysHoldup).motors = s.motors ∧
      (s.displaysHoldup).gates = s.gates ∧ (s.displaysHoldup).store = s.store ∧
      (s.displaysHoldup).journal = s.journal ∧ (s.displaysHoldup).mode = s.mode ∧
      (s.displaysHoldup).exch.mem = s.exch.mem ∧ (s.displaysHoldup).exch.config = s.exch.config ∧
      (s.displaysHoldup).exch.mask = s.exch.mask ∧ (s.displaysHoldup).exch.ready = s.exch.ready ∧
      (s.displaysHoldup).pins = s.pins ∧ (s.displaysHoldup).pending = s.pending := by
  unfold State.displaysHoldup; (try dsimp only [State.bothSides]); (repeat' split) <;> simp

@[simp] theorem State.displaysReset_frame (s : State) :
    (s.displaysReset).now = s.now ∧ (s.displaysReset).pfe = s.pfe ∧ (s.displaysReset).sides = s.sides ∧
      (s.displaysReset).prices = s.prices ∧ (s.displaysReset).motors = s.motors ∧ (s.displaysReset).gates = s.gates ∧
      (s.displaysReset).store = s.store ∧ (s.displaysReset).journal = s.journal ∧ (s.displaysReset).mode = s.mode ∧
      (s.displaysReset).exch.mem = s.exch.mem ∧ (s.displaysReset).exch.config = s.exch.config ∧
      (s.displaysReset).exch.mask = s.exch.mask ∧ (s.displaysReset).exch.ready = s.exch.ready ∧
      (s.displaysReset).pins = s.pins ∧ (s.displaysReset).pending = s.pending := by
  unfold State.displaysReset; (try dsimp only [State.bothSides]); (repeat' split) <;> simp

@[simp] theorem State.downlinkResult_frame (s : State) (sd : Side) (r : Result) :
    (s.downlinkResult sd r).now = s.now ∧ (s.downlinkResult sd r).pfe = s.pfe ∧
      (s.downlinkResult sd r).sides = s.sides ∧ (s.downlinkResult sd r).prices = s.prices ∧
      (s.downlinkResult sd r).motors = s.motors ∧ (s.downlinkResult sd r).display = s.display ∧
      (s.downlinkResult sd r).store = s.store ∧ (s.downlinkResult sd r).journal = s.journal ∧
      (s.downlinkResult sd r).mode = s.mode ∧ (s.downlinkResult sd r).exch.mem = s.exch.mem ∧
      (s.downlinkResult sd r).exch.config = s.exch.config ∧ (s.downlinkResult sd r).exch.mask = s.exch.mask ∧
      (s.downlinkResult sd r).exch.ready = s.exch.ready ∧ (s.downlinkResult sd r).pins = s.pins ∧
      (s.downlinkResult sd r).pending = s.pending := by
  unfold State.downlinkResult; (try dsimp only [State.bothSides]); (repeat' split) <;> simp

@[simp] theorem State.uplinkInto_frame (s : State) (sd : Side) (i : Fin 2) :
    (s.uplinkInto sd i).now = s.now ∧ (s.uplinkInto sd i).pfe = s.pfe ∧ (s.uplinkInto sd i).sides = s.sides ∧
      (s.uplinkInto sd i).prices = s.prices ∧ (s.uplinkInto sd i).motors = s.motors ∧
      (s.uplinkInto sd i).display = s.display ∧ (s.uplinkInto sd i).store = s.store ∧
      (s.uplinkInto sd i).journal = s.journal ∧ (s.uplinkInto sd i).mode = s.mode ∧
      (s.uplinkInto sd i).exch.config = s.exch.config ∧ (s.uplinkInto sd i).exch.mask = s.exch.mask ∧
      (s.uplinkInto sd i).exch.ready = s.exch.ready ∧ (s.uplinkInto sd i).pins = s.pins ∧
      (s.uplinkInto sd i).pending = s.pending := by
  unfold State.uplinkInto; (try dsimp only [State.bothSides]); (repeat' split) <;> simp

@[simp] theorem State.uplinkFlow_frame (s : State) (sd : Side) :
    (s.uplinkFlow sd).now = s.now ∧ (s.uplinkFlow sd).pfe = s.pfe ∧ (s.uplinkFlow sd).sides = s.sides ∧
      (s.uplinkFlow sd).prices = s.prices ∧ (s.uplinkFlow sd).motors = s.motors ∧
      (s.uplinkFlow sd).display = s.display ∧ (s.uplinkFlow sd).store = s.store ∧
      (s.uplinkFlow sd).journal = s.journal ∧ (s.uplinkFlow sd).mode = s.mode ∧
      (s.uplinkFlow sd).exch.config = s.exch.config ∧ (s.uplinkFlow sd).exch.mask = s.exch.mask ∧
      (s.uplinkFlow sd).exch.ready = s.exch.ready ∧ (s.uplinkFlow sd).pins = s.pins ∧
      (s.uplinkFlow sd).pending = s.pending := by
  unfold State.uplinkFlow; (try dsimp only [State.bothSides]); (repeat' split) <;> simp

@[simp] theorem State.address_frame (s : State) (sd : Side) (i : ModuleId) :
    (s.address sd i).now = s.now ∧ (s.address sd i).pfe = s.pfe ∧ (s.address sd i).sides = s.sides ∧
      (s.address sd i).prices = s.prices ∧ (s.address sd i).motors = s.motors ∧
      (s.address sd i).display = s.display ∧ (s.address sd i).store = s.store ∧
      (s.address sd i).journal = s.journal ∧ (s.address sd i).mode = s.mode ∧
      (s.address sd i).exch.mem = s.exch.mem ∧ (s.address sd i).exch.config = s.exch.config ∧
      (s.address sd i).exch.mask = s.exch.mask ∧ (s.address sd i).exch.ready = s.exch.ready ∧
      (s.address sd i).pins = s.pins ∧ (s.address sd i).pending = s.pending := by
  unfold State.address; (try dsimp only [State.bothSides]); (repeat' split) <;> simp

@[simp] theorem State.pollFrom_frame (s : State) (sd : Side) (l : List ModuleId) :
    (s.pollFrom sd l).now = s.now ∧ (s.pollFrom sd l).pfe = s.pfe ∧ (s.pollFrom sd l).sides = s.sides ∧
      (s.pollFrom sd l).prices = s.prices ∧ (s.pollFrom sd l).motors = s.motors ∧
      (s.pollFrom sd l).display = s.display ∧ (s.pollFrom sd l).store = s.store ∧
      (s.pollFrom sd l).journal = s.journal ∧ (s.pollFrom sd l).mode = s.mode ∧
      (s.pollFrom sd l).exch.mem = s.exch.mem ∧ (s.pollFrom sd l).exch.config = s.exch.config ∧
      (s.pollFrom sd l).exch.mask = s.exch.mask ∧ (s.pollFrom sd l).exch.ready = s.exch.ready ∧
      (s.pollFrom sd l).pins = s.pins ∧ (s.pollFrom sd l).pending = s.pending := by
  induction l generalizing s with
  | nil => simp [State.pollFrom]
  | cons _ _ ih => unfold State.pollFrom; (repeat' split) <;> simp [ih]

@[simp] theorem State.endExchange_frame (s : State) (sd : Side) (i : ModuleId) :
    (s.endExchange sd i).now = s.now ∧ (s.endExchange sd i).pfe = s.pfe ∧ (s.endExchange sd i).sides = s.sides ∧
      (s.endExchange sd i).prices = s.prices ∧ (s.endExchange sd i).motors = s.motors ∧
      (s.endExchange sd i).display = s.display ∧ (s.endExchange sd i).store = s.store ∧
      (s.endExchange sd i).journal = s.journal ∧ (s.endExchange sd i).mode = s.mode ∧
      (s.endExchange sd i).exch.mem = s.exch.mem ∧ (s.endExchange sd i).exch.config = s.exch.config ∧
      (s.endExchange sd i).exch.mask = s.exch.mask ∧ (s.endExchange sd i).exch.ready = s.exch.ready ∧
      (s.endExchange sd i).pins = s.pins ∧ (s.endExchange sd i).pending = s.pending := by
  unfold State.endExchange; (try dsimp only [State.bothSides]); (repeat' split) <;> simp

@[simp] theorem State.gateChange_frame (s : State) (sd : Side) (g : GateCtl) (cause : GateCause) :
    (s.gateChange sd g cause).now = s.now ∧ (s.gateChange sd g cause).pfe = s.pfe ∧
      (s.gateChange sd g cause).sides = s.sides ∧ (s.gateChange sd g cause).prices = s.prices ∧
      (s.gateChange sd g cause).motors = s.motors ∧ (s.gateChange sd g cause).store = s.store ∧
      (s.gateChange sd g cause).journal = s.journal ∧ (s.gateChange sd g cause).mode = s.mode ∧
      (s.gateChange sd g cause).exch.mem = s.exch.mem ∧ (s.gateChange sd g cause).exch.config = s.exch.config ∧
      (s.gateChange sd g cause).exch.mask = s.exch.mask ∧ (s.gateChange sd g cause).exch.ready = s.exch.ready ∧
      (s.gateChange sd g cause).pins = s.pins ∧ (s.gateChange sd g cause).pending = s.pending := by
  unfold State.gateChange; (try dsimp only [State.bothSides]); (repeat' split) <;> simp

@[simp] theorem State.gateStart_frame (s : State) (sd : Side) (cause : GateCause) :
    (s.gateStart sd cause).now = s.now ∧ (s.gateStart sd cause).pfe = s.pfe ∧
      (s.gateStart sd cause).sides = s.sides ∧ (s.gateStart sd cause).prices = s.prices ∧
      (s.gateStart sd cause).motors = s.motors ∧ (s.gateStart sd cause).store = s.store ∧
      (s.gateStart sd cause).journal = s.journal ∧ (s.gateStart sd cause).mode = s.mode ∧
      (s.gateStart sd cause).exch.mem = s.exch.mem ∧ (s.gateStart sd cause).exch.config = s.exch.config ∧
      (s.gateStart sd cause).exch.mask = s.exch.mask ∧ (s.gateStart sd cause).exch.ready = s.exch.ready ∧
      (s.gateStart sd cause).pins = s.pins ∧ (s.gateStart sd cause).pending = s.pending := by
  unfold State.gateStart; (try dsimp only [State.bothSides]); (repeat' split) <;> simp

@[simp] theorem State.gateOff_frame (s : State) (sd : Side) :
    (s.gateOff sd).now = s.now ∧ (s.gateOff sd).pfe = s.pfe ∧ (s.gateOff sd).sides = s.sides ∧
      (s.gateOff sd).prices = s.prices ∧ (s.gateOff sd).motors = s.motors ∧ (s.gateOff sd).store = s.store ∧
      (s.gateOff sd).journal = s.journal ∧ (s.gateOff sd).mode = s.mode ∧ (s.gateOff sd).exch.mem = s.exch.mem ∧
      (s.gateOff sd).exch.config = s.exch.config ∧ (s.gateOff sd).exch.mask = s.exch.mask ∧
      (s.gateOff sd).exch.ready = s.exch.ready ∧ (s.gateOff sd).pins = s.pins ∧ (s.gateOff sd).pending = s.pending := by
  unfold State.gateOff; (try dsimp only [State.bothSides]); (repeat' split) <;> simp

@[simp] theorem State.gateTrip_frame (s : State) (sd : Side) (r : TripReason) :
    (s.gateTrip sd r).now = s.now ∧ (s.gateTrip sd r).pfe = s.pfe ∧ (s.gateTrip sd r).sides = s.sides ∧
      (s.gateTrip sd r).prices = s.prices ∧ (s.gateTrip sd r).motors = s.motors ∧ (s.gateTrip sd r).store = s.store ∧
      (s.gateTrip sd r).journal = s.journal ∧ (s.gateTrip sd r).mode = s.mode ∧
      (s.gateTrip sd r).exch.mem = s.exch.mem ∧ (s.gateTrip sd r).exch.config = s.exch.config ∧
      (s.gateTrip sd r).exch.mask = s.exch.mask ∧ (s.gateTrip sd r).exch.ready = s.exch.ready ∧
      (s.gateTrip sd r).pins = s.pins ∧ (s.gateTrip sd r).pending = s.pending := by
  unfold State.gateTrip; (try dsimp only [State.bothSides]); (repeat' split) <;> simp

@[simp] theorem State.gateRestart_frame (s : State) (sd : Side) (o : RestartOrigin) :
    (s.gateRestart sd o).now = s.now ∧ (s.gateRestart sd o).pfe = s.pfe ∧ (s.gateRestart sd o).sides = s.sides ∧
      (s.gateRestart sd o).prices = s.prices ∧ (s.gateRestart sd o).motors = s.motors ∧
      (s.gateRestart sd o).store = s.store ∧ (s.gateRestart sd o).journal = s.journal ∧
      (s.gateRestart sd o).mode = s.mode ∧ (s.gateRestart sd o).exch.mem = s.exch.mem ∧
      (s.gateRestart sd o).exch.config = s.exch.config ∧ (s.gateRestart sd o).exch.mask = s.exch.mask ∧
      (s.gateRestart sd o).exch.ready = s.exch.ready ∧ (s.gateRestart sd o).pins = s.pins ∧
      (s.gateRestart sd o).pending = s.pending := by
  unfold State.gateRestart; (try dsimp only [State.bothSides]); (repeat' split) <;> simp

@[simp] theorem State.gateOpen_frame (s : State) (sd : Side) :
    (s.gateOpen sd).now = s.now ∧ (s.gateOpen sd).pfe = s.pfe ∧ (s.gateOpen sd).sides = s.sides ∧
      (s.gateOpen sd).prices = s.prices ∧ (s.gateOpen sd).motors = s.motors ∧ (s.gateOpen sd).store = s.store ∧
      (s.gateOpen sd).journal = s.journal ∧ (s.gateOpen sd).mode = s.mode ∧ (s.gateOpen sd).exch.mem = s.exch.mem ∧
      (s.gateOpen sd).exch.config = s.exch.config ∧ (s.gateOpen sd).exch.mask = s.exch.mask ∧
      (s.gateOpen sd).exch.ready = s.exch.ready ∧ (s.gateOpen sd).pins = s.pins ∧
      (s.gateOpen sd).pending = s.pending := by
  unfold State.gateOpen; (try dsimp only [State.bothSides]); (repeat' split) <;> simp

@[simp] theorem State.gateClaim_frame (s : State) (sd : Side) :
    (s.gateClaim sd).now = s.now ∧ (s.gateClaim sd).pfe = s.pfe ∧ (s.gateClaim sd).sides = s.sides ∧
      (s.gateClaim sd).prices = s.prices ∧ (s.gateClaim sd).motors = s.motors ∧ (s.gateClaim sd).store = s.store ∧
      (s.gateClaim sd).journal = s.journal ∧ (s.gateClaim sd).mode = s.mode ∧
      (s.gateClaim sd).exch.mem = s.exch.mem ∧ (s.gateClaim sd).exch.config = s.exch.config ∧
      (s.gateClaim sd).exch.mask = s.exch.mask ∧ (s.gateClaim sd).exch.ready = s.exch.ready ∧
      (s.gateClaim sd).pins = s.pins ∧ (s.gateClaim sd).pending = s.pending := by
  unfold State.gateClaim; (try dsimp only [State.bothSides]); (repeat' split) <;> simp

@[simp] theorem State.gateSilent_frame (s : State) (sd : Side) :
    (s.gateSilent sd).now = s.now ∧ (s.gateSilent sd).pfe = s.pfe ∧ (s.gateSilent sd).sides = s.sides ∧
      (s.gateSilent sd).prices = s.prices ∧ (s.gateSilent sd).motors = s.motors ∧ (s.gateSilent sd).store = s.store ∧
      (s.gateSilent sd).journal = s.journal ∧ (s.gateSilent sd).mode = s.mode ∧
      (s.gateSilent sd).exch.mem = s.exch.mem ∧ (s.gateSilent sd).exch.config = s.exch.config ∧
      (s.gateSilent sd).exch.mask = s.exch.mask ∧ (s.gateSilent sd).exch.ready = s.exch.ready ∧
      (s.gateSilent sd).pins = s.pins ∧ (s.gateSilent sd).pending = s.pending := by
  unfold State.gateSilent; (try dsimp only [State.bothSides]); (repeat' split) <;> simp

@[simp] theorem State.gateTamper_frame (s : State) (sd : Side) (source : Nat) :
    (s.gateTamper sd source).now = s.now ∧ (s.gateTamper sd source).pfe = s.pfe ∧
      (s.gateTamper sd source).sides = s.sides ∧ (s.gateTamper sd source).prices = s.prices ∧
      (s.gateTamper sd source).motors = s.motors ∧ (s.gateTamper sd source).store = s.store ∧
      (s.gateTamper sd source).journal = s.journal ∧ (s.gateTamper sd source).mode = s.mode ∧
      (s.gateTamper sd source).exch.mem = s.exch.mem ∧ (s.gateTamper sd source).exch.config = s.exch.config ∧
      (s.gateTamper sd source).exch.mask = s.exch.mask ∧ (s.gateTamper sd source).exch.ready = s.exch.ready ∧
      (s.gateTamper sd source).pins = s.pins ∧ (s.gateTamper sd source).pending = s.pending := by
  unfold State.gateTamper; (try dsimp only [State.bothSides]); (repeat' split) <;> simp

@[simp] theorem State.afterHello_frame (s : State) (sd : Side) (i : ModuleId) (o : HelloOutcome) :
    (s.afterHello sd i o).now = s.now ∧ (s.afterHello sd i o).pfe = s.pfe ∧ (s.afterHello sd i o).sides = s.sides ∧
      (s.afterHello sd i o).prices = s.prices ∧ (s.afterHello sd i o).motors = s.motors ∧
      (s.afterHello sd i o).store = s.store ∧ (s.afterHello sd i o).journal = s.journal ∧
      (s.afterHello sd i o).mode = s.mode ∧ (s.afterHello sd i o).exch.mem = s.exch.mem ∧
      (s.afterHello sd i o).exch.config = s.exch.config ∧ (s.afterHello sd i o).exch.mask = s.exch.mask ∧
      (s.afterHello sd i o).exch.ready = s.exch.ready ∧ (s.afterHello sd i o).pins = s.pins ∧
      (s.afterHello sd i o).pending = s.pending := by
  unfold State.afterHello; (try dsimp only [State.bothSides]); (repeat' split) <;> simp

@[simp] theorem State.takeHello_frame (s : State) (sd : Side) (i : ModuleId) (f : Frame) :
    (s.takeHello sd i f).now = s.now ∧ (s.takeHello sd i f).pfe = s.pfe ∧ (s.takeHello sd i f).sides = s.sides ∧
      (s.takeHello sd i f).prices = s.prices ∧ (s.takeHello sd i f).motors = s.motors ∧
      (s.takeHello sd i f).store = s.store ∧ (s.takeHello sd i f).journal = s.journal ∧
      (s.takeHello sd i f).mode = s.mode ∧ (s.takeHello sd i f).exch.mem = s.exch.mem ∧
      (s.takeHello sd i f).exch.config = s.exch.config ∧ (s.takeHello sd i f).exch.mask = s.exch.mask ∧
      (s.takeHello sd i f).exch.ready = s.exch.ready ∧ (s.takeHello sd i f).pins = s.pins ∧
      (s.takeHello sd i f).pending = s.pending := by
  unfold State.takeHello; (try dsimp only [State.bothSides]); (repeat' split) <;> simp

@[simp] theorem State.enqueue_frame (s : State) (sd : Side) (i : ModuleId) (f : Frame) (unadmitted : Bool) :
    (s.enqueue sd i f unadmitted).now = s.now ∧ (s.enqueue sd i f unadmitted).pfe = s.pfe ∧
      (s.enqueue sd i f unadmitted).sides = s.sides ∧ (s.enqueue sd i f unadmitted).prices = s.prices ∧
      (s.enqueue sd i f unadmitted).motors = s.motors ∧ (s.enqueue sd i f unadmitted).display = s.display ∧
      (s.enqueue sd i f unadmitted).store = s.store ∧ (s.enqueue sd i f unadmitted).journal = s.journal ∧
      (s.enqueue sd i f unadmitted).mode = s.mode ∧ (s.enqueue sd i f unadmitted).exch.config = s.exch.config ∧
      (s.enqueue sd i f unadmitted).exch.mask = s.exch.mask ∧
      (s.enqueue sd i f unadmitted).exch.ready = s.exch.ready ∧ (s.enqueue sd i f unadmitted).pins = s.pins ∧
      (s.enqueue sd i f unadmitted).pending = s.pending := by
  unfold State.enqueue; (try dsimp only [State.bothSides]); (repeat' split) <;> simp

@[simp] theorem State.refuseFrame_frame (s : State) (sd : Side) (i : ModuleId) (f : Frame) :
    (s.refuseFrame sd i f).now = s.now ∧ (s.refuseFrame sd i f).pfe = s.pfe ∧
      (s.refuseFrame sd i f).sides = s.sides ∧ (s.refuseFrame sd i f).prices = s.prices ∧
      (s.refuseFrame sd i f).motors = s.motors ∧ (s.refuseFrame sd i f).display = s.display ∧
      (s.refuseFrame sd i f).store = s.store ∧ (s.refuseFrame sd i f).journal = s.journal ∧
      (s.refuseFrame sd i f).mode = s.mode ∧ (s.refuseFrame sd i f).exch.mem = s.exch.mem ∧
      (s.refuseFrame sd i f).exch.config = s.exch.config ∧ (s.refuseFrame sd i f).exch.mask = s.exch.mask ∧
      (s.refuseFrame sd i f).exch.ready = s.exch.ready ∧ (s.refuseFrame sd i f).pins = s.pins ∧
      (s.refuseFrame sd i f).pending = s.pending := by
  unfold State.refuseFrame; (try dsimp only [State.bothSides]); (repeat' split) <;> simp

@[simp] theorem State.takeUplink_frame (s : State) (sd : Side) (i : ModuleId) (f : Frame) :
    (s.takeUplink sd i f).now = s.now ∧ (s.takeUplink sd i f).pfe = s.pfe ∧ (s.takeUplink sd i f).sides = s.sides ∧
      (s.takeUplink sd i f).prices = s.prices ∧ (s.takeUplink sd i f).motors = s.motors ∧
      (s.takeUplink sd i f).display = s.display ∧ (s.takeUplink sd i f).store = s.store ∧
      (s.takeUplink sd i f).journal = s.journal ∧ (s.takeUplink sd i f).mode = s.mode ∧
      (s.takeUplink sd i f).exch.config = s.exch.config ∧ (s.takeUplink sd i f).exch.mask = s.exch.mask ∧
      (s.takeUplink sd i f).exch.ready = s.exch.ready ∧ (s.takeUplink sd i f).pins = s.pins ∧
      (s.takeUplink sd i f).pending = s.pending := by
  unfold State.takeUplink; (try dsimp only [State.bothSides]); (repeat' split) <;> simp

@[simp] theorem State.countMiss_frame (s : State) (sd : Side) (i : ModuleId) :
    (s.countMiss sd i).now = s.now ∧ (s.countMiss sd i).pfe = s.pfe ∧ (s.countMiss sd i).sides = s.sides ∧
      (s.countMiss sd i).prices = s.prices ∧ (s.countMiss sd i).motors = s.motors ∧
      (s.countMiss sd i).store = s.store ∧ (s.countMiss sd i).journal = s.journal ∧
      (s.countMiss sd i).mode = s.mode ∧ (s.countMiss sd i).exch.mem = s.exch.mem ∧
      (s.countMiss sd i).exch.config = s.exch.config ∧ (s.countMiss sd i).exch.mask = s.exch.mask ∧
      (s.countMiss sd i).exch.ready = s.exch.ready ∧ (s.countMiss sd i).pins = s.pins ∧
      (s.countMiss sd i).pending = s.pending := by
  unfold State.countMiss; (try dsimp only [State.bothSides]); (repeat' split) <;> simp

@[simp] theorem State.unacknowledged_frame (s : State) (sd : Side) :
    (s.unacknowledged sd).now = s.now ∧ (s.unacknowledged sd).pfe = s.pfe ∧ (s.unacknowledged sd).sides = s.sides ∧
      (s.unacknowledged sd).prices = s.prices ∧ (s.unacknowledged sd).motors = s.motors ∧
      (s.unacknowledged sd).display = s.display ∧ (s.unacknowledged sd).store = s.store ∧
      (s.unacknowledged sd).journal = s.journal ∧ (s.unacknowledged sd).mode = s.mode ∧
      (s.unacknowledged sd).exch.mem = s.exch.mem ∧ (s.unacknowledged sd).exch.config = s.exch.config ∧
      (s.unacknowledged sd).exch.mask = s.exch.mask ∧ (s.unacknowledged sd).exch.ready = s.exch.ready ∧
      (s.unacknowledged sd).pins = s.pins ∧ (s.unacknowledged sd).pending = s.pending := by
  unfold State.unacknowledged; (try dsimp only [State.bothSides]); (repeat' split) <;> simp

@[simp] theorem State.missAnswer_frame (s : State) (sd : Side) (a : Addressing) :
    (s.missAnswer sd a).now = s.now ∧ (s.missAnswer sd a).pfe = s.pfe ∧ (s.missAnswer sd a).sides = s.sides ∧
      (s.missAnswer sd a).prices = s.prices ∧ (s.missAnswer sd a).motors = s.motors ∧
      (s.missAnswer sd a).store = s.store ∧ (s.missAnswer sd a).journal = s.journal ∧
      (s.missAnswer sd a).mode = s.mode ∧ (s.missAnswer sd a).exch.mem = s.exch.mem ∧
      (s.missAnswer sd a).exch.config = s.exch.config ∧ (s.missAnswer sd a).exch.mask = s.exch.mask ∧
      (s.missAnswer sd a).exch.ready = s.exch.ready ∧ (s.missAnswer sd a).pins = s.pins ∧
      (s.missAnswer sd a).pending = s.pending := by
  unfold State.missAnswer; (try dsimp only [State.bothSides]); (repeat' split) <;> simp

@[simp] theorem State.downlinkBusy_frame (s : State) (sd : Side) :
    (s.downlinkBusy sd).now = s.now ∧ (s.downlinkBusy sd).pfe = s.pfe ∧ (s.downlinkBusy sd).sides = s.sides ∧
      (s.downlinkBusy sd).prices = s.prices ∧ (s.downlinkBusy sd).motors = s.motors ∧
      (s.downlinkBusy sd).display = s.display ∧ (s.downlinkBusy sd).store = s.store ∧
      (s.downlinkBusy sd).journal = s.journal ∧ (s.downlinkBusy sd).mode = s.mode ∧
      (s.downlinkBusy sd).exch.mem = s.exch.mem ∧ (s.downlinkBusy sd).exch.config = s.exch.config ∧
      (s.downlinkBusy sd).exch.mask = s.exch.mask ∧ (s.downlinkBusy sd).exch.ready = s.exch.ready ∧
      (s.downlinkBusy sd).pins = s.pins ∧ (s.downlinkBusy sd).pending = s.pending := by
  unfold State.downlinkBusy; (try dsimp only [State.bothSides]); (repeat' split) <;> simp

@[simp] theorem State.takeByClass_frame (s : State) (sd : Side) (i : ModuleId) (f : Frame) :
    (s.takeByClass sd i f).now = s.now ∧ (s.takeByClass sd i f).pfe = s.pfe ∧
      (s.takeByClass sd i f).sides = s.sides ∧ (s.takeByClass sd i f).prices = s.prices ∧
      (s.takeByClass sd i f).motors = s.motors ∧ (s.takeByClass sd i f).store = s.store ∧
      (s.takeByClass sd i f).journal = s.journal ∧ (s.takeByClass sd i f).mode = s.mode ∧
      (s.takeByClass sd i f).exch.config = s.exch.config ∧ (s.takeByClass sd i f).exch.mask = s.exch.mask ∧
      (s.takeByClass sd i f).exch.ready = s.exch.ready ∧ (s.takeByClass sd i f).pins = s.pins ∧
      (s.takeByClass sd i f).pending = s.pending := by
  unfold State.takeByClass; (try dsimp only [State.bothSides]); (repeat' split) <;> simp

@[simp] theorem State.goodAnswer_frame (s : State) (sd : Side) (a : Addressing) (f : Frame) :
    (s.goodAnswer sd a f).now = s.now ∧ (s.goodAnswer sd a f).pfe = s.pfe ∧ (s.goodAnswer sd a f).sides = s.sides ∧
      (s.goodAnswer sd a f).prices = s.prices ∧ (s.goodAnswer sd a f).motors = s.motors ∧
      (s.goodAnswer sd a f).store = s.store ∧ (s.goodAnswer sd a f).journal = s.journal ∧
      (s.goodAnswer sd a f).mode = s.mode ∧ (s.goodAnswer sd a f).exch.config = s.exch.config ∧
      (s.goodAnswer sd a f).exch.mask = s.exch.mask ∧ (s.goodAnswer sd a f).exch.ready = s.exch.ready ∧
      (s.goodAnswer sd a f).pins = s.pins ∧ (s.goodAnswer sd a f).pending = s.pending := by
  unfold State.goodAnswer; (try dsimp only [State.bothSides]); (repeat' split) <;> simp

@[simp] theorem State.updateVolume_frame (s : State) (sd : Side) :
    (s.updateVolume sd).now = s.now ∧ (s.updateVolume sd).pfe = s.pfe ∧ (s.updateVolume sd).prices = s.prices ∧
      (s.updateVolume sd).motors = s.motors ∧ (s.updateVolume sd).gates = s.gates ∧
      (s.updateVolume sd).store = s.store ∧ (s.updateVolume sd).journal = s.journal ∧
      (s.updateVolume sd).mode = s.mode ∧ (s.updateVolume sd).exch.mem = s.exch.mem ∧
      (s.updateVolume sd).exch.config = s.exch.config ∧ (s.updateVolume sd).exch.mask = s.exch.mask ∧
      (s.updateVolume sd).exch.ready = s.exch.ready ∧ (s.updateVolume sd).pins = s.pins ∧
      (s.updateVolume sd).pending = s.pending := by
  unfold State.updateVolume; (try dsimp only [State.bothSides]); (repeat' split) <;> simp

@[simp] theorem State.putSide_frame (s : State) (sd : Side) (x : SideCtl) :
    (s.putSide sd x).now = s.now ∧ (s.putSide sd x).pfe = s.pfe ∧ (s.putSide sd x).prices = s.prices ∧
      (s.putSide sd x).motors = s.motors ∧ (s.putSide sd x).gates = s.gates ∧ (s.putSide sd x).store = s.store ∧
      (s.putSide sd x).mode = s.mode ∧ (s.putSide sd x).exch.mem = s.exch.mem ∧
      (s.putSide sd x).exch.config = s.exch.config ∧ (s.putSide sd x).exch.mask = s.exch.mask ∧
      (s.putSide sd x).exch.ready = s.exch.ready ∧ (s.putSide sd x).pins = s.pins ∧
      (s.putSide sd x).pending = s.pending := by
  unfold State.putSide; (try dsimp only [State.bothSides]); (repeat' split) <;> simp

@[simp] theorem State.toEnding_frame (s : State) (sd : Side) (reason : EndReason) :
    (s.toEnding sd reason).now = s.now ∧ (s.toEnding sd reason).pfe = s.pfe ∧
      (s.toEnding sd reason).prices = s.prices ∧ (s.toEnding sd reason).motors = s.motors ∧
      (s.toEnding sd reason).gates = s.gates ∧ (s.toEnding sd reason).store = s.store ∧
      (s.toEnding sd reason).mode = s.mode ∧ (s.toEnding sd reason).exch.mem = s.exch.mem ∧
      (s.toEnding sd reason).exch.config = s.exch.config ∧ (s.toEnding sd reason).exch.mask = s.exch.mask ∧
      (s.toEnding sd reason).exch.ready = s.exch.ready ∧ (s.toEnding sd reason).pins = s.pins ∧
      (s.toEnding sd reason).pending = s.pending := by
  unfold State.toEnding; (try dsimp only [State.bothSides]); (repeat' split) <;> simp

@[simp] theorem State.toSlow_frame (s : State) (sd : Side) :
    (s.toSlow sd).now = s.now ∧ (s.toSlow sd).pfe = s.pfe ∧ (s.toSlow sd).prices = s.prices ∧
      (s.toSlow sd).motors = s.motors ∧ (s.toSlow sd).gates = s.gates ∧ (s.toSlow sd).store = s.store ∧
      (s.toSlow sd).mode = s.mode ∧ (s.toSlow sd).exch.mem = s.exch.mem ∧ (s.toSlow sd).exch.config = s.exch.config ∧
      (s.toSlow sd).exch.mask = s.exch.mask ∧ (s.toSlow sd).exch.ready = s.exch.ready ∧ (s.toSlow sd).pins = s.pins ∧
      (s.toSlow sd).pending = s.pending := by
  unfold State.toSlow; (try dsimp only [State.bothSides]); (repeat' split) <;> simp

@[simp] theorem State.restartNoflow_frame (s : State) (sd : Side) :
    (s.restartNoflow sd).now = s.now ∧ (s.restartNoflow sd).pfe = s.pfe ∧ (s.restartNoflow sd).prices = s.prices ∧
      (s.restartNoflow sd).motors = s.motors ∧ (s.restartNoflow sd).display = s.display ∧
      (s.restartNoflow sd).gates = s.gates ∧ (s.restartNoflow sd).store = s.store ∧
      (s.restartNoflow sd).journal = s.journal ∧ (s.restartNoflow sd).mode = s.mode ∧
      (s.restartNoflow sd).exch.mem = s.exch.mem ∧ (s.restartNoflow sd).exch.config = s.exch.config ∧
      (s.restartNoflow sd).exch.mask = s.exch.mask ∧ (s.restartNoflow sd).exch.ready = s.exch.ready ∧
      (s.restartNoflow sd).pins = s.pins ∧ (s.restartNoflow sd).pending = s.pending := by
  unfold State.restartNoflow; (try dsimp only [State.bothSides]); (repeat' split) <;> simp

@[simp] theorem State.blendControl_frame (s : State) (sd : Side) (c : Captured) (v : Nat) :
    (s.blendControl sd c v).now = s.now ∧ (s.blendControl sd c v).pfe = s.pfe ∧
      (s.blendControl sd c v).prices = s.prices ∧ (s.blendControl sd c v).motors = s.motors ∧
      (s.blendControl sd c v).gates = s.gates ∧ (s.blendControl sd c v).store = s.store ∧
      (s.blendControl sd c v).mode = s.mode ∧ (s.blendControl sd c v).exch.mem = s.exch.mem ∧
      (s.blendControl sd c v).exch.config = s.exch.config ∧ (s.blendControl sd c v).exch.mask = s.exch.mask ∧
      (s.blendControl sd c v).exch.ready = s.exch.ready ∧ (s.blendControl sd c v).pins = s.pins ∧
      (s.blendControl sd c v).pending = s.pending := by
  unfold State.blendControl; (try dsimp only [State.bothSides]); (repeat' split) <;> simp

@[simp] theorem State.noticeCycle_frame (s : State) (sd : Side) :
    (s.noticeCycle sd).now = s.now ∧ (s.noticeCycle sd).pfe = s.pfe ∧ (s.noticeCycle sd).prices = s.prices ∧
      (s.noticeCycle sd).motors = s.motors ∧ (s.noticeCycle sd).gates = s.gates ∧
      (s.noticeCycle sd).store = s.store ∧ (s.noticeCycle sd).mode = s.mode ∧
      (s.noticeCycle sd).exch.mem = s.exch.mem ∧ (s.noticeCycle sd).exch.config = s.exch.config ∧
      (s.noticeCycle sd).exch.mask = s.exch.mask ∧ (s.noticeCycle sd).exch.ready = s.exch.ready ∧
      (s.noticeCycle sd).pins = s.pins ∧ (s.noticeCycle sd).pending = s.pending := by
  unfold State.noticeCycle; (try dsimp only [State.bothSides]); (repeat' split) <;> simp

@[simp] theorem State.enterSlow_frame (s : State) (sd : Side) (comp : Composition) :
    (s.enterSlow sd comp).now = s.now ∧ (s.enterSlow sd comp).pfe = s.pfe ∧ (s.enterSlow sd comp).prices = s.prices ∧
      (s.enterSlow sd comp).motors = s.motors ∧ (s.enterSlow sd comp).gates = s.gates ∧
      (s.enterSlow sd comp).store = s.store ∧ (s.enterSlow sd comp).mode = s.mode ∧
      (s.enterSlow sd comp).exch.mem = s.exch.mem ∧ (s.enterSlow sd comp).exch.config = s.exch.config ∧
      (s.enterSlow sd comp).exch.mask = s.exch.mask ∧ (s.enterSlow sd comp).exch.ready = s.exch.ready ∧
      (s.enterSlow sd comp).pins = s.pins ∧ (s.enterSlow sd comp).pending = s.pending := by
  unfold State.enterSlow; (try dsimp only [State.bothSides]); (repeat' split) <;> simp

@[simp] theorem State.enterFlowing_frame (s : State) (sd : Side) (comp : Composition) :
    (s.enterFlowing sd comp).now = s.now ∧ (s.enterFlowing sd comp).pfe = s.pfe ∧
      (s.enterFlowing sd comp).prices = s.prices ∧ (s.enterFlowing sd comp).motors = s.motors ∧
      (s.enterFlowing sd comp).gates = s.gates ∧ (s.enterFlowing sd comp).store = s.store ∧
      (s.enterFlowing sd comp).mode = s.mode ∧ (s.enterFlowing sd comp).exch.mem = s.exch.mem ∧
      (s.enterFlowing sd comp).exch.config = s.exch.config ∧ (s.enterFlowing sd comp).exch.mask = s.exch.mask ∧
      (s.enterFlowing sd comp).exch.ready = s.exch.ready ∧ (s.enterFlowing sd comp).pins = s.pins ∧
      (s.enterFlowing sd comp).pending = s.pending := by
  unfold State.enterFlowing; (try dsimp only [State.bothSides]); (repeat' split) <;> simp

@[simp] theorem State.startingTest_frame (s : State) (sd : Side) :
    (s.startingTest sd).now = s.now ∧ (s.startingTest sd).pfe = s.pfe ∧ (s.startingTest sd).prices = s.prices ∧
      (s.startingTest sd).motors = s.motors ∧ (s.startingTest sd).gates = s.gates ∧
      (s.startingTest sd).store = s.store ∧ (s.startingTest sd).mode = s.mode ∧
      (s.startingTest sd).exch.mem = s.exch.mem ∧ (s.startingTest sd).exch.config = s.exch.config ∧
      (s.startingTest sd).exch.mask = s.exch.mask ∧ (s.startingTest sd).exch.ready = s.exch.ready ∧
      (s.startingTest sd).pins = s.pins ∧ (s.startingTest sd).pending = s.pending := by
  unfold State.startingTest; (try dsimp only [State.bothSides]); (repeat' split) <;> simp

@[simp] theorem State.newStrayPeriod_frame (s : State) (sd : Side) :
    (s.newStrayPeriod sd).now = s.now ∧ (s.newStrayPeriod sd).sides = s.sides ∧
      (s.newStrayPeriod sd).prices = s.prices ∧ (s.newStrayPeriod sd).motors = s.motors ∧
      (s.newStrayPeriod sd).display = s.display ∧ (s.newStrayPeriod sd).gates = s.gates ∧
      (s.newStrayPeriod sd).store = s.store ∧ (s.newStrayPeriod sd).journal = s.journal ∧
      (s.newStrayPeriod sd).mode = s.mode ∧ (s.newStrayPeriod sd).exch.mem = s.exch.mem ∧
      (s.newStrayPeriod sd).exch.config = s.exch.config ∧ (s.newStrayPeriod sd).exch.mask = s.exch.mask ∧
      (s.newStrayPeriod sd).exch.ready = s.exch.ready ∧ (s.newStrayPeriod sd).pins = s.pins ∧
      (s.newStrayPeriod sd).pending = s.pending := by
  unfold State.newStrayPeriod; (try dsimp only [State.bothSides]); (repeat' split) <;> simp

@[simp] theorem State.attachMeters_frame (s : State) (sd : Side) (comp : Composition) (sale : Nat) :
    (s.attachMeters sd comp sale).now = s.now ∧ (s.attachMeters sd comp sale).sides = s.sides ∧
      (s.attachMeters sd comp sale).prices = s.prices ∧ (s.attachMeters sd comp sale).motors = s.motors ∧
      (s.attachMeters sd comp sale).display = s.display ∧ (s.attachMeters sd comp sale).gates = s.gates ∧
      (s.attachMeters sd comp sale).store = s.store ∧ (s.attachMeters sd comp sale).journal = s.journal ∧
      (s.attachMeters sd comp sale).mode = s.mode ∧ (s.attachMeters sd comp sale).exch.mem = s.exch.mem ∧
      (s.attachMeters sd comp sale).exch.config = s.exch.config ∧
      (s.attachMeters sd comp sale).exch.mask = s.exch.mask ∧
      (s.attachMeters sd comp sale).exch.ready = s.exch.ready ∧ (s.attachMeters sd comp sale).pins = s.pins ∧
      (s.attachMeters sd comp sale).pending = s.pending := by
  unfold State.attachMeters; (try dsimp only [State.bothSides]); (repeat' split) <;> simp

@[simp] theorem State.detachMeters_frame (s : State) (sd : Side) :
    (s.detachMeters sd).now = s.now ∧ (s.detachMeters sd).sides = s.sides ∧ (s.detachMeters sd).prices = s.prices ∧
      (s.detachMeters sd).motors = s.motors ∧ (s.detachMeters sd).display = s.display ∧
      (s.detachMeters sd).gates = s.gates ∧ (s.detachMeters sd).store = s.store ∧
      (s.detachMeters sd).journal = s.journal ∧ (s.detachMeters sd).mode = s.mode ∧
      (s.detachMeters sd).exch.mem = s.exch.mem ∧ (s.detachMeters sd).exch.config = s.exch.config ∧
      (s.detachMeters sd).exch.mask = s.exch.mask ∧ (s.detachMeters sd).exch.ready = s.exch.ready ∧
      (s.detachMeters sd).pins = s.pins ∧ (s.detachMeters sd).pending = s.pending := by
  unfold State.detachMeters; (try dsimp only [State.bothSides]); (repeat' split) <;> simp

@[simp] theorem State.closeSale_frame (s : State) (sd : Side) (reason : Option EndReason) (releases : Bool) (next : SideCtl → Sale → SideState) :
    (s.closeSale sd reason releases next).now = s.now ∧ (s.closeSale sd reason releases next).prices = s.prices ∧
      (s.closeSale sd reason releases next).gates = s.gates ∧
      (s.closeSale sd reason releases next).mode.mode = s.mode.mode ∧
      (s.closeSale sd reason releases next).exch.mem = s.exch.mem ∧
      (s.closeSale sd reason releases next).exch.config = s.exch.config ∧
      (s.closeSale sd reason releases next).exch.mask = s.exch.mask ∧
      (s.closeSale sd reason releases next).exch.ready = s.exch.ready ∧
      (s.closeSale sd reason releases next).pins = s.pins ∧
      (s.closeSale sd reason releases next).pending = s.pending := by
  unfold State.closeSale; (try dsimp only [State.bothSides]); (repeat' split) <;> simp

@[simp] theorem State.completeSale_frame (s : State) (sd : Side) (reason : Option EndReason) :
    (s.completeSale sd reason).now = s.now ∧ (s.completeSale sd reason).prices = s.prices ∧
      (s.completeSale sd reason).gates = s.gates ∧ (s.completeSale sd reason).mode.mode = s.mode.mode ∧
      (s.completeSale sd reason).exch.mem = s.exch.mem ∧ (s.completeSale sd reason).exch.config = s.exch.config ∧
      (s.completeSale sd reason).exch.mask = s.exch.mask ∧ (s.completeSale sd reason).exch.ready = s.exch.ready ∧
      (s.completeSale sd reason).pins = s.pins ∧ (s.completeSale sd reason).pending = s.pending := by
  unfold State.completeSale; (try dsimp only [State.bothSides]); (repeat' split) <;> simp

@[simp] theorem State.cutSale_frame (s : State) (sd : Side) (reason : EndReason) :
    (s.cutSale sd reason).now = s.now ∧ (s.cutSale sd reason).prices = s.prices ∧
      (s.cutSale sd reason).gates = s.gates ∧ (s.cutSale sd reason).mode.mode = s.mode.mode ∧
      (s.cutSale sd reason).exch.mem = s.exch.mem ∧ (s.cutSale sd reason).exch.config = s.exch.config ∧
      (s.cutSale sd reason).exch.mask = s.exch.mask ∧ (s.cutSale sd reason).exch.ready = s.exch.ready ∧
      (s.cutSale sd reason).pins = s.pins ∧ (s.cutSale sd reason).pending = s.pending := by
  unfold State.cutSale; (try dsimp only [State.bothSides]); (repeat' split) <;> simp

@[simp] theorem State.registerSide_frame (s : State) (sd : Side) (comp : Composition) :
    (s.registerSide sd comp).now = s.now ∧ (s.registerSide sd comp).pfe = s.pfe ∧
      (s.registerSide sd comp).prices = s.prices ∧ (s.registerSide sd comp).display = s.display ∧
      (s.registerSide sd comp).gates = s.gates ∧ (s.registerSide sd comp).store = s.store ∧
      (s.registerSide sd comp).journal = s.journal ∧ (s.registerSide sd comp).mode.mode = s.mode.mode ∧
      (s.registerSide sd comp).exch.mem = s.exch.mem ∧ (s.registerSide sd comp).exch.config = s.exch.config ∧
      (s.registerSide sd comp).exch.mask = s.exch.mask ∧ (s.registerSide sd comp).exch.ready = s.exch.ready ∧
      (s.registerSide sd comp).pins = s.pins ∧ (s.registerSide sd comp).pending = s.pending := by
  unfold State.registerSide; (try dsimp only [State.bothSides]); (repeat' split) <;> simp

@[simp] theorem State.afterCapture_frame (s : State) (sd : Side) (comp : Composition) (sale : Nat) :
    (s.afterCapture sd comp sale).now = s.now ∧ (s.afterCapture sd comp sale).prices = s.prices ∧
      (s.afterCapture sd comp sale).gates = s.gates ∧ (s.afterCapture sd comp sale).mode.mode = s.mode.mode ∧
      (s.afterCapture sd comp sale).exch.mem = s.exch.mem ∧
      (s.afterCapture sd comp sale).exch.config = s.exch.config ∧
      (s.afterCapture sd comp sale).exch.mask = s.exch.mask ∧
      (s.afterCapture sd comp sale).exch.ready = s.exch.ready ∧ (s.afterCapture sd comp sale).pins = s.pins ∧
      (s.afterCapture sd comp sale).pending = s.pending := by
  unfold State.afterCapture; (try dsimp only [State.bothSides]); (repeat' split) <;> simp

@[simp] theorem State.capture1_frame (s : State) (sd : Side) (o : Sale) (n : Fin 4) (g : Fin 6) :
    (s.capture1 sd o n g).now = s.now ∧ (s.capture1 sd o n g).prices = s.prices ∧
      (s.capture1 sd o n g).gates = s.gates ∧ (s.capture1 sd o n g).mode.mode = s.mode.mode ∧
      (s.capture1 sd o n g).exch.mem = s.exch.mem ∧ (s.capture1 sd o n g).exch.config = s.exch.config ∧
      (s.capture1 sd o n g).exch.mask = s.exch.mask ∧ (s.capture1 sd o n g).exch.ready = s.exch.ready ∧
      (s.capture1 sd o n g).pins = s.pins ∧ (s.capture1 sd o n g).pending = s.pending := by
  unfold State.capture1; (try dsimp only [State.bothSides]); (repeat' split) <;> simp

@[simp] theorem State.showTest_frame (s : State) (sd : Side) (waiting : Bool) (lamp : Bool) (noPump : Bool) :
    (s.showTest sd waiting lamp noPump).now = s.now ∧ (s.showTest sd waiting lamp noPump).pfe = s.pfe ∧
      (s.showTest sd waiting lamp noPump).prices = s.prices ∧ (s.showTest sd waiting lamp noPump).motors = s.motors ∧
      (s.showTest sd waiting lamp noPump).gates = s.gates ∧ (s.showTest sd waiting lamp noPump).store = s.store ∧
      (s.showTest sd waiting lamp noPump).journal = s.journal ∧ (s.showTest sd waiting lamp noPump).mode = s.mode ∧
      (s.showTest sd waiting lamp noPump).exch.mem = s.exch.mem ∧
      (s.showTest sd waiting lamp noPump).exch.config = s.exch.config ∧
      (s.showTest sd waiting lamp noPump).exch.mask = s.exch.mask ∧
      (s.showTest sd waiting lamp noPump).exch.ready = s.exch.ready ∧
      (s.showTest sd waiting lamp noPump).pins = s.pins ∧ (s.showTest sd waiting lamp noPump).pending = s.pending := by
  unfold State.showTest; (try dsimp only [State.bothSides]); (repeat' split) <;> simp

@[simp] theorem State.testReadiness_frame (s : State) (sd : Side) :
    (s.testReadiness sd).now = s.now ∧ (s.testReadiness sd).prices = s.prices ∧
      (s.testReadiness sd).gates = s.gates ∧ (s.testReadiness sd).mode.mode = s.mode.mode ∧
      (s.testReadiness sd).exch.mem = s.exch.mem ∧ (s.testReadiness sd).exch.config = s.exch.config ∧
      (s.testReadiness sd).exch.mask = s.exch.mask ∧ (s.testReadiness sd).exch.ready = s.exch.ready ∧
      (s.testReadiness sd).pins = s.pins ∧ (s.testReadiness sd).pending = s.pending := by
  unfold State.testReadiness; (try dsimp only [State.bothSides]); (repeat' split) <;> simp

@[simp] theorem State.tellWaiting_frame (s : State) :
    (s.tellWaiting).now = s.now ∧ (s.tellWaiting).prices = s.prices ∧ (s.tellWaiting).gates = s.gates ∧
      (s.tellWaiting).mode.mode = s.mode.mode ∧ (s.tellWaiting).exch.mem = s.exch.mem ∧
      (s.tellWaiting).exch.config = s.exch.config ∧ (s.tellWaiting).exch.mask = s.exch.mask ∧
      (s.tellWaiting).exch.ready = s.exch.ready ∧ (s.tellWaiting).pins = s.pins ∧
      (s.tellWaiting).pending = s.pending := by
  unfold State.tellWaiting; (try dsimp only [State.bothSides]); (repeat' split) <;> simp

@[simp] theorem State.doSwap_frame (s : State) (b : Staged) :
    (s.doSwap b).now = s.now ∧ (s.doSwap b).gates = s.gates ∧ (s.doSwap b).mode.mode = s.mode.mode ∧
      (s.doSwap b).exch.mem = s.exch.mem ∧ (s.doSwap b).exch.config = s.exch.config ∧
      (s.doSwap b).exch.mask = s.exch.mask ∧ (s.doSwap b).exch.ready = s.exch.ready ∧ (s.doSwap b).pins = s.pins ∧
      (s.doSwap b).pending = s.pending := by
  unfold State.doSwap; (try dsimp only [State.bothSides]); (repeat' split) <;> simp

@[simp] theorem State.swapTest_frame (s : State) :
    (s.swapTest).now = s.now ∧ (s.swapTest).gates = s.gates ∧ (s.swapTest).mode.mode = s.mode.mode ∧
      (s.swapTest).exch.mem = s.exch.mem ∧ (s.swapTest).exch.config = s.exch.config ∧
      (s.swapTest).exch.mask = s.exch.mask ∧ (s.swapTest).exch.ready = s.exch.ready ∧ (s.swapTest).pins = s.pins ∧
      (s.swapTest).pending = s.pending := by
  unfold State.swapTest; (try dsimp only [State.bothSides]); (repeat' split) <;> simp

@[simp] theorem State.setDue_frame (s : State) :
    (s.setDue).now = s.now ∧ (s.setDue).gates = s.gates ∧ (s.setDue).mode.mode = s.mode.mode ∧
      (s.setDue).exch.mem = s.exch.mem ∧ (s.setDue).exch.config = s.exch.config ∧
      (s.setDue).exch.mask = s.exch.mask ∧ (s.setDue).exch.ready = s.exch.ready ∧ (s.setDue).pins = s.pins ∧
      (s.setDue).pending = s.pending := by
  unfold State.setDue; (try dsimp only [State.bothSides]); (repeat' split) <;> simp

@[simp] theorem State.clockForPrices_frame (s : State) :
    (s.clockForPrices).now = s.now ∧ (s.clockForPrices).gates = s.gates ∧
      (s.clockForPrices).mode.mode = s.mode.mode ∧ (s.clockForPrices).exch.mem = s.exch.mem ∧
      (s.clockForPrices).exch.config = s.exch.config ∧ (s.clockForPrices).exch.mask = s.exch.mask ∧
      (s.clockForPrices).exch.ready = s.exch.ready ∧ (s.clockForPrices).pins = s.pins ∧
      (s.clockForPrices).pending = s.pending := by
  unfold State.clockForPrices; (try dsimp only [State.bothSides]); (repeat' split) <;> simp

@[simp] theorem State.setMode_frame (s : State) (m : ModeCtl) :
    (s.setMode m).now = s.now ∧ (s.setMode m).pfe = s.pfe ∧ (s.setMode m).sides = s.sides ∧
      (s.setMode m).prices = s.prices ∧ (s.setMode m).motors = s.motors ∧ (s.setMode m).display = s.display ∧
      (s.setMode m).gates = s.gates ∧ (s.setMode m).store = s.store ∧ (s.setMode m).journal = s.journal ∧
      (s.setMode m).exch.mem = s.exch.mem ∧ (s.setMode m).exch.config = s.exch.config ∧
      (s.setMode m).exch.mask = s.exch.mask ∧ (s.setMode m).exch.ready = s.exch.ready ∧ (s.setMode m).pins = s.pins ∧
      (s.setMode m).pending = s.pending := by
  unfold State.setMode; (try dsimp only [State.bothSides]); (repeat' split) <;> simp

@[simp] theorem State.toStage_frame (s : State) (st : Stage) :
    (s.toStage st).now = s.now ∧ (s.toStage st).pfe = s.pfe ∧ (s.toStage st).sides = s.sides ∧
      (s.toStage st).prices = s.prices ∧ (s.toStage st).motors = s.motors ∧ (s.toStage st).display = s.display ∧
      (s.toStage st).gates = s.gates ∧ (s.toStage st).store = s.store ∧ (s.toStage st).journal = s.journal ∧
      (s.toStage st).exch.mem = s.exch.mem ∧ (s.toStage st).exch.config = s.exch.config ∧
      (s.toStage st).exch.mask = s.exch.mask ∧ (s.toStage st).exch.ready = s.exch.ready ∧
      (s.toStage st).pins = s.pins ∧ (s.toStage st).pending = s.pending := by
  unfold State.toStage; (try dsimp only [State.bothSides]); (repeat' split) <;> simp

@[simp] theorem State.clearNight_frame (s : State) (m : Mode) :
    (s.clearNight m).now = s.now ∧ (s.clearNight m).sides = s.sides ∧ (s.clearNight m).prices = s.prices ∧
      (s.clearNight m).motors = s.motors ∧ (s.clearNight m).display = s.display ∧ (s.clearNight m).gates = s.gates ∧
      (s.clearNight m).store = s.store ∧ (s.clearNight m).journal = s.journal ∧ (s.clearNight m).mode = s.mode ∧
      (s.clearNight m).exch.mem = s.exch.mem ∧ (s.clearNight m).exch.config = s.exch.config ∧
      (s.clearNight m).exch.mask = s.exch.mask ∧ (s.clearNight m).exch.ready = s.exch.ready ∧
      (s.clearNight m).pins = s.pins ∧ (s.clearNight m).pending = s.pending := by
  unfold State.clearNight; (try dsimp only [State.bothSides]); (repeat' split) <;> simp

@[simp] theorem State.changeMode_frame (s : State) (m : Mode) (st : Option Stage) (d2 : Detail) :
    (s.changeMode m st d2).now = s.now ∧ (s.changeMode m st d2).sides = s.sides ∧
      (s.changeMode m st d2).prices = s.prices ∧ (s.changeMode m st d2).motors = s.motors ∧
      (s.changeMode m st d2).gates = s.gates ∧ (s.changeMode m st d2).store = s.store ∧
      (s.changeMode m st d2).journal = s.journal ∧ (s.changeMode m st d2).exch.mem = s.exch.mem ∧
      (s.changeMode m st d2).exch.config = s.exch.config ∧ (s.changeMode m st d2).exch.mask = s.exch.mask ∧
      (s.changeMode m st d2).exch.ready = s.exch.ready ∧ (s.changeMode m st d2).pins = s.pins ∧
      (s.changeMode m st d2).pending = s.pending := by
  unfold State.changeMode; (try dsimp only [State.bothSides]); (repeat' split) <;> simp

@[simp] theorem State.snapshotStage_frame (s : State) :
    (s.snapshotStage).now = s.now ∧ (s.snapshotStage).pfe = s.pfe ∧ (s.snapshotStage).sides = s.sides ∧
      (s.snapshotStage).prices = s.prices ∧ (s.snapshotStage).motors = s.motors ∧
      (s.snapshotStage).display = s.display ∧ (s.snapshotStage).gates = s.gates ∧
      (s.snapshotStage).exch.mem = s.exch.mem ∧ (s.snapshotStage).exch.config = s.exch.config ∧
      (s.snapshotStage).exch.mask = s.exch.mask ∧ (s.snapshotStage).exch.ready = s.exch.ready ∧
      (s.snapshotStage).pins = s.pins ∧ (s.snapshotStage).pending = s.pending := by
  unfold State.snapshotStage; (try dsimp only [State.bothSides]); (repeat' split) <;> simp

@[simp] theorem State.darkReport_frame (s : State) :
    (s.darkReport).now = s.now ∧ (s.darkReport).pfe = s.pfe ∧ (s.darkReport).sides = s.sides ∧
      (s.darkReport).prices = s.prices ∧ (s.darkReport).motors = s.motors ∧ (s.darkReport).gates = s.gates ∧
      (s.darkReport).exch.mem = s.exch.mem ∧ (s.darkReport).exch.config = s.exch.config ∧
      (s.darkReport).exch.mask = s.exch.mask ∧ (s.darkReport).exch.ready = s.exch.ready ∧
      (s.darkReport).pins = s.pins ∧ (s.darkReport).pending = s.pending := by
  unfold State.darkReport; (try dsimp only [State.bothSides]); (repeat' split) <;> simp

@[simp] theorem State.displayStage_frame (s : State) :
    (s.displayStage).now = s.now ∧ (s.displayStage).pfe = s.pfe ∧ (s.displayStage).sides = s.sides ∧
      (s.displayStage).prices = s.prices ∧ (s.displayStage).motors = s.motors ∧ (s.displayStage).gates = s.gates ∧
      (s.displayStage).exch.mem = s.exch.mem ∧ (s.displayStage).exch.config = s.exch.config ∧
      (s.displayStage).exch.mask = s.exch.mask ∧ (s.displayStage).exch.ready = s.exch.ready ∧
      (s.displayStage).pins = s.pins ∧ (s.displayStage).pending = s.pending := by
  unfold State.displayStage; (try dsimp only [State.bothSides]); (repeat' split) <;> simp

@[simp] theorem State.motorsOffStage_frame (s : State) :
    (s.motorsOffStage).now = s.now ∧ (s.motorsOffStage).pfe = s.pfe ∧ (s.motorsOffStage).prices = s.prices ∧
      (s.motorsOffStage).display = s.display ∧ (s.motorsOffStage).gates = s.gates ∧
      (s.motorsOffStage).store = s.store ∧ (s.motorsOffStage).journal = s.journal ∧
      (s.motorsOffStage).exch.mem = s.exch.mem ∧ (s.motorsOffStage).exch.config = s.exch.config ∧
      (s.motorsOffStage).exch.mask = s.exch.mask ∧ (s.motorsOffStage).exch.ready = s.exch.ready ∧
      (s.motorsOffStage).pins = s.pins ∧ (s.motorsOffStage).pending = s.pending := by
  unfold State.motorsOffStage; (try dsimp only [State.bothSides]); (repeat' split) <;> simp

@[simp] theorem State.spacingStep_frame (s : State) :
    (s.spacingStep).now = s.now ∧ (s.spacingStep).pfe = s.pfe ∧ (s.spacingStep).prices = s.prices ∧
      (s.spacingStep).gates = s.gates ∧ (s.spacingStep).exch.mem = s.exch.mem ∧
      (s.spacingStep).exch.config = s.exch.config ∧ (s.spacingStep).exch.mask = s.exch.mask ∧
      (s.spacingStep).exch.ready = s.exch.ready ∧ (s.spacingStep).pins = s.pins ∧
      (s.spacingStep).pending = s.pending := by
  unfold State.spacingStep; (try dsimp only [State.bothSides]); (repeat' split) <;> simp

@[simp] theorem State.readersOffStage_frame (s : State) :
    (s.readersOffStage).now = s.now ∧ (s.readersOffStage).pfe = s.pfe ∧ (s.readersOffStage).prices = s.prices ∧
      (s.readersOffStage).store = s.store ∧ (s.readersOffStage).journal = s.journal ∧
      (s.readersOffStage).exch.mem = s.exch.mem ∧ (s.readersOffStage).exch.config = s.exch.config ∧
      (s.readersOffStage).exch.mask = s.exch.mask ∧ (s.readersOffStage).exch.ready = s.exch.ready ∧
      (s.readersOffStage).pins = s.pins ∧ (s.readersOffStage).pending = s.pending := by
  unfold State.readersOffStage; (try dsimp only [State.bothSides]); (repeat' split) <;> simp

@[simp] theorem State.drainTest_frame (s : State) :
    (s.drainTest).now = s.now ∧ (s.drainTest).pfe = s.pfe ∧ (s.drainTest).prices = s.prices ∧
      (s.drainTest).store = s.store ∧ (s.drainTest).journal = s.journal ∧ (s.drainTest).exch.mem = s.exch.mem ∧
      (s.drainTest).exch.config = s.exch.config ∧ (s.drainTest).exch.mask = s.exch.mask ∧
      (s.drainTest).exch.ready = s.exch.ready ∧ (s.drainTest).pins = s.pins ∧ (s.drainTest).pending = s.pending := by
  unfold State.drainTest; (try dsimp only [State.bothSides]); (repeat' split) <;> simp

@[simp] theorem State.drainReport_frame (s : State) (sd : Side) :
    (s.drainReport sd).now = s.now ∧ (s.drainReport sd).pfe = s.pfe ∧ (s.drainReport sd).prices = s.prices ∧
      (s.drainReport sd).store = s.store ∧ (s.drainReport sd).journal = s.journal ∧
      (s.drainReport sd).exch.mem = s.exch.mem ∧ (s.drainReport sd).exch.config = s.exch.config ∧
      (s.drainReport sd).exch.mask = s.exch.mask ∧ (s.drainReport sd).exch.ready = s.exch.ready ∧
      (s.drainReport sd).pins = s.pins ∧ (s.drainReport sd).pending = s.pending := by
  unfold State.drainReport; (try dsimp only [State.bothSides]); (repeat' split) <;> simp

@[simp] theorem State.finishSale_frame (s : State) (sd : Side) (reason : Option EndReason) :
    (s.finishSale sd reason).now = s.now ∧ (s.finishSale sd reason).exch.mem = s.exch.mem ∧
      (s.finishSale sd reason).exch.config = s.exch.config ∧ (s.finishSale sd reason).exch.mask = s.exch.mask ∧
      (s.finishSale sd reason).exch.ready = s.exch.ready ∧ (s.finishSale sd reason).pins = s.pins ∧
      (s.finishSale sd reason).pending = s.pending := by
  unfold State.finishSale; (try dsimp only [State.bothSides]); (repeat' split) <;> simp

@[simp] theorem State.noticeMeterFault_frame (s : State) (m : Meter) :
    (s.noticeMeterFault m).now = s.now ∧ (s.noticeMeterFault m).exch.mem = s.exch.mem ∧
      (s.noticeMeterFault m).exch.config = s.exch.config ∧ (s.noticeMeterFault m).exch.mask = s.exch.mask ∧
      (s.noticeMeterFault m).exch.ready = s.exch.ready ∧ (s.noticeMeterFault m).pins = s.pins ∧
      (s.noticeMeterFault m).pending = s.pending := by
  unfold State.noticeMeterFault; (try dsimp only [State.bothSides]); (repeat' split) <;> simp

@[simp] theorem State.noticeMotorFailed_frame (s : State) (sd : Side) (p : Product) :
    (s.noticeMotorFailed sd p).now = s.now ∧ (s.noticeMotorFailed sd p).exch.mem = s.exch.mem ∧
      (s.noticeMotorFailed sd p).exch.config = s.exch.config ∧ (s.noticeMotorFailed sd p).exch.mask = s.exch.mask ∧
      (s.noticeMotorFailed sd p).exch.ready = s.exch.ready ∧ (s.noticeMotorFailed sd p).pins = s.pins ∧
      (s.noticeMotorFailed sd p).pending = s.pending := by
  unfold State.noticeMotorFailed; (try dsimp only [State.bothSides]); (repeat' split) <;> simp

@[simp] theorem State.noticeDisplayFault_frame (s : State) (sd : Side) :
    (s.noticeDisplayFault sd).now = s.now ∧ (s.noticeDisplayFault sd).exch.mem = s.exch.mem ∧
      (s.noticeDisplayFault sd).exch.config = s.exch.config ∧ (s.noticeDisplayFault sd).exch.mask = s.exch.mask ∧
      (s.noticeDisplayFault sd).exch.ready = s.exch.ready ∧ (s.noticeDisplayFault sd).pins = s.pins ∧
      (s.noticeDisplayFault sd).pending = s.pending := by
  unfold State.noticeDisplayFault; (try dsimp only [State.bothSides]); (repeat' split) <;> simp

@[simp] theorem State.markReaderLost_frame (s : State) (sd : Side) :
    (s.markReaderLost sd).now = s.now ∧ (s.markReaderLost sd).pfe = s.pfe ∧ (s.markReaderLost sd).prices = s.prices ∧
      (s.markReaderLost sd).motors = s.motors ∧ (s.markReaderLost sd).display = s.display ∧
      (s.markReaderLost sd).gates = s.gates ∧ (s.markReaderLost sd).store = s.store ∧
      (s.markReaderLost sd).journal = s.journal ∧ (s.markReaderLost sd).mode = s.mode ∧
      (s.markReaderLost sd).exch.mem = s.exch.mem ∧ (s.markReaderLost sd).exch.config = s.exch.config ∧
      (s.markReaderLost sd).exch.mask = s.exch.mask ∧ (s.markReaderLost sd).exch.ready = s.exch.ready ∧
      (s.markReaderLost sd).pins = s.pins ∧ (s.markReaderLost sd).pending = s.pending := by
  unfold State.markReaderLost; (try dsimp only [State.bothSides]); (repeat' split) <;> simp

@[simp] theorem State.noticeGate_frame (s : State) (sd : Side) :
    (s.noticeGate sd).now = s.now ∧ (s.noticeGate sd).exch.mem = s.exch.mem ∧
      (s.noticeGate sd).exch.config = s.exch.config ∧ (s.noticeGate sd).exch.mask = s.exch.mask ∧
      (s.noticeGate sd).exch.ready = s.exch.ready ∧ (s.noticeGate sd).pins = s.pins ∧
      (s.noticeGate sd).pending = s.pending := by
  unfold State.noticeGate; (try dsimp only [State.bothSides]); (repeat' split) <;> simp

@[simp] theorem State.noticeLeftFailed_frame (s : State) :
    (s.noticeLeftFailed).now = s.now ∧ (s.noticeLeftFailed).prices = s.prices ∧
      (s.noticeLeftFailed).gates = s.gates ∧ (s.noticeLeftFailed).mode.mode = s.mode.mode ∧
      (s.noticeLeftFailed).exch.mem = s.exch.mem ∧ (s.noticeLeftFailed).exch.config = s.exch.config ∧
      (s.noticeLeftFailed).exch.mask = s.exch.mask ∧ (s.noticeLeftFailed).exch.ready = s.exch.ready ∧
      (s.noticeLeftFailed).pins = s.pins ∧ (s.noticeLeftFailed).pending = s.pending := by
  unfold State.noticeLeftFailed; (try dsimp only [State.bothSides]); (repeat' split) <;> simp

@[simp] theorem State.meterFault_frame (s : State) (m : Meter) (cause : FaultCause) (count : Nat) :
    (s.meterFault m cause count).now = s.now ∧ (s.meterFault m cause count).exch.mem = s.exch.mem ∧
      (s.meterFault m cause count).exch.config = s.exch.config ∧
      (s.meterFault m cause count).exch.mask = s.exch.mask ∧ (s.meterFault m cause count).exch.ready = s.exch.ready ∧
      (s.meterFault m cause count).pins = s.pins ∧ (s.meterFault m cause count).pending = s.pending := by
  unfold State.meterFault; (try dsimp only [State.bothSides]); (repeat' split) <;> simp

@[simp] theorem State.callIfLifted_frame (s : State) (sd : Side) :
    (s.callIfLifted sd).now = s.now ∧ (s.callIfLifted sd).pfe = s.pfe ∧ (s.callIfLifted sd).prices = s.prices ∧
      (s.callIfLifted sd).motors = s.motors ∧ (s.callIfLifted sd).gates = s.gates ∧
      (s.callIfLifted sd).store = s.store ∧ (s.callIfLifted sd).mode = s.mode ∧
      (s.callIfLifted sd).exch.mem = s.exch.mem ∧ (s.callIfLifted sd).exch.config = s.exch.config ∧
      (s.callIfLifted sd).exch.mask = s.exch.mask ∧ (s.callIfLifted sd).exch.ready = s.exch.ready ∧
      (s.callIfLifted sd).pins = s.pins ∧ (s.callIfLifted sd).pending = s.pending := by
  unfold State.callIfLifted; (try dsimp only [State.bothSides]); (repeat' split) <;> simp

@[simp] theorem State.enterOpen_frame (s : State) :
    (s.enterOpen).now = s.now ∧ (s.enterOpen).prices = s.prices ∧ (s.enterOpen).motors = s.motors ∧
      (s.enterOpen).gates = s.gates ∧ (s.enterOpen).store = s.store ∧ (s.enterOpen).exch.mem = s.exch.mem ∧
      (s.enterOpen).exch.config = s.exch.config ∧ (s.enterOpen).exch.mask = s.exch.mask ∧
      (s.enterOpen).exch.ready = s.exch.ready ∧ (s.enterOpen).pins = s.pins ∧ (s.enterOpen).pending = s.pending := by
  unfold State.enterOpen; (try dsimp only [State.bothSides]); (repeat' split) <;> simp

@[simp] theorem State.settleReader_frame (s : State) (sd : Side) :
    (s.settleReader sd).now = s.now ∧ (s.settleReader sd).pfe = s.pfe ∧ (s.settleReader sd).sides = s.sides ∧
      (s.settleReader sd).prices = s.prices ∧ (s.settleReader sd).motors = s.motors ∧
      (s.settleReader sd).display = s.display ∧ (s.settleReader sd).gates = s.gates ∧
      (s.settleReader sd).store = s.store ∧ (s.settleReader sd).journal = s.journal ∧
      (s.settleReader sd).exch.mem = s.exch.mem ∧ (s.settleReader sd).exch.config = s.exch.config ∧
      (s.settleReader sd).exch.mask = s.exch.mask ∧ (s.settleReader sd).exch.ready = s.exch.ready ∧
      (s.settleReader sd).pins = s.pins ∧ (s.settleReader sd).pending = s.pending := by
  unfold State.settleReader; (try dsimp only [State.bothSides]); (repeat' split) <;> simp

@[simp] theorem State.readersTest_frame (s : State) :
    (s.readersTest).now = s.now ∧ (s.readersTest).prices = s.prices ∧ (s.readersTest).motors = s.motors ∧
      (s.readersTest).gates = s.gates ∧ (s.readersTest).store = s.store ∧ (s.readersTest).exch.mem = s.exch.mem ∧
      (s.readersTest).exch.config = s.exch.config ∧ (s.readersTest).exch.mask = s.exch.mask ∧
      (s.readersTest).exch.ready = s.exch.ready ∧ (s.readersTest).pins = s.pins ∧
      (s.readersTest).pending = s.pending := by
  unfold State.readersTest; (try dsimp only [State.bothSides]); (repeat' split) <;> simp

@[simp] theorem State.readersStage_frame (s : State) :
    (s.readersStage).now = s.now ∧ (s.readersStage).prices = s.prices ∧ (s.readersStage).motors = s.motors ∧
      (s.readersStage).store = s.store ∧ (s.readersStage).exch.mem = s.exch.mem ∧
      (s.readersStage).exch.config = s.exch.config ∧ (s.readersStage).exch.mask = s.exch.mask ∧
      (s.readersStage).exch.ready = s.exch.ready ∧ (s.readersStage).pins = s.pins ∧
      (s.readersStage).pending = s.pending := by
  unfold State.readersStage; (try dsimp only [State.bothSides]); (repeat' split) <;> simp

@[simp] theorem State.primeTest_frame (s : State) :
    (s.primeTest).now = s.now ∧ (s.primeTest).prices = s.prices ∧ (s.primeTest).store = s.store ∧
      (s.primeTest).exch.mem = s.exch.mem ∧ (s.primeTest).exch.config = s.exch.config ∧
      (s.primeTest).exch.mask = s.exch.mask ∧ (s.primeTest).exch.ready = s.exch.ready ∧ (s.primeTest).pins = s.pins ∧
      (s.primeTest).pending = s.pending := by
  unfold State.primeTest; (try dsimp only [State.bothSides]); (repeat' split) <;> simp

@[simp] theorem State.primeFailed_frame (s : State) (p : Product) :
    (s.primeFailed p).now = s.now ∧ (s.primeFailed p).pfe = s.pfe ∧ (s.primeFailed p).sides = s.sides ∧
      (s.primeFailed p).prices = s.prices ∧ (s.primeFailed p).motors = s.motors ∧
      (s.primeFailed p).display = s.display ∧ (s.primeFailed p).gates = s.gates ∧ (s.primeFailed p).store = s.store ∧
      (s.primeFailed p).journal = s.journal ∧ (s.primeFailed p).exch.mem = s.exch.mem ∧
      (s.primeFailed p).exch.config = s.exch.config ∧ (s.primeFailed p).exch.mask = s.exch.mask ∧
      (s.primeFailed p).exch.ready = s.exch.ready ∧ (s.primeFailed p).pins = s.pins ∧
      (s.primeFailed p).pending = s.pending := by
  unfold State.primeFailed; (try dsimp only [State.bothSides]); (repeat' split) <;> simp

@[simp] theorem State.primeRegister_frame (s : State) (p : Product) :
    (s.primeRegister p).now = s.now ∧ (s.primeRegister p).pfe = s.pfe ∧ (s.primeRegister p).prices = s.prices ∧
      (s.primeRegister p).display = s.display ∧ (s.primeRegister p).gates = s.gates ∧
      (s.primeRegister p).store = s.store ∧ (s.primeRegister p).journal = s.journal ∧
      (s.primeRegister p).exch.mem = s.exch.mem ∧ (s.primeRegister p).exch.config = s.exch.config ∧
      (s.primeRegister p).exch.mask = s.exch.mask ∧ (s.primeRegister p).exch.ready = s.exch.ready ∧
      (s.primeRegister p).pins = s.pins ∧ (s.primeRegister p).pending = s.pending := by
  unfold State.primeRegister; (try dsimp only [State.bothSides]); (repeat' split) <;> simp

@[simp] theorem State.primeStage_frame (s : State) :
    (s.primeStage).now = s.now ∧ (s.primeStage).prices = s.prices ∧ (s.primeStage).store = s.store ∧
      (s.primeStage).exch.mem = s.exch.mem ∧ (s.primeStage).exch.config = s.exch.config ∧
      (s.primeStage).exch.mask = s.exch.mask ∧ (s.primeStage).exch.ready = s.exch.ready ∧
      (s.primeStage).pins = s.pins ∧ (s.primeStage).pending = s.pending := by
  unfold State.primeStage; (try dsimp only [State.bothSides]); (repeat' split) <;> simp

@[simp] theorem State.afterMotors_frame (s : State) :
    (s.afterMotors).now = s.now ∧ (s.afterMotors).prices = s.prices ∧ (s.afterMotors).store = s.store ∧
      (s.afterMotors).exch.mem = s.exch.mem ∧ (s.afterMotors).exch.config = s.exch.config ∧
      (s.afterMotors).exch.mask = s.exch.mask ∧ (s.afterMotors).exch.ready = s.exch.ready ∧
      (s.afterMotors).pins = s.pins ∧ (s.afterMotors).pending = s.pending := by
  unfold State.afterMotors; (try dsimp only [State.bothSides]); (repeat' split) <;> simp

@[simp] theorem State.lampDone_frame (s : State) (sd : Side) (failed : Bool) :
    (s.lampDone sd failed).now = s.now ∧ (s.lampDone sd failed).prices = s.prices ∧
      (s.lampDone sd failed).store = s.store ∧ (s.lampDone sd failed).exch.mem = s.exch.mem ∧
      (s.lampDone sd failed).exch.config = s.exch.config ∧ (s.lampDone sd failed).exch.mask = s.exch.mask ∧
      (s.lampDone sd failed).exch.ready = s.exch.ready ∧ (s.lampDone sd failed).pins = s.pins ∧
      (s.lampDone sd failed).pending = s.pending := by
  unfold State.lampDone; (try dsimp only [State.bothSides]); (repeat' split) <;> simp

@[simp] theorem State.lampStage_frame (s : State) :
    (s.lampStage).now = s.now ∧ (s.lampStage).pfe = s.pfe ∧ (s.lampStage).sides = s.sides ∧
      (s.lampStage).prices = s.prices ∧ (s.lampStage).motors = s.motors ∧ (s.lampStage).gates = s.gates ∧
      (s.lampStage).store = s.store ∧ (s.lampStage).journal = s.journal ∧ (s.lampStage).exch.mem = s.exch.mem ∧
      (s.lampStage).exch.config = s.exch.config ∧ (s.lampStage).exch.mask = s.exch.mask ∧
      (s.lampStage).exch.ready = s.exch.ready ∧ (s.lampStage).pins = s.pins ∧ (s.lampStage).pending = s.pending := by
  unfold State.lampStage; (try dsimp only [State.bothSides]); (repeat' split) <;> simp

@[simp] theorem State.warmDone_frame (s : State) (cold : Bool) :
    (s.warmDone cold).now = s.now ∧ (s.warmDone cold).pfe = s.pfe ∧ (s.warmDone cold).sides = s.sides ∧
      (s.warmDone cold).prices = s.prices ∧ (s.warmDone cold).motors = s.motors ∧ (s.warmDone cold).gates = s.gates ∧
      (s.warmDone cold).store = s.store ∧ (s.warmDone cold).journal = s.journal ∧
      (s.warmDone cold).exch.mem = s.exch.mem ∧ (s.warmDone cold).exch.config = s.exch.config ∧
      (s.warmDone cold).exch.mask = s.exch.mask ∧ (s.warmDone cold).exch.ready = s.exch.ready ∧
      (s.warmDone cold).pins = s.pins ∧ (s.warmDone cold).pending = s.pending := by
  unfold State.warmDone; (try dsimp only [State.bothSides]); (repeat' split) <;> simp

@[simp] theorem State.warmStage_frame (s : State) :
    (s.warmStage).now = s.now ∧ (s.warmStage).pfe = s.pfe ∧ (s.warmStage).sides = s.sides ∧
      (s.warmStage).prices = s.prices ∧ (s.warmStage).motors = s.motors ∧ (s.warmStage).gates = s.gates ∧
      (s.warmStage).store = s.store ∧ (s.warmStage).journal = s.journal ∧ (s.warmStage).exch.mem = s.exch.mem ∧
      (s.warmStage).exch.config = s.exch.config ∧ (s.warmStage).exch.mask = s.exch.mask ∧
      (s.warmStage).exch.ready = s.exch.ready ∧ (s.warmStage).pins = s.pins ∧ (s.warmStage).pending = s.pending := by
  unfold State.warmStage; (try dsimp only [State.bothSides]); (repeat' split) <;> simp

@[simp] theorem State.returnToClosed_frame (s : State) (cause : ModeCause) :
    (s.returnToClosed cause).now = s.now ∧ (s.returnToClosed cause).prices = s.prices ∧
      (s.returnToClosed cause).exch.mem = s.exch.mem ∧ (s.returnToClosed cause).exch.config = s.exch.config ∧
      (s.returnToClosed cause).exch.mask = s.exch.mask ∧ (s.returnToClosed cause).exch.ready = s.exch.ready ∧
      (s.returnToClosed cause).pins = s.pins ∧ (s.returnToClosed cause).pending = s.pending := by
  unfold State.returnToClosed; (try dsimp only [State.bothSides]); (repeat' split) <;> simp

@[simp] theorem State.checkStage_frame (s : State) :
    (s.checkStage).now = s.now ∧ (s.checkStage).prices = s.prices ∧ (s.checkStage).exch.mem = s.exch.mem ∧
      (s.checkStage).exch.config = s.exch.config ∧ (s.checkStage).exch.mask = s.exch.mask ∧
      (s.checkStage).exch.ready = s.exch.ready ∧ (s.checkStage).pins = s.pins ∧ (s.checkStage).pending = s.pending := by
  unfold State.checkStage; (try dsimp only [State.bothSides]); (repeat' split) <;> simp

@[simp] theorem State.beginOpening_frame (s : State) (cause : ModeCause) :
    (s.beginOpening cause).now = s.now ∧ (s.beginOpening cause).sides = s.sides ∧
      (s.beginOpening cause).prices = s.prices ∧ (s.beginOpening cause).motors = s.motors ∧
      (s.beginOpening cause).gates = s.gates ∧ (s.beginOpening cause).store = s.store ∧
      (s.beginOpening cause).journal = s.journal ∧ (s.beginOpening cause).exch.mem = s.exch.mem ∧
      (s.beginOpening cause).exch.config = s.exch.config ∧ (s.beginOpening cause).exch.mask = s.exch.mask ∧
      (s.beginOpening cause).exch.ready = s.exch.ready ∧ (s.beginOpening cause).pins = s.pins ∧
      (s.beginOpening cause).pending = s.pending := by
  unfold State.beginOpening; (try dsimp only [State.bothSides]); (repeat' split) <;> simp

@[simp] theorem State.refuseSale_frame (s : State) (sd : Side) :
    (s.refuseSale sd).now = s.now ∧ (s.refuseSale sd).exch.mem = s.exch.mem ∧
      (s.refuseSale sd).exch.config = s.exch.config ∧ (s.refuseSale sd).exch.mask = s.exch.mask ∧
      (s.refuseSale sd).exch.ready = s.exch.ready ∧ (s.refuseSale sd).pins = s.pins ∧
      (s.refuseSale sd).pending = s.pending := by
  unfold State.refuseSale; (try dsimp only [State.bothSides]); (repeat' split) <;> simp

@[simp] theorem State.beginClosing_frame (s : State) (cause : ModeCause) :
    (s.beginClosing cause).now = s.now ∧ (s.beginClosing cause).exch.mem = s.exch.mem ∧
      (s.beginClosing cause).exch.config = s.exch.config ∧ (s.beginClosing cause).exch.mask = s.exch.mask ∧
      (s.beginClosing cause).exch.ready = s.exch.ready ∧ (s.beginClosing cause).pins = s.pins ∧
      (s.beginClosing cause).pending = s.pending := by
  unfold State.beginClosing; (try dsimp only [State.bothSides]); (repeat' split) <;> simp

@[simp] theorem State.nightSide_frame (s : State) (sd : Side) :
    (s.nightSide sd).now = s.now ∧ (s.nightSide sd).pfe = s.pfe ∧ (s.nightSide sd).prices = s.prices ∧
      (s.nightSide sd).motors = s.motors ∧ (s.nightSide sd).gates = s.gates ∧ (s.nightSide sd).store = s.store ∧
      (s.nightSide sd).mode = s.mode ∧ (s.nightSide sd).exch.mem = s.exch.mem ∧
      (s.nightSide sd).exch.config = s.exch.config ∧ (s.nightSide sd).exch.mask = s.exch.mask ∧
      (s.nightSide sd).exch.ready = s.exch.ready ∧ (s.nightSide sd).pins = s.pins ∧
      (s.nightSide sd).pending = s.pending := by
  unfold State.nightSide; (try dsimp only [State.bothSides]); (repeat' split) <;> simp

@[simp] theorem State.night_frame (s : State) :
    (s.night).now = s.now ∧ (s.night).prices = s.prices ∧ (s.night).gates = s.gates ∧
      (s.night).exch.mem = s.exch.mem ∧ (s.night).exch.config = s.exch.config ∧ (s.night).exch.mask = s.exch.mask ∧
      (s.night).exch.ready = s.exch.ready ∧ (s.night).pins = s.pins ∧ (s.night).pending = s.pending := by
  unfold State.night; (try dsimp only [State.bothSides]); (repeat' split) <;> simp

@[simp] theorem State.clockForSchedule_frame (s : State) :
    (s.clockForSchedule).now = s.now ∧ (s.clockForSchedule).exch.mem = s.exch.mem ∧
      (s.clockForSchedule).exch.config = s.exch.config ∧ (s.clockForSchedule).exch.mask = s.exch.mask ∧
      (s.clockForSchedule).exch.ready = s.exch.ready ∧ (s.clockForSchedule).pins = s.pins ∧
      (s.clockForSchedule).pending = s.pending := by
  unfold State.clockForSchedule; (try dsimp only [State.bothSides]); (repeat' split) <;> simp

@[simp] theorem State.newClock_frame (s : State) :
    (s.newClock).now = s.now ∧ (s.newClock).exch.mem = s.exch.mem ∧ (s.newClock).exch.config = s.exch.config ∧
      (s.newClock).exch.mask = s.exch.mask ∧ (s.newClock).exch.ready = s.exch.ready ∧ (s.newClock).pins = s.pins ∧
      (s.newClock).pending = s.pending := by
  unfold State.newClock; (try dsimp only [State.bothSides]); (repeat' split) <;> simp

@[simp] theorem State.openNowTest_frame (s : State) :
    (s.openNowTest).now = s.now ∧ (s.openNowTest).sides = s.sides ∧ (s.openNowTest).prices = s.prices ∧
      (s.openNowTest).motors = s.motors ∧ (s.openNowTest).gates = s.gates ∧ (s.openNowTest).store = s.store ∧
      (s.openNowTest).journal = s.journal ∧ (s.openNowTest).exch.mem = s.exch.mem ∧
      (s.openNowTest).exch.config = s.exch.config ∧ (s.openNowTest).exch.mask = s.exch.mask ∧
      (s.openNowTest).exch.ready = s.exch.ready ∧ (s.openNowTest).pins = s.pins ∧
      (s.openNowTest).pending = s.pending := by
  unfold State.openNowTest; (try dsimp only [State.bothSides]); (repeat' split) <;> simp

@[simp] theorem State.afterGate_frame (s : State) (sd : Side) (old : GateState) :
    (s.afterGate sd old).now = s.now ∧ (s.afterGate sd old).exch.mem = s.exch.mem ∧
      (s.afterGate sd old).exch.config = s.exch.config ∧ (s.afterGate sd old).exch.mask = s.exch.mask ∧
      (s.afterGate sd old).exch.ready = s.exch.ready ∧ (s.afterGate sd old).pins = s.pins ∧
      (s.afterGate sd old).pending = s.pending := by
  unfold State.afterGate; (try dsimp only [State.bothSides]); (repeat' split) <;> simp

@[simp] theorem State.motorFails_frame (s : State) (p : Product) (cause : MotorCause) :
    (s.motorFails p cause).now = s.now ∧ (s.motorFails p cause).exch.mem = s.exch.mem ∧
      (s.motorFails p cause).exch.config = s.exch.config ∧ (s.motorFails p cause).exch.mask = s.exch.mask ∧
      (s.motorFails p cause).exch.ready = s.exch.ready ∧ (s.motorFails p cause).pins = s.pins ∧
      (s.motorFails p cause).pending = s.pending := by
  unfold State.motorFails; (try dsimp only [State.bothSides]); (repeat' split) <;> simp

@[simp] theorem State.motorRecovers_frame (s : State) (p : Product) :
    (s.motorRecovers p).now = s.now ∧ (s.motorRecovers p).prices = s.prices ∧
      (s.motorRecovers p).exch.mem = s.exch.mem ∧ (s.motorRecovers p).exch.config = s.exch.config ∧
      (s.motorRecovers p).exch.mask = s.exch.mask ∧ (s.motorRecovers p).exch.ready = s.exch.ready ∧
      (s.motorRecovers p).pins = s.pins ∧ (s.motorRecovers p).pending = s.pending := by
  unfold State.motorRecovers; (try dsimp only [State.bothSides]); (repeat' split) <;> simp

@[simp] theorem State.zeroFailed_frame (s : State) (sd : Side) :
    (s.zeroFailed sd).now = s.now ∧ (s.zeroFailed sd).exch.mem = s.exch.mem ∧
      (s.zeroFailed sd).exch.config = s.exch.config ∧ (s.zeroFailed sd).exch.mask = s.exch.mask ∧
      (s.zeroFailed sd).exch.ready = s.exch.ready ∧ (s.zeroFailed sd).pins = s.pins ∧
      (s.zeroFailed sd).pending = s.pending := by
  unfold State.zeroFailed; (try dsimp only [State.bothSides]); (repeat' split) <;> simp

@[simp] theorem State.displayFails_frame (s : State) (sd : Side) (cause : DispCause) (index : Nat) :
    (s.displayFails sd cause index).now = s.now ∧ (s.displayFails sd cause index).exch.mem = s.exch.mem ∧
      (s.displayFails sd cause index).exch.config = s.exch.config ∧
      (s.displayFails sd cause index).exch.mask = s.exch.mask ∧
      (s.displayFails sd cause index).exch.ready = s.exch.ready ∧ (s.displayFails sd cause index).pins = s.pins ∧
      (s.displayFails sd cause index).pending = s.pending := by
  unfold State.displayFails; (try dsimp only [State.bothSides]); (repeat' split) <;> simp

@[simp] theorem State.zeroVerified_frame (s : State) (sd : Side) (sale : Nat) :
    (s.zeroVerified sd sale).now = s.now ∧ (s.zeroVerified sd sale).pfe = s.pfe ∧
      (s.zeroVerified sd sale).prices = s.prices ∧ (s.zeroVerified sd sale).motors = s.motors ∧
      (s.zeroVerified sd sale).gates = s.gates ∧ (s.zeroVerified sd sale).store = s.store ∧
      (s.zeroVerified sd sale).mode = s.mode ∧ (s.zeroVerified sd sale).exch.mem = s.exch.mem ∧
      (s.zeroVerified sd sale).exch.config = s.exch.config ∧ (s.zeroVerified sd sale).exch.mask = s.exch.mask ∧
      (s.zeroVerified sd sale).exch.ready = s.exch.ready ∧ (s.zeroVerified sd sale).pins = s.pins ∧
      (s.zeroVerified sd sale).pending = s.pending := by
  unfold State.zeroVerified; (try dsimp only [State.bothSides]); (repeat' split) <;> simp

@[simp] theorem State.loseSale_frame (s : State) (snap : Snapshot) (sd : Side) :
    (s.loseSale snap sd).now = s.now ∧ (s.loseSale snap sd).pfe = s.pfe ∧ (s.loseSale snap sd).sides = s.sides ∧
      (s.loseSale snap sd).prices = s.prices ∧ (s.loseSale snap sd).motors = s.motors ∧
      (s.loseSale snap sd).display = s.display ∧ (s.loseSale snap sd).gates = s.gates ∧
      (s.loseSale snap sd).mode = s.mode ∧ (s.loseSale snap sd).exch.mem = s.exch.mem ∧
      (s.loseSale snap sd).exch.config = s.exch.config ∧ (s.loseSale snap sd).exch.mask = s.exch.mask ∧
      (s.loseSale snap sd).exch.ready = s.exch.ready ∧ (s.loseSale snap sd).pins = s.pins ∧
      (s.loseSale snap sd).pending = s.pending := by
  unfold State.loseSale; (try dsimp only [State.bothSides]); (repeat' split) <;> simp

@[simp] theorem State.raisePassed_frame (s : State) (l : List (Fin 16)) :
    (s.raisePassed l).now = s.now ∧ (s.raisePassed l).pfe = s.pfe ∧ (s.raisePassed l).sides = s.sides ∧
      (s.raisePassed l).prices = s.prices ∧ (s.raisePassed l).motors = s.motors ∧
      (s.raisePassed l).display = s.display ∧ (s.raisePassed l).gates = s.gates ∧ (s.raisePassed l).store = s.store ∧
      (s.raisePassed l).journal = s.journal ∧ (s.raisePassed l).mode = s.mode ∧
      (s.raisePassed l).exch.mem = s.exch.mem ∧ (s.raisePassed l).exch.config = s.exch.config ∧
      (s.raisePassed l).exch.mask = s.exch.mask ∧ (s.raisePassed l).exch.ready = s.exch.ready ∧
      (s.raisePassed l).pins = s.pins ∧ (s.raisePassed l).pending = s.pending := by
  induction l generalizing s with
  | nil => simp [State.raisePassed]
  | cons _ _ ih => unfold State.raisePassed; (repeat' split) <;> simp [ih]

@[simp] theorem State.recoverMotors_frame (s : State) (fromReset : Bool) :
    (s.recoverMotors fromReset).now = s.now ∧ (s.recoverMotors fromReset).pfe = s.pfe ∧
      (s.recoverMotors fromReset).sides = s.sides ∧ (s.recoverMotors fromReset).prices = s.prices ∧
      (s.recoverMotors fromReset).display = s.display ∧ (s.recoverMotors fromReset).gates = s.gates ∧
      (s.recoverMotors fromReset).store = s.store ∧ (s.recoverMotors fromReset).journal = s.journal ∧
      (s.recoverMotors fromReset).mode = s.mode ∧ (s.recoverMotors fromReset).exch.mem = s.exch.mem ∧
      (s.recoverMotors fromReset).exch.config = s.exch.config ∧ (s.recoverMotors fromReset).exch.mask = s.exch.mask ∧
      (s.recoverMotors fromReset).exch.ready = s.exch.ready ∧ (s.recoverMotors fromReset).pins = s.pins ∧
      (s.recoverMotors fromReset).pending = s.pending := by
  unfold State.recoverMotors; (try dsimp only [State.bothSides]); (repeat' split) <;> simp

@[simp] theorem State.restore_frame (s : State) (snap : Snapshot) (fromReset : Bool) :
    (s.restore snap fromReset).now = s.now ∧ (s.restore snap fromReset).sides = s.sides ∧
      (s.restore snap fromReset).display = s.display ∧ (s.restore snap fromReset).journal = s.journal ∧
      (s.restore snap fromReset).mode.mode = s.mode.mode ∧ (s.restore snap fromReset).exch.mem = s.exch.mem ∧
      (s.restore snap fromReset).exch.mask = s.exch.mask ∧ (s.restore snap fromReset).exch.ready = s.exch.ready ∧
      (s.restore snap fromReset).pins = s.pins ∧ (s.restore snap fromReset).pending = s.pending := by
  unfold State.restore; (try dsimp only [State.bothSides]); (repeat' split) <;> simp

@[simp] theorem State.leaveCold_frame (s : State) :
    (s.leaveCold).now = s.now ∧ (s.leaveCold).exch.config = s.exch.config ∧ (s.leaveCold).exch.mask = s.exch.mask ∧
      (s.leaveCold).pins = s.pins ∧ (s.leaveCold).pending = s.pending := by
  unfold State.leaveCold; (try dsimp only [State.bothSides]); (repeat' split) <;> simp

@[simp] theorem State.gateToReset_frame (s : State) (sd : Side) (g : GateCtl) :
    (s.gateToReset sd g).now = s.now ∧ (s.gateToReset sd g).pfe = s.pfe ∧ (s.gateToReset sd g).sides = s.sides ∧
      (s.gateToReset sd g).prices = s.prices ∧ (s.gateToReset sd g).motors = s.motors ∧ (s.gateToReset sd g).store = s.store ∧
      (s.gateToReset sd g).journal = s.journal ∧ (s.gateToReset sd g).mode = s.mode ∧
      (s.gateToReset sd g).exch.mem = s.exch.mem ∧ (s.gateToReset sd g).exch.config = s.exch.config ∧
      (s.gateToReset sd g).exch.mask = s.exch.mask ∧ (s.gateToReset sd g).exch.ready = s.exch.ready ∧
      (s.gateToReset sd g).pins = s.pins ∧ (s.gateToReset sd g).pending = s.pending := by
  unfold State.gateToReset; split <;> simp

@[simp] theorem State.gateEmpty_frame (s : State) (sd : Side) :
    (s.gateEmpty sd).now = s.now ∧ (s.gateEmpty sd).pfe = s.pfe ∧ (s.gateEmpty sd).sides = s.sides ∧
      (s.gateEmpty sd).prices = s.prices ∧ (s.gateEmpty sd).motors = s.motors ∧ (s.gateEmpty sd).store = s.store ∧
      (s.gateEmpty sd).journal = s.journal ∧ (s.gateEmpty sd).mode = s.mode ∧
      (s.gateEmpty sd).exch.mem = s.exch.mem ∧ (s.gateEmpty sd).exch.config = s.exch.config ∧
      (s.gateEmpty sd).exch.mask = s.exch.mask ∧ (s.gateEmpty sd).exch.ready = s.exch.ready ∧
      (s.gateEmpty sd).pins = s.pins ∧ (s.gateEmpty sd).pending = s.pending := by
  simp [State.gateEmpty]

@[simp] theorem State.recoverEmpty_frame (s : State) (fromReset : Bool) :
    (s.recoverEmpty fromReset).now = s.now ∧ (s.recoverEmpty fromReset).exch.mask = s.exch.mask ∧
      (s.recoverEmpty fromReset).pins = s.pins ∧ (s.recoverEmpty fromReset).pending = s.pending := by
  unfold State.recoverEmpty; (try dsimp only [State.bothSides]); (repeat' split) <;> simp

@[simp] theorem State.recoverFrom_frame (s : State) (found : Found) (fromReset : Bool) :
    (s.recoverFrom found fromReset).now = s.now ∧ (s.recoverFrom found fromReset).sides = s.sides ∧
      (s.recoverFrom found fromReset).display = s.display ∧ (s.recoverFrom found fromReset).mode.mode = s.mode.mode ∧
      (s.recoverFrom found fromReset).exch.mask = s.exch.mask ∧
      (s.recoverFrom found fromReset).exch.ready = s.exch.ready ∧ (s.recoverFrom found fromReset).pins = s.pins ∧
      (s.recoverFrom found fromReset).pending = s.pending := by
  unfold State.recoverFrom; (try dsimp only [State.bothSides]); (repeat' split) <;> simp

@[simp] theorem State.recover_frame (s : State) (fromReset : Bool) :
    (s.recover fromReset).now = s.now ∧ (s.recover fromReset).exch.mask = s.exch.mask ∧
      (s.recover fromReset).pins = s.pins ∧ (s.recover fromReset).pending = s.pending := by
  unfold State.recover; (try dsimp only [State.bothSides]); (repeat' split) <;> simp

@[simp] theorem State.coldState_frame (s : State) (pins : Pins) (slots : Vector Slot 16) (scratch : Memory) :
    (s.coldState pins slots scratch).now = s.now ∧ (s.coldState pins slots scratch).pending = s.pending := by
  unfold State.coldState; (try dsimp only [State.bothSides]); (repeat' split) <;> simp

@[simp] theorem State.coldStart_frame (s : State) :
    (s.coldStart).now = s.now ∧ (s.coldStart).pending = s.pending := by
  unfold State.coldStart; (try dsimp only [State.bothSides]); (repeat' split) <;> simp

@[simp] theorem State.holdupTest_frame (s : State) :
    (s.holdupTest).now = s.now ∧ (s.holdupTest).pending = s.pending := by
  unfold State.holdupTest; (try dsimp only [State.bothSides]); (repeat' split) <;> simp

@[simp] theorem State.toPhase_frame (s : State) (p : JPhase) :
    (s.toPhase p).now = s.now ∧ (s.toPhase p).pfe = s.pfe ∧ (s.toPhase p).sides = s.sides ∧
      (s.toPhase p).prices = s.prices ∧ (s.toPhase p).motors = s.motors ∧ (s.toPhase p).display = s.display ∧
      (s.toPhase p).gates = s.gates ∧ (s.toPhase p).store = s.store ∧ (s.toPhase p).mode = s.mode ∧
      (s.toPhase p).exch.mem = s.exch.mem ∧ (s.toPhase p).exch.config = s.exch.config ∧
      (s.toPhase p).exch.mask = s.exch.mask ∧ (s.toPhase p).exch.ready = s.exch.ready ∧ (s.toPhase p).pins = s.pins ∧
      (s.toPhase p).pending = s.pending := by
  unfold State.toPhase; (try dsimp only [State.bothSides]); (repeat' split) <;> simp

@[simp] theorem State.clearRequest_frame (s : State) :
    (s.clearRequest).now = s.now ∧ (s.clearRequest).pfe = s.pfe ∧ (s.clearRequest).sides = s.sides ∧
      (s.clearRequest).prices = s.prices ∧ (s.clearRequest).motors = s.motors ∧
      (s.clearRequest).display = s.display ∧ (s.clearRequest).gates = s.gates ∧ (s.clearRequest).store = s.store ∧
      (s.clearRequest).mode = s.mode ∧ (s.clearRequest).exch.mem = s.exch.mem ∧
      (s.clearRequest).exch.config = s.exch.config ∧ (s.clearRequest).exch.mask = s.exch.mask ∧
      (s.clearRequest).exch.ready = s.exch.ready ∧ (s.clearRequest).pins = s.pins ∧
      (s.clearRequest).pending = s.pending := by
  unfold State.clearRequest; (try dsimp only [State.bothSides]); (repeat' split) <;> simp

@[simp] theorem State.beginReset_frame (s : State) :
    (s.beginReset).now = s.now ∧ (s.beginReset).exch.mask = s.exch.mask ∧ (s.beginReset).pins = s.pins ∧
      (s.beginReset).pending = s.pending := by
  unfold State.beginReset; (try dsimp only [State.bothSides]); (repeat' split) <;> simp

@[simp] theorem State.beginFinal_frame (s : State) :
    (s.beginFinal).now = s.now ∧ (s.beginFinal).pending = s.pending := by
  unfold State.beginFinal; (try dsimp only [State.bothSides]); (repeat' split) <;> simp

@[simp] theorem State.settleWrite_frame (s : State) (w : Write) (q : Slot) :
    (s.settleWrite w q).now = s.now ∧ (s.settleWrite w q).pfe = s.pfe ∧
      (s.settleWrite w q).sides = s.sides ∧ (s.settleWrite w q).prices = s.prices ∧
      (s.settleWrite w q).motors = s.motors ∧ (s.settleWrite w q).display = s.display ∧
      (s.settleWrite w q).gates = s.gates ∧ (s.settleWrite w q).store = s.store ∧
      (s.settleWrite w q).mode = s.mode ∧ (s.settleWrite w q).exch.mem = s.exch.mem ∧
      (s.settleWrite w q).exch.config = s.exch.config ∧ (s.settleWrite w q).exch.mask = s.exch.mask ∧
      (s.settleWrite w q).exch.ready = s.exch.ready ∧ (s.settleWrite w q).pins = s.pins ∧
      (s.settleWrite w q).pending = s.pending := by
  unfold State.settleWrite; (try dsimp only [State.bothSides]); (repeat' split) <;> simp

@[simp] theorem State.serveWaits_frame (s : State) (cal : WriteWait) (init : WriteWait) :
    (s.serveWaits cal init).now = s.now ∧ (s.serveWaits cal init).pfe = s.pfe ∧
      (s.serveWaits cal init).sides = s.sides ∧ (s.serveWaits cal init).prices = s.prices ∧
      (s.serveWaits cal init).motors = s.motors ∧ (s.serveWaits cal init).display = s.display ∧
      (s.serveWaits cal init).gates = s.gates ∧ (s.serveWaits cal init).store = s.store ∧
      (s.serveWaits cal init).journal = s.journal ∧ (s.serveWaits cal init).mode = s.mode ∧
      (s.serveWaits cal init).exch.mem = s.exch.mem ∧ (s.serveWaits cal init).exch.config = s.exch.config ∧
      (s.serveWaits cal init).exch.mask = s.exch.mask ∧ (s.serveWaits cal init).exch.ready = s.exch.ready ∧
      (s.serveWaits cal init).pins = s.pins ∧ (s.serveWaits cal init).pending = s.pending := by
  unfold State.serveWaits; (try dsimp only [State.bothSides]); (repeat' split) <;> simp

@[simp] theorem State.writeDone_frame (s : State) (w : Write) (q : Slot) :
    (s.writeDone w q).now = s.now ∧ (s.writeDone w q).pfe = s.pfe ∧ (s.writeDone w q).sides = s.sides ∧
      (s.writeDone w q).prices = s.prices ∧ (s.writeDone w q).motors = s.motors ∧ (s.writeDone w q).display = s.display ∧
      (s.writeDone w q).gates = s.gates ∧ (s.writeDone w q).mode = s.mode ∧ (s.writeDone w q).exch.config = s.exch.config ∧
      (s.writeDone w q).exch.mask = s.exch.mask ∧ (s.writeDone w q).exch.ready = s.exch.ready ∧
      (s.writeDone w q).pins = s.pins ∧ (s.writeDone w q).pending = s.pending := by
  unfold State.writeDone; (try dsimp only [State.bothSides]); (repeat' split) <;> simp

@[simp] theorem State.writeFailed_frame (s : State) (w : Write) (q : Slot) :
    (s.writeFailed w q).now = s.now ∧ (s.writeFailed w q).pfe = s.pfe ∧ (s.writeFailed w q).sides = s.sides ∧
      (s.writeFailed w q).prices = s.prices ∧ (s.writeFailed w q).motors = s.motors ∧
      (s.writeFailed w q).display = s.display ∧ (s.writeFailed w q).gates = s.gates ∧ (s.writeFailed w q).store = s.store ∧
      (s.writeFailed w q).mode = s.mode ∧ (s.writeFailed w q).exch.mem = s.exch.mem ∧
      (s.writeFailed w q).exch.config = s.exch.config ∧ (s.writeFailed w q).exch.mask = s.exch.mask ∧
      (s.writeFailed w q).exch.ready = s.exch.ready ∧ (s.writeFailed w q).pins = s.pins ∧
      (s.writeFailed w q).pending = s.pending := by
  unfold State.writeFailed; (try dsimp only [State.bothSides]); (repeat' split) <;> simp

@[simp] theorem State.nextWrite_frame (s : State) :
    (s.nextWrite).now = s.now ∧ (s.nextWrite).pfe = s.pfe ∧ (s.nextWrite).sides = s.sides ∧
      (s.nextWrite).prices = s.prices ∧ (s.nextWrite).motors = s.motors ∧ (s.nextWrite).display = s.display ∧
      (s.nextWrite).gates = s.gates ∧ (s.nextWrite).mode = s.mode ∧ (s.nextWrite).exch.mem = s.exch.mem ∧
      (s.nextWrite).exch.config = s.exch.config ∧ (s.nextWrite).exch.mask = s.exch.mask ∧
      (s.nextWrite).exch.ready = s.exch.ready ∧ (s.nextWrite).pins = s.pins ∧ (s.nextWrite).pending = s.pending := by
  unfold State.nextWrite; (try dsimp only [State.bothSides]); (repeat' split) <;> simp

@[simp] theorem State.nextAfterWrite_frame (s : State) :
    (s.nextAfterWrite).now = s.now ∧ (s.nextAfterWrite).pfe = s.pfe ∧ (s.nextAfterWrite).sides = s.sides ∧
      (s.nextAfterWrite).prices = s.prices ∧ (s.nextAfterWrite).motors = s.motors ∧
      (s.nextAfterWrite).display = s.display ∧ (s.nextAfterWrite).gates = s.gates ∧
      (s.nextAfterWrite).mode = s.mode ∧ (s.nextAfterWrite).exch.mem = s.exch.mem ∧
      (s.nextAfterWrite).exch.config = s.exch.config ∧ (s.nextAfterWrite).exch.mask = s.exch.mask ∧
      (s.nextAfterWrite).exch.ready = s.exch.ready ∧ (s.nextAfterWrite).pins = s.pins ∧
      (s.nextAfterWrite).pending = s.pending := by
  unfold State.nextAfterWrite; (try dsimp only [State.bothSides]); (repeat' split) <;> simp

@[simp] theorem State.normalDone_frame (s : State) (close : WriteWait) :
    (s.normalDone close).now = s.now ∧ (s.normalDone close).prices = s.prices ∧
      (s.normalDone close).gates = s.gates ∧ (s.normalDone close).exch.mem = s.exch.mem ∧
      (s.normalDone close).exch.config = s.exch.config ∧ (s.normalDone close).exch.mask = s.exch.mask ∧
      (s.normalDone close).exch.ready = s.exch.ready ∧ (s.normalDone close).pins = s.pins ∧
      (s.normalDone close).pending = s.pending := by
  unfold State.normalDone; (try dsimp only [State.bothSides]); (repeat' split) <;> simp

@[simp] theorem State.afterDone_frame (s : State) (phase : JPhase) (close : WriteWait) :
    (s.afterDone phase close).now = s.now ∧ (s.afterDone phase close).pending = s.pending := by
  unfold State.afterDone; (try dsimp only [State.bothSides]); (repeat' split) <;> simp

@[simp] theorem State.afterFailed_frame (s : State) (phase : JPhase) :
    (s.afterFailed phase).now = s.now ∧ (s.afterFailed phase).pending = s.pending := by
  unfold State.afterFailed; (try dsimp only [State.bothSides]); (repeat' split) <;> simp

@[simp] theorem State.writeEnds_frame (s : State) (damage : List Byte) :
    (s.writeEnds damage).now = s.now ∧ (s.writeEnds damage).pending = s.pending := by
  unfold State.writeEnds; (try dsimp only [State.bothSides]); (repeat' split) <;> simp

@[simp] theorem State.resetFolio_frame (s : State) (f : Folio) :
    (s.resetFolio f).now = s.now ∧ (s.resetFolio f).pfe = s.pfe ∧ (s.resetFolio f).sides = s.sides ∧
      (s.resetFolio f).prices = s.prices ∧ (s.resetFolio f).motors = s.motors ∧
      (s.resetFolio f).display = s.display ∧ (s.resetFolio f).gates = s.gates ∧ (s.resetFolio f).store = s.store ∧
      (s.resetFolio f).journal = s.journal ∧ (s.resetFolio f).mode = s.mode ∧
      (s.resetFolio f).exch.mem = s.exch.mem ∧ (s.resetFolio f).exch.config = s.exch.config ∧
      (s.resetFolio f).exch.mask = s.exch.mask ∧ (s.resetFolio f).exch.ready = s.exch.ready ∧
      (s.resetFolio f).pins = s.pins ∧ (s.resetFolio f).pending = s.pending := by
  unfold State.resetFolio; (try dsimp only [State.bothSides]); (repeat' split) <;> simp

@[simp] theorem State.resetFolios_frame (s : State) (l : List Folio) :
    (s.resetFolios l).now = s.now ∧ (s.resetFolios l).pfe = s.pfe ∧ (s.resetFolios l).sides = s.sides ∧
      (s.resetFolios l).prices = s.prices ∧ (s.resetFolios l).motors = s.motors ∧
      (s.resetFolios l).display = s.display ∧ (s.resetFolios l).gates = s.gates ∧ (s.resetFolios l).store = s.store ∧
      (s.resetFolios l).journal = s.journal ∧ (s.resetFolios l).mode = s.mode ∧
      (s.resetFolios l).exch.mem = s.exch.mem ∧ (s.resetFolios l).exch.config = s.exch.config ∧
      (s.resetFolios l).exch.mask = s.exch.mask ∧ (s.resetFolios l).exch.ready = s.exch.ready ∧
      (s.resetFolios l).pins = s.pins ∧ (s.resetFolios l).pending = s.pending := by
  induction l generalizing s with
  | nil => simp [State.resetFolios]
  | cons _ _ ih => unfold State.resetFolios; (repeat' split) <;> simp [ih]

@[simp] theorem State.gateReset_frame (s : State) (sd : Side) :
    (s.gateReset sd).now = s.now ∧ (s.gateReset sd).pfe = s.pfe ∧ (s.gateReset sd).sides = s.sides ∧
      (s.gateReset sd).prices = s.prices ∧ (s.gateReset sd).motors = s.motors ∧ (s.gateReset sd).store = s.store ∧
      (s.gateReset sd).journal = s.journal ∧ (s.gateReset sd).mode = s.mode ∧
      (s.gateReset sd).exch.mem = s.exch.mem ∧ (s.gateReset sd).exch.config = s.exch.config ∧
      (s.gateReset sd).exch.mask = s.exch.mask ∧ (s.gateReset sd).exch.ready = s.exch.ready ∧
      (s.gateReset sd).pins = s.pins ∧ (s.gateReset sd).pending = s.pending := by
  simp [State.gateReset]

@[simp] theorem State.modeReset_frame (s : State) :
    (s.modeReset).now = s.now ∧ (s.modeReset).sides = s.sides ∧ (s.modeReset).prices = s.prices ∧
      (s.modeReset).motors = s.motors ∧ (s.modeReset).gates = s.gates ∧ (s.modeReset).store = s.store ∧
      (s.modeReset).journal = s.journal ∧ (s.modeReset).exch.mem = s.exch.mem ∧
      (s.modeReset).exch.config = s.exch.config ∧ (s.modeReset).exch.mask = s.exch.mask ∧
      (s.modeReset).exch.ready = s.exch.ready ∧ (s.modeReset).pins = s.pins ∧ (s.modeReset).pending = s.pending := by
  unfold State.modeReset; (try dsimp only [State.bothSides]); (repeat' split) <;> simp

@[simp] theorem State.hostReset_frame (s : State) :
    (s.hostReset).now = s.now ∧ (s.hostReset).exch.mask = s.exch.mask ∧ (s.hostReset).pins = s.pins ∧
      (s.hostReset).pending = s.pending := by
  unfold State.hostReset; (try dsimp only [State.bothSides]); (repeat' split) <;> simp

@[simp] theorem State.journalWarning_frame (s : State) (before : JPhase) :
    (s.journalWarning before).now = s.now ∧ (s.journalWarning before).pending = s.pending := by
  unfold State.journalWarning; (try dsimp only [State.bothSides]); (repeat' split) <;> simp

@[simp] theorem State.enterHoldup_frame (s : State) :
    (s.enterHoldup).now = s.now ∧ (s.enterHoldup).pending = s.pending := by
  unfold State.enterHoldup; (try dsimp only [State.bothSides]); (repeat' split) <;> simp

@[simp] theorem State.warningAsserted_frame (s : State) :
    (s.warningAsserted).now = s.now ∧ (s.warningAsserted).pending = s.pending := by
  unfold State.warningAsserted; (try dsimp only [State.bothSides]); (repeat' split) <;> simp

@[simp] theorem State.pinWarning_frame (s : State) (on : Bool) :
    (s.pinWarning on).now = s.now ∧ (s.pinWarning on).pfe = s.pfe ∧ (s.pinWarning on).sides = s.sides ∧
      (s.pinWarning on).prices = s.prices ∧ (s.pinWarning on).motors = s.motors ∧
      (s.pinWarning on).display = s.display ∧ (s.pinWarning on).gates = s.gates ∧ (s.pinWarning on).store = s.store ∧
      (s.pinWarning on).journal = s.journal ∧ (s.pinWarning on).mode = s.mode ∧
      (s.pinWarning on).exch.mem = s.exch.mem ∧ (s.pinWarning on).exch.config = s.exch.config ∧
      (s.pinWarning on).exch.mask = s.exch.mask ∧ (s.pinWarning on).exch.ready = s.exch.ready ∧
      (s.pinWarning on).pending = s.pending := by
  unfold State.pinWarning; (try dsimp only [State.bothSides]); (repeat' split) <;> simp

@[simp] theorem State.startCold_frame (s : State) :
    (s.startCold).now = s.now ∧ (s.startCold).pending = s.pending := by
  unfold State.startCold; (try dsimp only [State.bothSides]); (repeat' split) <;> simp

end Sys2Proof.Machine
end

