-- ==== Sys2Proof/Laws/Memory.lean ====
section
/-!
SUPPORT. The laws of the stored bytes: a read after a write, and the canonical form, which every memory operation keeps.
-/
namespace Sys2Proof.Machine

/-- In a canonical memory whose addresses all lie above `a`, the byte at `a` is the unlisted one. -/
theorem Memory.read_below (m : Memory) (a : Nat) (h : ∀ c ∈ m, a < c.1) : Memory.read m a = 0 := by
  induction m with
  | nil => rfl
  | cons c rest ih =>
    have hc := h c (by simp)
    simp only [Memory.read]
    rw [if_neg (by omega)]
    exact ih fun d hd => h d (by simp [hd])

/-- The canonical form, unfolded once. -/
theorem Memory.wf_cons (c : Host.Cell) (rest : Memory) :
    Memory.wf (c :: rest) = true ↔ c.2 ≠ 0 ∧ (∀ d ∈ rest, c.1 < d.1) ∧ Memory.wf rest = true := by
  obtain ⟨a, v⟩ := c
  simp [Memory.wf, and_assoc]

/-- A read after a write to a canonical memory gives the written byte at its address, and every other byte as before. -/
theorem Memory.read_write (m : Memory) (a : Nat) (v : Byte) (b : Nat) (h : Memory.wf m = true) :
    Memory.read (Memory.write m a v) b = if b = a then v else Memory.read m b := by
  induction m with
  | nil =>
    simp only [Memory.write]
    split
    · next hv => simp [Memory.read, hv]
    · simp [Memory.read]
  | cons c rest ih =>
    obtain ⟨x, w⟩ := c
    obtain ⟨-, hlt, hrest⟩ := (Memory.wf_cons _ _).1 h
    have below : ∀ y, y ≤ x → Memory.read rest y = 0 := fun y hy =>
      Memory.read_below rest y fun d hd => Nat.lt_of_le_of_lt hy (hlt d hd)
    simp only [Memory.write]
    split
    · next hax =>
      split
      · next hv =>
        by_cases hb : b = a
        · subst hb
          simp only [Memory.read, hv]
          rw [if_neg (by omega), below b (by omega)]
          rfl
        · simp [hb]
      · simp only [Memory.read]
    · next hax =>
      split
      · next hax' =>
        subst hax'
        split
        · next hv =>
          by_cases hb : b = a
          · subst hb; simp [hv, below b (by omega)]
          · simp [Memory.read, hb]
        · by_cases hb : b = a <;> simp [Memory.read, hb]
      · next hne =>
        simp only [Memory.read, ih hrest]
        by_cases hb : b = x
        · subst hb
          rw [if_pos rfl, if_neg (by omega), if_pos rfl]
        · rw [if_neg hb, if_neg hb]

/-- Every address a write leaves listed was listed before, or is the one written. -/
theorem Memory.mem_write (m : Memory) (a : Nat) (v : Byte) (d : Host.Cell) (h : d ∈ Memory.write m a v) :
    d = (a, v) ∨ d ∈ m := by
  induction m with
  | nil =>
    simp only [Memory.write] at h
    split at h <;> simp_all
  | cons c rest ih =>
    obtain ⟨x, w⟩ := c
    simp only [Memory.write] at h
    (repeat' split at h) <;> simp only [List.mem_cons] at h ⊢
    · exact Or.inr h
    · exact h
    · exact Or.inr (Or.inr h)
    · exact h.imp_right Or.inr
    · rcases h with h | h
      · exact Or.inr (Or.inl h)
      · exact (ih h).imp_right Or.inr

/-- A write keeps the canonical form. -/
theorem Memory.write_wf (m : Memory) (a : Nat) (v : Byte) (h : Memory.wf m = true) :
    Memory.wf (Memory.write m a v) = true := by
  induction m with
  | nil => simp only [Memory.write]; split <;> simp_all [Memory.wf]
  | cons c rest ih =>
    obtain ⟨x, w⟩ := c
    obtain ⟨hw, hlt, hrest⟩ := (Memory.wf_cons _ _).1 h
    simp only [Memory.write]
    split
    · next hax =>
      split
      · exact h
      · next hv =>
        refine (Memory.wf_cons _ _).2 ⟨hv, ?_, h⟩
        intro d hd
        rcases List.mem_cons.1 hd with rfl | hd
        · exact hax
        · exact Nat.lt_trans hax (hlt d hd)
    · split
      · next hax =>
        subst hax
        split
        · exact hrest
        · next hv => exact (Memory.wf_cons _ _).2 ⟨hv, hlt, hrest⟩
      · refine (Memory.wf_cons _ _).2 ⟨hw, ?_, ih hrest⟩
        intro d hd
        rcases Memory.mem_write rest a v d hd with rfl | hd
        · show x < a
          omega
        · exact hlt d hd

/-- Storing bytes keeps the canonical form. -/
theorem Memory.writeAll_wf (vs : List Byte) (m : Memory) (a : Nat) (h : Memory.wf m = true) :
    Memory.wf (Memory.writeAll m a vs) = true := by
  induction vs generalizing m a with
  | nil => exact h
  | cons v vs ih => exact ih _ _ (Memory.write_wf m a v h)

/-- Storing bytes leaves every byte outside them as it was. -/
theorem Memory.read_writeAll_outside (vs : List Byte) (m : Memory) (a b : Nat) (h : Memory.wf m = true)
    (hb : b < a ∨ a + vs.length ≤ b) : Memory.read (Memory.writeAll m a vs) b = Memory.read m b := by
  induction vs generalizing m a with
  | nil => rfl
  | cons v vs ih =>
    simp only [List.length_cons] at hb
    simp only [Memory.writeAll]
    rw [ih _ _ (Memory.write_wf m a v h) (by omega), Memory.read_write m a v b h, if_neg (by omega)]

/-- Stored bytes read back. -/
theorem Memory.read_writeAll_inside (vs : List Byte) (m : Memory) (a i : Nat) (h : Memory.wf m = true)
    (hi : i < vs.length) : Memory.read (Memory.writeAll m a vs) (a + i) = vs[i] := by
  induction vs generalizing m a i with
  | nil => simp at hi
  | cons v vs ih =>
    simp only [Memory.writeAll]
    cases i with
    | zero =>
      rw [Memory.read_writeAll_outside _ _ _ _ (Memory.write_wf m a v h) (by omega)]
      simp [Memory.read_write m a v _ h]
    | succ i =>
      have := ih (Memory.write m a v) (a + 1) i (Memory.write_wf m a v h) (by simpa using hi)
      rw [show a + (i + 1) = a + 1 + i by omega, this]
      rfl

/-- Dropping entries keeps the canonical form; the cold start keeps SCRATCH so. -/
theorem Memory.filter_wf (p : Host.Cell → Bool) (m : Memory) (h : Memory.wf m = true) :
    Memory.wf (m.filter p) = true := by
  induction m with
  | nil => rfl
  | cons c rest ih =>
    obtain ⟨hv, hlt, hrest⟩ := (Memory.wf_cons _ _).1 h
    simp only [List.filter_cons]
    split
    · exact (Memory.wf_cons _ _).2 ⟨hv, fun d hd => hlt d (List.mem_filter.1 hd).1, ih hrest⟩
    · exact ih hrest

/-- SCRATCH as a cold start keeps it is canonical. -/
theorem scratchOf_wf (m : Memory) (h : Memory.wf m = true) : Memory.wf (scratchOf m) = true :=
  Memory.filter_wf _ m h

/-- A folio's body keeps the canonical form. -/
theorem State.writeBody_wf (s : State) (f : Folio) (bytes : List Byte) (h : Memory.wf s.exch.mem = true) :
    Memory.wf (s.writeBody f bytes).exch.mem = true := by
  simp only [State.writeBody, State.setHeader]
  exact Memory.writeAll_wf _ _ _ h

/-- A request filled by the host keeps the canonical form. -/
theorem State.hostFill_wf (s : State) (f : Folio) (ref : Word32) (bytes : List Byte)
    (h : Memory.wf s.exch.mem = true) : Memory.wf (s.hostFill f ref bytes).exch.mem = true := by
  simp only [State.hostFill]
  split
  · exact s.writeBody_wf f bytes h
  · exact h

/-- The memory after reset is canonical. -/
theorem State.reset_mem_wf : Memory.wf State.reset.exch.mem = true := rfl

end Sys2Proof.Machine
end

