-- ==== Sys2Proof/Laws/Slots.lean ====
section
/-!
SUPPORT. The slots of the ferroelectric store: a slot reads VALID as it was written, and no longer once a bit of its CRC has
changed.
-/
namespace Sys2Proof.Machine

@[simp] theorem be_length (k v : Nat) : (be k v).length = k := by
  induction k with
  | zero => rfl
  | succ k ih => simp [be, ih]

/-! ### What a write puts into its slot -/

@[simp] theorem Snapshot.recorded_pending (q : Snapshot) (slot : Fin 16) (sd : Side) :
    (q.recorded slot).pending.get sd = [] := by cases sd <;> rfl

@[simp] theorem Snapshot.recorded_unreported (q : Snapshot) (slot : Fin 16) (sd : Side) :
    (q.recorded slot).unreported.get sd =
      q.unreported.get sd ++ (q.pending.get sd).map fun r => { r with slot := some slot } := by cases sd <;> rfl

@[simp] theorem Snapshot.recorded_sales (q : Snapshot) (slot : Fin 16) : (q.recorded slot).sales = q.sales := rfl

/-- But for the final snapshot a write holds the state as it stands. -/
theorem State.slotItems_eq (s : State) (h : s.journal.phase ≠ .finalWriting) : s.slotItems = s.collect := by
  simp [State.slotItems, h]

/-! ### Images -/

@[simp] theorem padTo_length (n : Nat) (bytes : List Byte) : (padTo n bytes).length = n := by
  simp [padTo]

/-- Bytes that fill the place stand as they are. -/
theorem padTo_full (n : Nat) (bytes : List Byte) (h : bytes.length = n) : padTo n bytes = bytes := by
  simp [padTo, ← h]

@[simp] theorem slotImage_length (seq : Nat) (snap : Snapshot) : (slotImage seq snap).length = slotSize := by
  simp only [slotImage, List.length_append, padTo_length, be_length, slotBodySize, slotSize]

@[simp] theorem Slot.written_image (seq : Nat) (snap : Snapshot) : (Slot.written seq snap).image = slotImage seq snap :=
  padTo_full _ _ (slotImage_length seq snap)

theorem slotImage_take (seq : Nat) (snap : Snapshot) :
    (slotImage seq snap).take slotBodySize = padTo slotBodySize (Config.slotBody seq snap) :=
  List.take_left' (padTo_length _ _)

theorem slotImage_drop (seq : Nat) (snap : Snapshot) :
    (slotImage seq snap).drop slotBodySize =
      be 4 (crc32 (padTo slotBodySize (Config.slotBody seq snap))).toNat :=
  List.drop_left' (padTo_length _ _)

/-- A slot is classed by its image, unless it is empty. -/
theorem Slot.kind_of_image (q : Slot) (h : q.bytes ≠ []) :
    q.kind =
      if q.image.drop slotBodySize = be 4 (crc32 (q.image.take slotBodySize)).toNat then .valid
      else if q.image.all fun b => decide (b = 0) then .unused
      else .bad := by
  unfold Slot.kind
  split
  · contradiction
  · rfl

/-- Bytes of the size of a slot are not empty. -/
theorem bytes_ne_nil {bytes : List Byte} (h : bytes.length = slotSize) : bytes ≠ [] := by
  rintro rfl
  cases h

/-- A written slot is VALID. -/
@[simp] theorem Slot.written_kind (seq : Nat) (snap : Snapshot) : (Slot.written seq snap).kind = .valid := by
  rw [Slot.kind_of_image _ (bytes_ne_nil (slotImage_length seq snap)), Slot.written_image, slotImage_take,
    slotImage_drop, if_pos rfl]

@[simp] theorem Slot.written_found (seq : Nat) (snap : Snapshot) : (Slot.written seq snap).found = (seq, snap) := rfl

/-- With no bit wrong a slot reads back as it was written. -/
@[simp] theorem Write.readBack_nil (w : Write) : w.readBack [] = Slot.written w.seq w.snap := rfl

@[simp] theorem xorBytes_length (bytes damage : List Byte) : (xorBytes bytes damage).length = bytes.length := by
  induction bytes generalizing damage with
  | nil => rfl
  | cons b bs ih => cases damage with
    | nil => rfl
    | cons d ds => simp [xorBytes, ih]

/-- A pattern that begins with zeros leaves the bytes they stand for. -/
theorem xorBytes_zeros (n : Nat) (front back damage : List Byte) (h : front.length = n) :
    xorBytes (front ++ back) (List.replicate n 0 ++ damage) = front ++ xorBytes back damage := by
  induction front generalizing n with
  | nil => subst h; rfl
  | cons b bs ih =>
    subst h
    have h := ih bs.length rfl
    simp only [List.length_cons, List.replicate_succ, List.cons_append, xorBytes, h]
    simp

/-- The pattern that changes the lowest bit of a slot's CRC, in its last byte. -/
def crcDamage : List Byte := List.replicate slotBodySize 0 ++ [0, 0, 0, 1]

theorem crcDamage_ne_nil : crcDamage ≠ [] := List.append_ne_nil_of_right_ne_nil _ (by decide)

/-- A slot whose CRC has lost a bit is no longer VALID. -/
theorem Write.readBack_crcDamage (w : Write) : (w.readBack crcDamage).kind ≠ .valid := by
  have hx : xorBytes (slotImage w.seq w.snap) crcDamage =
      padTo slotBodySize (Config.slotBody w.seq w.snap) ++
        xorBytes (be 4 (crc32 (padTo slotBodySize (Config.slotBody w.seq w.snap))).toNat) [0, 0, 0, 1] :=
    xorBytes_zeros _ _ _ _ (padTo_length _ _)
  have hne : ∀ v, xorBytes (be 4 v) [0, 0, 0, 1] ≠ be 4 v := by
    intro v h
    simp only [be, xorBytes, List.cons.injEq, and_true] at h
    have := h.2.2.2
    generalize BitVec.ofNat 8 (v / 256 ^ 0) = b at this
    revert b; decide
  have hs : w.readBack crcDamage = ⟨xorBytes (slotImage w.seq w.snap) crcDamage, none⟩ := by
    have : (w.readBack crcDamage) =
        if xorBytes (Slot.written w.seq w.snap).image crcDamage = (Slot.written w.seq w.snap).image then
          Slot.written w.seq w.snap
        else ⟨xorBytes (Slot.written w.seq w.snap).image crcDamage, none⟩ := by
      unfold Write.readBack Slot.spoil
      split
      · rename_i h; exact absurd h crcDamage_ne_nil
      · rfl
    rw [this, Slot.written_image, if_neg]
    intro h
    rw [hx] at h
    exact hne _ (List.append_cancel_left (h.trans rfl))
  have hl : (xorBytes (slotImage w.seq w.snap) crcDamage).length = slotSize := by simp
  have hi : (⟨xorBytes (slotImage w.seq w.snap) crcDamage, none⟩ : Slot).image =
      xorBytes (slotImage w.seq w.snap) crcDamage := padTo_full _ _ hl
  rw [hs, Slot.kind_of_image _ (bytes_ne_nil hl), hi, hx, List.take_left' (padTo_length _ _),
    List.drop_left' (padTo_length _ _), if_neg (hne _)]
  split <;> simp

end Sys2Proof.Machine
end

