-- ==== Sys2Proof/Tests/Slice0.lean ====
section
/-!
SUPPORT. Tests: the checks of WellFormed refuse an ill-formed term each, a few commands give what the spec's text and
worked tables say, and each statement's hypotheses are met by a concrete state.
-/
namespace Sys2Proof.Tests

open Sys2Proof.Machine

/-! ### Small states -/

/-- A part that is READY and OPEN, otherwise as at reset. -/
def opened : State :=
  { State.reset with
    mode := { ModeCtl.reset with mode := .openMode }
    exch := { Exchange.reset with ready := true } }

/-- The same part in another mode and stage, its stage timers run out. -/
def inMode (m : Mode) (st : Option Stage) : State :=
  { opened with mode := { ModeCtl.reset with
      mode := m, stage := st, wakeT := some 0, graceT := some 0, spacingT := some 0, spacingNext := some .high } }

/-- A captured sale of 1 l at 1 a litre, slow from 50 cl. -/
def sale : Sale where
  record :=
    { number := 7, side := .a, origin := .attendant, hostRef := 5, limitKind := .volume, amount := 100
      nozzle := some 0, grade := some 0, target := some 100, price := some 1000, rounding := .nearest
      volume := 0, money := 0, fines := [], blend := none, startClock := ⟨0, 0⟩, endClock := none, reason := none
      test := false, readerLost := false, saturated := false, clamped := false, overrun := none, excess := none
      slot := none }
  mask := 1#6
  cap := some ⟨0, 0, 1000, 50, 20, 100, 50, false⟩

/-- The captured items of the sale. -/
def cap : Captured := ⟨0, 0, 1000, 50, 20, 100, 50, false⟩

/-- Side A in a state with the sale, its timers run out. -/
def selling (st : SideState) : State :=
  opened.setSide .a { SideCtl.reset with
    state := st, sale := some sale, nozzles := #v[true, false, false, false], authT := some 0, noflowT := some 0
    suspendT := some 0, settleT := some 0, staggerT := some 0, slowClose := some 0 }

/-- Side A in AUTHORIZED with a sale that has not captured, and no nozzle lifted. -/
def authorized : State :=
  opened.setSide .a { SideCtl.reset with
    state := .authorized, sale := some { sale with cap := none }, authT := some 0 }

/-- Meter 1 one quarter-step short of a cycle, phase B about to fall with A low, or to rise again. -/
def turning (acc : Int) (back : Nat) (att : Option Attachment) : State :=
  let s := selling .flowing
  let s := { s with pins := { s.pins with phaseB := PerMeter.set s.pins.phaseB ⟨.a, .low⟩ true } }
  s.setChan ⟨.a, .low⟩ { Channel.reset with
    posB := true, acc := acc, back := back, attached := att, window := List.replicate 14 1000, stamp := some 0
    edgeB := none }

/-- Motor LOW in a state, its timers run out, used by side A. -/
def pumping (st : MotorState) (used : Bool) : State :=
  opened.setMotor .low { Motor.reset with
    state := st, users := ⟨used, false, false⟩, contactor := st.turning, restUntil := 0, pressureT := some 0
    lossT := some 0, rundownT := some 0, failHoldT := some 0 }

/-- Side A's display in a state, with the supply on. -/
def showing (d : DispSide) : State :=
  { opened with display := { Display.reset with side := ⟨d, DispSide.reset⟩, supply := true, darkT := some 0 } }

/-- A LIT display. -/
def lit : DispSide := { DispSide.reset with state := .lit }

/-- Side A's gate in a state with its domain powered, the card module ACTIVE, addressed, and its timers run out. -/
def reading (g : GateState) : State :=
  opened.setGate .a { GateCtl.reset with
    state := g, power := true, receiver := .hunting, startT := some 0, offT := some 0
    card := { Module.awaiting true with status := some .active }
    addressing := some { mod := .card, sent := partFrame 1 ⟨.poll, false, false, false, false⟩ [], isDownlink := false
                         deadline := 0 } }

/-- A HELLO from a module: tag 0x1234, version 1. -/
def hello : Frame := partFrame 0 ⟨.hello, false, false, false, false⟩ [0x12#8, 0x34#8, 0x01#8]

/-- A snapshot of the part as it stands at reset. -/
def snap : Snapshot := State.reset.collect

/-- A write in flight to slot 0 with sequence number 1. -/
def writing (s : State) : State :=
  { s with journal := { s.journal with inFlight := some ⟨0, 1, snap, false⟩, empty := false, periodicT := some 0 } }

/-- Meter 1. -/
def m1 : Meter := ⟨.a, .low⟩

/-- A grade folio of six LOW grades, no nozzle mapped. -/
def plainGrades (comp margin : Nat) : GradesReq :=
  ⟨Vector.replicate 6 ⟨comp, margin, Vector.replicate 4 0x41#8⟩, Both.same (Vector.replicate 4 0)⟩

/-- A staging of one price for every grade. -/
def staging (price cond second : Nat) : StagingReq := ⟨Vector.replicate 6 price, 5, cond, 6, second⟩

/-- The part with its clock set to Monday 0:00:00. -/
def clocked (s : State) : State := { s with mode := { s.mode with clockUnset := false } }

/-- The part with every factor set and the metrology switch closed. -/
def sealed (s : State) : State :=
  { s with journal := { s.journal with switchClosed := true, master := PerMeter.same (some 1600) } }

/-! ### WellFormed refuses -/

theorem smoke_meterClear : (Instr.meterClear 0 0 256).wellFormed = false := by decide
theorem smoke_grades_comp : (Instr.grades 0 0 (plainGrades 256 0)).wellFormed = false := by decide
theorem smoke_grades_margin : (Instr.grades 0 0 (plainGrades 0 256)).wellFormed = false := by decide
theorem smoke_grades_map :
    (Instr.grades 0 0 { plainGrades 0 0 with maps := Both.same #v[0, 0, 0, 256] }).wellFormed = false := by decide
theorem smoke_staging_price : (Instr.priceStaging 0 0 (staging (2 ^ 24) 0 0)).wellFormed = false := by decide
theorem smoke_staging_cond : (Instr.priceStaging 0 0 (staging 0 256 0)).wellFormed = false := by decide
theorem smoke_staging_weekday :
    (Instr.priceStaging 0 0 { staging 0 1 0 with weekday := 256 }).wellFormed = false := by decide
theorem smoke_staging_second : (Instr.priceStaging 0 0 (staging 0 1 (2 ^ 24))).wellFormed = false := by decide
theorem smoke_authorize :
    (Instr.authorize 0 .a 0 ⟨some .test, ⟨some .money, 2 ^ 24⟩, 0⟩).wellFormed = false := by decide
theorem smoke_changeLimit : (Instr.changeLimit 0 .a 0 ⟨none, 2 ^ 24⟩).wellFormed = false := by decide
theorem smoke_motorRetry : (Instr.motorRetry 0 0 256).wellFormed = false := by decide
theorem smoke_transferEnd : (Instr.transferEnd 0 .a []).wellFormed = false := by decide
theorem smoke_displayRetest : (Instr.displayRetest 0 0 256).wellFormed = false := by decide
theorem smoke_message : (Instr.message 0 .a 0 (List.replicate 241 0)).wellFormed = false := by
  simp only [Instr.wellFormed, List.length_replicate]; rfl
theorem smoke_answerFrame :
    (Instr.answerFrame 0 .a ⟨0, ⟨.nothing, false, false, false, false⟩, 1, [], 0⟩).wellFormed = false := by decide
theorem smoke_readerClear : (Instr.readerClear 0 0 256).wellFormed = false := by decide
theorem smoke_readerRestart : (Instr.readerRestart 0 0 256).wellFormed = false := by decide
theorem smoke_downlink_addr : (Instr.downlink 0 .a 0 ⟨256, .prompt, []⟩).wellFormed = false := by decide
theorem smoke_downlink_payload :
    (Instr.downlink 0 .a 0 ⟨1, .prompt, List.replicate 238 0⟩).wellFormed = false := by
  simp only [Instr.wellFormed, DownlinkReq.wellFormed, List.length_replicate]; rfl
theorem smoke_watch_action : (Instr.watchFolio 0 0 (Vector.replicate 4 ⟨256, 0, 0⟩)).wellFormed = false := by decide
theorem smoke_watch_object : (Instr.watchFolio 0 0 (Vector.replicate 4 ⟨0, 256, 0⟩)).wellFormed = false := by decide
theorem smoke_watch_threshold :
    (Instr.watchFolio 0 0 (Vector.replicate 4 ⟨0, 0, 2 ^ 64⟩)).wellFormed = false := by decide
theorem smoke_calibration : (Instr.calibration 0 0 (PerMeter.same (.set 65536))).wellFormed = false := by decide
theorem smoke_powerOn : (Instr.powerOn 0 pinsAtReset 0 [(3, []), (3, [])]).wellFormed = false := by decide
theorem smoke_powerOn_taken : (Instr.powerOn 0 pinsAtReset 2049 []).wellFormed = false := by decide
theorem smoke_powerOn_decay : (Instr.powerOn 0 pinsAtReset 0 [(3, List.replicate 2049 0)]).wellFormed = false := by
  simp only [Instr.wellFormed, List.all_cons, List.length_replicate]; rfl
theorem smoke_journalWriteComplete : (Instr.journalWriteComplete 0 (List.replicate 2049 0)).wellFormed = false := by
  simp only [Instr.wellFormed, List.length_replicate]; rfl
theorem smoke_setClock_weekday : (Instr.setClock 0 0 256 0).wellFormed = false := by decide
theorem smoke_setClock_second : (Instr.setClock 0 0 0 (2 ^ 24)).wellFormed = false := by decide
theorem smoke_schedule_open :
    (Instr.schedule 0 0 (.entries (Vector.replicate 7 (2 ^ 24, 0)))).wellFormed = false := by decide
theorem smoke_schedule_close :
    (Instr.schedule 0 0 (.entries (Vector.replicate 7 (0, 2 ^ 24)))).wellFormed = false := by decide
theorem smoke_readMemory : (Instr.readMemory 0 8192#16 1).wellFormed = false := by decide
theorem smoke_writeMemory : (Instr.writeMemory 0 8192#16 [0]).wellFormed = false := by decide
theorem smoke_unknownCommand : (Instr.unknownCommand 0 0x21#8).wellFormed = false := by decide
theorem smoke_strayRegisterWrite : (Instr.strayRegisterWrite 0 1#16).wellFormed = false := by decide
theorem smoke_config : (Instr.config 0 0 (List.replicate 241 0)).wellFormed = false := by
  simp only [Instr.wellFormed, List.length_replicate]; rfl

/-! ### The worked examples of the spec -/

/-- The next state of a command, for a test to look at. -/
def after (c : Instr) (s : State) : State :=
  match exec c s with
  | .next t => t
  | _ => s

/-- 01, A worked rate computation: sixteen periods of 1519 us sum to 24 304 us. -/
theorem test_rate_4000 : rateOf (List.replicate 16 1519) 1037 = 4000 := by decide

/-- 01, the same, with periods that sum to 19 000 us. -/
theorem test_rate_5116 : rateOf (List.replicate 15 1000 ++ [4000]) 1037 = 5116 := by decide

/-- 02, A plain delivery: 21 240 counted cycles of CF 1037. -/
theorem test_plain_volume : volumeOf 22025880 = 2150 := by decide
theorem test_plain_money : moneyOf .nearest 1859 2150 = 3997 ∧ moneyOf .down 1859 2150 = 3996 := by decide

/-- 02, A money preset: target 2151 and slow point 2101 under NEAREST, target 2152 under DOWN. -/
theorem test_preset_target :
    targetOf .money 4000 .nearest 1859 = 2151 ∧ slowPoint 2151 50 = 2101 ∧ targetOf .money 4000 .down 1859 = 2152 := by
  decide
theorem test_preset_reason : ceilingSets .money 4000 .nearest 1859 = false := by decide

/-- 02, A blended sale: the high share is 394 permille, inside the band of 40 per cent. -/
theorem test_blend_share : highShare 6346440 4126950 = 394 := by decide
theorem test_blend_inside : throttleFor 394 40 20 = .none ∧ throttleFor 425 40 20 = .high := by decide

/-- 02, The ceiling and money saturation. -/
theorem test_ceiling : ceilingOf .nearest 1859 = 537923 ∧ ceilingOf .nearest 950 = 999799 := by decide
theorem test_money_saturates : moneyOf .nearest 1859 537935 = 999999 ∧ moneyRaw .nearest 1859 537935 = 1000021 := by
  decide

/-- 01, A worked decoding sequence: A rises at (low, low), and A falls back at (high, low). -/
theorem test_decode_forward : moveOf false false true false = .forward := by decide
theorem test_decode_backward : moveOf true false false false = .backward := by decide

/-- 08, Power loss: the counter goes from 40 501 to 40 517. -/
theorem test_recovery_numbers : advance32 16 40501 = 40517 := by decide

/-- R133: the number after 2^32 - 1 is 1. -/
theorem test_number_wraps : succ32 4294967295 = 1 := by decide

/-- R147: sequence 1 is newer than 4 294 967 295. -/
theorem test_sequence_wraps : newerSeq 1 4294967295 = true ∧ newerSeq 4294967295 1 = false := by decide

/-- R161: Sunday's last second is followed by Monday 0. -/
theorem test_week_wraps : (Clock.tick ⟨6, 86399⟩) = ⟨0, 0⟩ := by decide

/-! ### One command each -/

/-- R2, R3: phase B falls a quarter-step short of a cycle; the accumulator returns to 0 and the meter's total grows by
its CF. -/
theorem test_pulserEdge :
    ((after (.pulserEdge 0 m1 .b) (turning 3 0 none)).chan m1).acc = 0 ∧
      (after (.pulserEdge 0 m1 .b) (turning 3 0 none)).store.totals.meter.a.low = 1024 := by decide

/-- R7: with the back count above 0 the cycle is a repayment. -/
theorem test_pulserEdge_repays :
    ((after (.pulserEdge 0 m1 .b) (turning 3 2 none)).chan m1).back = 1 ∧
      (after (.pulserEdge 0 m1 .b) (turning 3 2 none)).store.totals.meter.a.low = 0 := by decide

/-- R45: a lift in OPEN moves an IDLE side to CALLING. -/
theorem test_nozzleLift : ((after (.nozzleLift 0 .a 3) opened).side .a).state = .calling := by decide

/-- R56: the sale's nozzle is hung. -/
theorem test_nozzleHang : ((after (.nozzleHang 0 .a 0) (selling .flowing)).side .a).state = .ending := by decide

/-- R59: STOP suspends a side that flows. -/
theorem test_stop : ((after (.stop 0 .a 0) (selling .flowing)).side .a).state = .suspended := by decide

/-- R64: END sends the sale to ENDING. -/
theorem test_end : ((after (.endSale 0 .a 0) (selling .slow)).side .a).state = .ending := by decide

/-- R82: a start not confirmed in time fails. -/
theorem test_pressureTimeout :
    ((after (.pressureTimeout 0 .low) (pumping .starting true)).motor .low).state = .failed := by decide

/-- R83: a motor that has run down opens its contactor. -/
theorem test_idleRun : ((after (.idleRun 0 .low) (pumping .rundown false)).motor .low).contactor = false := by decide

/-- R122: the tamper input trips the gate. -/
theorem test_tamper : ((after (.tamperInputOpen 0 .a) (reading .opened)).gate .a).state = .tripped := by decide

/-- R171: CLOSE in PRIME takes both waiting motors out of the FIFO; HIGH, which could start once LOW, still resting, has left,
stops. -/
theorem test_abort_releases :
    let s := inMode .opening (some .prime)
    let wait : Nat → Motor := fun rest =>
      { Motor.reset with state := .waiting, users := ⟨false, false, true⟩, restUntil := rest }
    let s := (s.setMotor .low (wait 9000000)).setMotor .high (wait 0)
    let s := { s with motors := { s.motors with fifo := [.low, .high], lastGrant := none } }
    (after (.closeSite 0 0) s).mode.mode = .closed ∧ ((after (.closeSite 0 0) s).motor .low).state = .stopped ∧
      ((after (.closeSite 0 0) s).motor .high).state = .stopped ∧ (after (.closeSite 0 0) s).motors.fifo = [] := by decide

/-- R161: the clock ticks. -/
theorem test_clockTick : (after (.clockTick 0) opened).mode.clock = ⟨0, 1⟩ := by decide

/-- R166: OPEN in CLOSED begins an opening. -/
theorem test_open : (after (.openSite 0 0) (inMode .closed none)).mode.mode = .opening := by decide

/-- R154: power-on with a store as it left the factory leaves the part CLOSED and READY. -/
theorem test_powerOn :
    (after (.powerOn 0 pinsAtReset 0 []) State.reset).mode.mode = .closed ∧
      (after (.powerOn 0 pinsAtReset 0 []) State.reset).exch.ready = true := by decide

/-- R177: IDENT reads 0x5A6E, 0x0600, 0x0001. -/
theorem test_ident :
    (after (.readRegister 0 0#16) opened).exch.spiOut = [0x5A#8, 0x6E#8, 0x06#8, 0x00#8, 0x00#8, 0x01#8] := by decide

/-- R177, R178: CONTROL reads READY in bit 0. -/
theorem test_control : (after (.readRegister 0 4#16) opened).exch.spiOut = [0#8, 0#8, 0#8, 1#8] := by decide

/-- R177, R178: 0x32 with address 4 and a 1 in bit 3 requests a host reset, 0x21 reads on from its address, and a
register write that ends before its fourth byte has no effect. -/
theorem test_spi_control : spiCommands 0 [0x32#8, 0#8, 4#8, 0#8, 0#8, 0#8, 8#8] = [.hostReset 0] := by decide
theorem test_spi_read : spiCommands 0 [0x21#8, 0x07#8, 0#8, 0#8, 0#8] = [.readMemory 0 0x700#16 2] := by decide
theorem test_spi_short : spiCommands 0 [0x32#8, 0#8, 1#8, 0#8, 0#8, 0#8] = [] := by decide

/-- R146: the warning cuts a sale, whose record the final snapshot holds as recorded in its own slot. -/
theorem test_final_snapshot :
    let s := selling .flowing
    let t := after (.powerWarning 0) { s with journal := { s.journal with empty := false } }
    t.journal.inFlight.map (fun w => (w.slot, w.snap.pending.a.length, w.snap.unreported.a.map (·.number),
      w.snap.unreported.a.map (·.slot))) = some (s.journal.next, 0, [7], [some s.journal.next]) := by decide

/-- R118, R154: a gate still TRIPPED at a recovery with no VALID slot goes to OFF with its event. -/
theorem test_gateEmpty :
    (((reading .tripped).gateEmpty .a).gate .a).state = .off ∧
      ((reading .tripped).gateEmpty .a).exch.nextEvent = succ32 (reading .tripped).exch.nextEvent ∧
      ((reading .off).gateEmpty .a).exch.nextEvent = (reading .off).exch.nextEvent := by decide

/-- R147: the CRC-32 of a byte of zeros, by the polynomial's table, most significant bit first. -/
theorem test_crc32 : crc32 [0#8] = 0xB1F7404B#32 := by decide

/-- R147: a slot that a write leaves reads VALID, and no longer once a bit of its CRC has changed. -/
theorem test_slot_valid : (Slot.written 5 snap).kind = .valid := Slot.written_kind 5 snap

/-- 10, Folios: CONFIG is held by the host at power-on, and its kind is 7. -/
theorem test_header : (after (.readMemory 0 0x700#16 1) opened).exch.spiOut = [0x87#8] := by decide

/-- R179: a write to a folio the part holds sets STRAY. -/
theorem test_stray_write : (after (.writeMemory 0 0x0110#16 [1#8]) opened).exch.stray = true := by decide

/-! ### Witnesses: a concrete state meets the hypotheses of each statement, clause by clause -/

/-- A part with a command that waits, a byte stored in SCRATCH's first place, side A's SLOW valve open in FLOWING, and
motor LOW STARTING. -/
def busy : State :=
  let x := (selling .flowing).side .a
  let s := (pumping .starting true).setSide .a { x with valves := { x.valves with low := ⟨true, true⟩ } }
  { s with exch := { s.exch with mem := [(6912, 7)] }, pending := [.clockTick 0] }

theorem witness_StepTakesTheFront :
    (∃ s : State, ∃ c rest, s.pending = c :: rest) ∧ ∃ s : State, s.pending = [] :=
  ⟨⟨busy, _, _, rfl⟩, opened, rfl⟩

theorem witness_StepKeepsMemory : ∃ s t, MemoryOk s ∧ s.exch.mem ≠ [] ∧ step s = .next t :=
  ⟨busy, _, ⟨by decide, by decide⟩, by decide, rfl⟩

theorem witness_StepKeepsValves :
    ∃ s t, ValvesOk s ∧ ((s.side .a).valves.get .low).main = true ∧ step s = .next t :=
  ⟨busy, _, fun sd p => by cases sd <;> cases p <;> decide, by decide, rfl⟩

theorem witness_StepKeepsMotors : ∃ s t, MotorsOk s ∧ (s.motor .low).contactor = true ∧ step s = .next t :=
  ⟨busy, _, ⟨fun p => by cases p <;> decide, fun p q => by cases p <;> cases q <;> decide⟩, by decide, rfl⟩

theorem witness_StepKeepsChannels : ∃ s t, ChannelsOk s ∧ step s = .next t :=
  ⟨busy, _, fun m => by
    rcases m with ⟨sd, p⟩
    cases sd <;> cases p <;>
      exact ⟨by decide, by decide, by decide, by decide, by decide, by decide, nofun, nofun⟩, rfl⟩

theorem witness_StepKeepsMode : ∃ s t, ModeOk s ∧ step s = .next t :=
  ⟨busy, _, ⟨by decide, fun _ h => by cases h⟩, rfl⟩

/-- HOLDUP with the warning inactive for 1 s, a byte stored in a body and one in SCRATCH. -/
def heldUp (p : JPhase) (warning : Bool) : State :=
  { inMode .holdup none with
    mode := { ModeCtl.reset with mode := .holdup, warning := warning, clearT := some 0, cleared := true }
    journal := { Journal.reset with phase := p, inFlight := some ⟨0, 1, snap, false⟩ }
    exch := { opened.exch with mem := [(6911, 5), (6912, 7)] } }

theorem witness_CommandsStoreInTheirPlace :
    (∃ t, exec (.clockTick 0) busy = .next t ∧ ¬ mayStore busy (.clockTick 0) 6912 ∧
        ¬ coldStarts busy (.clockTick 0)) ∧
      (∃ t, exec (.message 0 .a 0 [0x41#8]) busy = .next t ∧ ¬ mayStore busy (.message 0 .a 0 [0x41#8]) 6912) ∧
      (∀ a ∈ [6911, 6912],
        (∃ t, exec (.warningCleared 0) (heldUp .done false) = .next t ∧
          ¬ mayStore (heldUp .done false) (.warningCleared 0) a ∧ coldStarts (heldUp .done false) (.warningCleared 0)) ∧
        ∀ p ∈ [JPhase.finalWriting, .coldWait], ∃ t, exec (.journalWriteComplete 0 []) (heldUp p false) = .next t ∧
          ¬ mayStore (heldUp p false) (.journalWriteComplete 0 []) a ∧
          coldStarts (heldUp p false) (.journalWriteComplete 0 [])) ∧
      coldStarts (heldUp .finalWait false) (.journalWriteComplete 0 crcDamage) ∧
      ∃ t, exec (.powerOn 0 pinsAtReset 0 []) busy = .next t ∧
        ¬ mayStore busy (.powerOn 0 pinsAtReset 0 []) 6912 := by
  have h : ∀ a ∈ [6911, 6912], ¬ inReports a := by
    intro a ha h
    obtain ⟨sd, h⟩ := h
    revert a sd
    simp only [List.forall_mem_cons]
    exact ⟨fun sd h => by cases sd <;> exact absurd h.2 (by decide),
      fun sd h => by cases sd <;> exact absurd h.2 (by decide), by simp⟩
  exact ⟨⟨_, rfl, (fun h => by obtain ⟨_, h, _⟩ := h; cases h), id⟩,
    ⟨_, rfl, fun h => by obtain ⟨f, hf, h⟩ := h; cases hf; exact absurd h.2 (by decide)⟩,
    fun a ha => ⟨⟨_, rfl, h a ha, rfl, rfl, 0, rfl, Nat.le_refl 0⟩, fun p hp => ⟨_, rfl, h a ha, rfl, rfl, _, rfl, by
      revert hp; cases p <;> decide⟩⟩,
    ⟨rfl, rfl, _, rfl, .inr (.inr ⟨rfl, rfl, Write.readBack_crcDamage _⟩)⟩, _, rfl, h 6912 (by decide)⟩

theorem witness_OneCommandChangesEachRegister :
    ∃ c s t, exec c s = .next t ∧ mayRecover c = false ∧ (∀ dt v, c ≠ Instr.freshMask dt v) ∧
      (∀ dt ref b, c ≠ Instr.config dt ref b) ∧ (∀ dt v, c ≠ Instr.touch dt v) ∧ (∀ dt, c ≠ Instr.powerWarning dt) ∧
      (∀ dt a n, c ≠ Instr.readMemory dt a n) ∧ (∀ dt a, c ≠ Instr.readRegister dt a) ∧ (∀ dt, c ≠ Instr.stray dt) ∧
      mayStray c = false ∧ ¬ mayClear c Folio.config ∧ s.exch.fresh.getLsbD Folio.config.val = true :=
  ⟨.clockTick 0, { busy with exch := { busy.exch with fresh := 0x80#32 } }, _, rfl, rfl, by simp, by simp, by simp,
    by simp, by simp, by simp, by simp, rfl, nofun, by decide⟩

theorem witness_TouchTakesTheRequest :
    Memory.wf busy.exch.mem = true ∧ (staging 16777215 255 16777215).wellFormed = true ∧
      (plainGrades 255 255).wellFormed = true ∧
      (Vector.replicate 4 (⟨255, 255, 2 ^ 64 - 1⟩ : WatchReq)).toList.all WatchReq.wellFormed = true ∧
      calWellFormed (PerMeter.same (.set 65535)) = true ∧
      (∀ f ∈ [Folio.priceStaging, Folio.grades, Folio.watch, Folio.calibration], (busy.header f).holder = .host) := by
  decide

/-- Phase B had an edge at time 0. -/
def edged : State := (turning 3 0 none).setChan m1 { Channel.reset with posB := true, edgeB := some 0, noise := 64 }

theorem witness_EdgesAndRatesAreTimed :
    edged.dormant = false ∧ (edged.chan m1).edge .b = some 0 ∧ (BitVec.ofNat 32 (edged.now + 19) - 0#32).toNat < 20 ∧
      (edged.chan m1).attached = none ∧ ((turning 3 0 none).chan m1).stamp = some 0 ∧
      1000000 ≤ (BitVec.ofNat 32 ((turning 3 0 none).now + 1000000) - 0#32).toNat := by decide

theorem witness_CyclesMoveTheBackCount :
    (CompletesForward (turning 3 1 none) 0 m1 .b ∧ 0 < ((turning 3 1 none).chan m1).back) ∧
      (CompletesForward (turning 3 0 none) 0 m1 .b ∧ ((turning 3 0 none).chan m1).back = 0) ∧
      (CompletesReverse (turning (-3) 15 none) 0 m1 .a ∧ ((turning (-3) 15 none).chan m1).back ≠ 16) ∧
      (CompletesReverse (turning (-3) 16 none) 0 m1 .a ∧ ((turning (-3) 16 none).chan m1).back = 16) := by
  refine ⟨⟨⟨?_, ?_, ?_, ?_, ?_⟩, ?_⟩, ⟨⟨?_, ?_, ?_, ?_, ?_⟩, ?_⟩, ⟨⟨?_, ?_, ?_, ?_, ?_⟩, ?_⟩,
    ⟨?_, ?_, ?_, ?_, ?_⟩, ?_⟩ <;> decide

/-- Meter 1 a quarter-step short of a cycle with fifteen periods in its window. -/
def racing : State :=
  (turning 3 0 (some ⟨7, 0⟩)).setChan m1 { (turning 3 0 (some ⟨7, 0⟩)).chan m1 with window := List.replicate 15 1000 }

/-- `turning` with its meter attached to the sale of side A in another state. -/
def turningIn (st : SideState) : State :=
  let s := turning 3 0 (some ⟨7, 0⟩)
  s.setSide .a { s.side .a with state := st }

theorem witness_CountedCyclesGoToOnePlace :
    (CompletesForward (turning 3 0 none) 0 m1 .b ∧ ((turning 3 0 none).chan m1).back = 0 ∧
        KeepsSpeed (turning 3 0 none) 0 m1 ∧ ((turning 3 0 none).chan m1).attached = none) ∧
      (∀ st, CompletesForward (turningIn st) 0 m1 .b ∧ ((turningIn st).chan m1).back = 0 ∧
        KeepsSpeed (turningIn st) 0 m1 ∧ ((turningIn st).chan m1).attached = some ⟨7, 0⟩ ∧
        ((turningIn st).side m1.side).state = st) ∧ SideState.ending.slowMayOpen = true ∧
      CompletesForward racing 1000000 m1 .b ∧ (racing.chan m1).back = 0 ∧ KeepsSpeed racing 1000000 m1 ∧
      (racing.chan m1).window.length = 15 ∧ (racing.chan m1).fault = none := by
  refine ⟨⟨⟨?_, ?_, ?_, ?_, ?_⟩, ?_, .inr (.inl ?_), ?_⟩,
    fun st => ⟨⟨?_, ?_, ?_, ?_, ?_⟩, ?_, .inr (.inl ?_), rfl, rfl⟩, rfl, ⟨?_, ?_, ?_, ?_, ?_⟩, ?_, .inr (.inr ?_), ?_, ?_⟩
  all_goals first | decide | (cases st <;> decide)

theorem witness_MeterClears :
    CanTouch opened Folio.siteOrder ∧ Meter.ofNumber 0 = none ∧ Meter.ofNumber 7 = none ∧
      Meter.ofNumber 1 = some m1 ∧ ((selling .ending).side m1.side).state.holdsSale = true ∧
      CanTouch (selling .ended) Folio.siteOrder ∧ ((selling .ended).side m1.side).state.holdsSale = false ∧
      ∃ s : State, CanTouch s Folio.siteOrder ∧ (s.side m1.side).state.holdsSale = false ∧
        (s.chan m1).fault = some .reverse ∧ s.exch.nextEvent = 1 :=
  ⟨⟨rfl, rfl⟩, rfl, rfl, rfl, rfl, ⟨rfl, rfl⟩, rfl,
    opened.setChan m1 { Channel.reset with fault := some .reverse }, ⟨rfl, rfl⟩, rfl, rfl, rfl⟩

/-- Meter 1 with an edge on phase B at time 0 and 64 noise counts, attached to the sale. -/
def noisy (fault : Option FaultCause) : State :=
  (selling .flowing).setChan m1 { Channel.reset with
    edgeB := some 0, noise := 64, attached := some ⟨7, 0⟩, fault := fault }

/-- Meter 1 after seven edges in a row on phase B. -/
def oneSided (fault : Option FaultCause) : State :=
  (selling .flowing).setChan m1 { Channel.reset with
    runPhase := .b, runCount := 7, attached := some ⟨7, 0⟩, fault := fault }

theorem witness_MetersFault :
    (((noisy none).side .a).state ≠ .authorized ∧ ((noisy none).side .a).state ≠ .starting ∧
        ((noisy none).chan m1).fault = none ∧ NoiseRises (noisy none) 19 m1 .b ∧
        ((noisy none).chan m1).attached.isSome = true ∧ ((noisy none).chan m1).noise = 64) ∧
      (((oneSided none).chan m1).fault = none ∧ RunReachesEight (oneSided none) 20 m1 .b) ∧
      (((turning (-3) 16 none).chan m1).fault = none ∧ CompletesReverse (turning (-3) 16 none) 0 m1 .a ∧
        ((turning (-3) 16 none).chan m1).back = 16) ∧
      ((racing.chan m1).fault = none ∧ CompletesForward racing 0 m1 .b ∧ (racing.chan m1).back = 0 ∧
        (racing.chan m1).stamp = some 0 ∧ 15 ≤ (racing.chan m1).window.length ∧
        (∀ i, (racing.store.watches.get i).armed = false) ∧ (racing.chan m1).attached ≠ none ∧
        PerMeter.get racing.exch.config.maxFlow m1 < rateOf (((racing.chan m1).window ++
          [(BitVec.ofNat 32 (racing.now + 0) - 0#32).toNat]).drop ((racing.chan m1).window.length - 15))
            (racing.chan m1).cf) ∧
      (((noisy (some .noise)).chan m1).fault = some .noise ∧ NoiseRises (noisy (some .noise)) 19 m1 .b ∧
        ((noisy (some .noise)).chan m1).noise = 64) ∧
      ((oneSided (some .noise)).chan m1).fault = some .noise ∧ RunReachesEight (oneSided (some .noise)) 20 m1 .b := by
  refine ⟨⟨?_, ?_, ?_, ⟨?_, .inl ?_⟩, ?_⟩, ⟨?_, ?_, ?_, ?_⟩, ⟨?_, ⟨?_, ?_, ?_, ?_, ?_⟩, ?_⟩,
    ⟨?_, ⟨?_, ?_, ?_, ?_, ?_⟩, ?_⟩, ⟨?_, ⟨?_, .inl ?_⟩, ?_⟩, ?_, ?_, ?_, ?_⟩ <;> decide

theorem witness_GradesAreReplaced :
    (CanTouch opened Folio.grades ∧ opened.mode.mode ≠ .closed) ∧
      gradesBadDetail (plainGrades 101 0) ≠ none ∧
      (gradesBadDetail { plainGrades 100 201 with maps := Both.same #v[1, 0, 0, 0] } = none ∧
        (inMode .closed none).unpricedUnder { plainGrades 100 201 with maps := Both.same #v[1, 0, 0, 0] } = some 0) ∧
      CanTouch (inMode .closed none) Folio.grades ∧ (inMode .closed none).mode.mode = .closed ∧
      gradesBadDetail (plainGrades 100 201) = none ∧ (inMode .closed none).unpricedUnder (plainGrades 100 201) = none :=
  ⟨⟨⟨rfl, rfl⟩, by decide⟩, by decide, ⟨by decide, by decide⟩, ⟨rfl, rfl⟩, rfl, by decide, by decide⟩

/-- A bank staged AT_ONCE and due. -/
def due (s : State) : State :=
  { s with prices := { s.prices with staged := some ⟨Vector.replicate 6 1, 5, .atOnce⟩, swapDue := true } }

/-- Nozzle 1 of each side sells grade 1. -/
def mapped (s : State) (price : Nat) : State :=
  { s with prices := { s.prices with
      maps := Both.same #v[some 0, none, none, none], active := Vector.replicate 6 price } }

theorem witness_StagingAndSwap :
    (CanTouch opened Folio.priceStaging ∧ firstTooHigh (staging 100000 0 0).prices = some 0 ∧
        (firstTooHigh (staging 0 0 0).prices = none ∧
          firstUnpriced (mapped opened 1).prices.maps (staging 0 0 0).prices = some 0) ∧
        (firstTooHigh (staging 99999 2 0).prices = none ∧
          firstUnpriced opened.prices.maps (staging 99999 2 0).prices = none ∧ 1 < (staging 99999 2 0).cond) ∧
        ((staging 0 1 86400).cond = 1 ∧ ¬ (staging 0 1 86400).second ≤ 86399) ∧
        ((staging 99999 1 86399).cond = 1 ∧ (staging 99999 1 86399).weekday ≤ 6 ∧
          (staging 99999 1 86399).second ≤ 86399 ∧ opened.mode.clockUnset = true) ∧
        (CanTouch (clocked opened) Folio.priceStaging ∧ (clocked opened).mode.clockUnset = false ∧
          (clocked opened).mode.clock ≠ ⟨6, 86399⟩ ∧ (clocked opened).mode.clock = ⟨0, 0⟩) ∧
        (staging 0 0 0).cond = 0) ∧
      (CanTouch (selling .ending) Folio.priceStaging ∧ (∃ sd, ((selling .ending).side sd).state.blocksSwap = true)) ∧
      ((due opened).prices.swapDue = true ∧ (due opened).prices.staged.isSome = true ∧ (due opened).dormant = false ∧
        (∀ sd, ((due opened).side sd).state.blocksSwap = false) ∧ (∀ sd, ((due opened).side sd).waiting = false)) ∧
      ((due (selling .ending)).side .a).state.blocksSwap = true :=
  ⟨⟨⟨rfl, rfl⟩, by decide, ⟨by decide, by decide⟩, ⟨by decide, by decide, by decide⟩, ⟨rfl, by decide⟩,
      ⟨rfl, by decide, by decide, rfl⟩, ⟨⟨rfl, rfl⟩, rfl, by decide, rfl⟩, rfl⟩,
    ⟨⟨rfl, rfl⟩, .a, rfl⟩,
    ⟨rfl, rfl, rfl, fun sd => by cases sd <;> rfl, fun sd => by cases sd <;> rfl⟩, rfl⟩

/-- Side A in CALLING with its last nozzle lifted. -/
def calling : State :=
  opened.setSide .a { SideCtl.reset with state := .calling, nozzles := #v[false, false, false, true] }

theorem witness_SidesFollowNozzlesAndTimers :
    ((opened.dormant = false ∧ (opened.side .a).state = .idle ∧ opened.mode.mode = .openMode) ∧
        ((inMode .closing (some .display)).dormant = false ∧
          ((inMode .closing (some .display)).side .a).state = .idle ∧
          (inMode .closing (some .display)).mode.mode ≠ .openMode) ∧
        (calling.dormant = false ∧ (calling.side .a).state = .calling ∧
          ((calling.side .a).nozzles.set 3 false).toList.any id = false)) ∧
      (∀ st ∈ [SideState.flowing, .slow, .suspended], ((selling st).side .a).sale = some sale ∧ sale.cap = some cap ∧
        (selling st).dormant = false ∧ ((selling st).side .a).state = st) ∧
      ((selling .slow).side .a).noflowT = some 0 ∧ ((selling .suspended).side .a).suspendT = some 0 ∧
      ((selling .flowing).side .a).staggerT = some 0 ∧
      ((selling .ending).side .a).slowClose = some 0 ∧ ((selling .ending).side .a).state = .ending := by decide

/-- An AUTHORIZE for any grade in the mask. -/
def order (mask : Byte) : AuthReq := ⟨some .attendant, ⟨some .volume, 1000000⟩, mask⟩

theorem witness_AuthorizeIsDecided :
    CanTouch opened (Folio.order .a) ∧ authorizeCheck opened .a (order 0xC0#8) = some .gradeMaskEmpty ∧
      authorizeCheck opened .a (order 0x20#8) = none ∧ (order 0x20#8).origin = some .attendant ∧
      (order 0x20#8).limit.kind = some .volume ∧ (opened.side .a).nozzles.toList.any id = false :=
  ⟨⟨rfl, rfl⟩, by decide, by decide, rfl, rfl, by decide⟩

/-- Side A in AUTHORIZED with every nozzle down, its nozzle 1 selling grade 1 at a price. -/
def ready (price : Nat) (swapDue : Bool) : State :=
  let s := mapped authorized price
  { s with prices := { s.prices with swapDue := swapDue } }

/-- Side A with nozzle 1 lifted, in CALLING. -/
def lifted : State :=
  (mapped opened 1000).setSide .a { SideCtl.reset with state := .calling, nozzles := onlyUp 0 }

theorem witness_SidesCapture :
    (∀ price d, ((ready price d).disp .a).state ≠ .fault ∧ (ready price d).mode.stage ≠ some .prime ∧
        ((ready price d).side .b).state ≠ .starting ∧ (ready price d).dormant = false ∧
        ((ready price d).side .a).state = .authorized ∧
        ((ready price d).side .a).sale = some { sale with cap := none } ∧
        ((ready price d).side .a).nozzles.set 0 true = onlyUp 0 ∧ ReadyFor (ready price d) .a 1#6 0 0 ∧
        (ready price d).prices.swapDue = d ∧ (ready price d).prices.active.get 0 = price) ∧
      (∀ g, ¬ ReadyFor authorized .a 1#6 0 g) ∧
      CanTouch lifted (Folio.order .a) ∧ authorizeCheck lifted .a (order 1#8) = none ∧
      (lifted.side .a).nozzles = onlyUp 0 ∧ ReadyFor lifted .a ((1#8).setWidth 6) 0 0 ∧
      (lifted.disp .a).state ≠ .fault ∧ lifted.mode.stage ≠ some .prime ∧ (lifted.side .b).state ≠ .starting :=
  ⟨fun _ _ => ⟨nofun, nofun, nofun, rfl, rfl, rfl, rfl,
      ⟨rfl, rfl, fun p _ => by cases p <;> exact ⟨rfl, nofun⟩⟩, rfl, rfl⟩,
    (fun _ h => nomatch h.1), ⟨rfl, rfl⟩, by decide, rfl,
    ⟨rfl, rfl, fun p _ => by cases p <;> exact ⟨rfl, nofun⟩⟩, nofun, nofun, nofun⟩

/-- A side whose sale stands at 49 cl, one short of its slow point. -/
def nearSlow (st : SideState) : State :=
  (selling st).setSide .a { (selling st).side .a with
    sale := some { sale with record := { sale.record with volume := 49 } } }

theorem witness_ChangeLimitIsDecided :
    CanTouch opened (Folio.order .a) ∧ (opened.side .a).state = .idle ∧
      (CanTouch (selling .ending) (Folio.order .a) ∧ ((selling .ending).side .a).state = .ending) ∧
      (CanTouch authorized (Folio.order .a) ∧ (authorized.side .a).state.holdsSale = true ∧
        (authorized.side .a).state = .authorized ∧ (authorized.side .a).waiting = false ∧
        (authorized.side .a).sale = some { sale with cap := none }) ∧
      (∀ st, CanTouch (nearSlow st) (Folio.order .a) ∧ ((nearSlow st).side .a).state = st ∧
        ((nearSlow st).side .a).sale = some { sale with record := { sale.record with volume := 49 } }) ∧
      sale.cap = some cap ∧ targetOf .volume (limitAmount .volume 49) .nearest 1000 ≤ 49 ∧
      (49 < targetOf .volume (limitAmount .volume 60) .nearest 1000 ∧
        slowPoint (targetOf .volume (limitAmount .volume 60) .nearest 1000) 50 ≤ 49) ∧
      49 < slowPoint (targetOf .volume (limitAmount .volume 100) .nearest 1000) 50 :=
  ⟨⟨rfl, rfl⟩, rfl, ⟨⟨rfl, rfl⟩, rfl⟩, ⟨⟨rfl, rfl⟩, rfl, rfl, rfl, rfl⟩, fun _ => ⟨⟨rfl, rfl⟩, rfl, rfl⟩, rfl,
    by decide, ⟨by decide, by decide⟩, by decide⟩

theorem witness_StopResumeAndEnd :
    (∀ st, CanTouch (selling st) (Folio.order .a) ∧ ((selling st).side .a).state = st ∧
        ((selling st).side .a).sale = some sale) ∧ sale.cap = some cap ∧
      (opened.side .a).state.delivers = false ∧ SideState.slow.delivers = true ∧
      (((selling .suspended).setDisp .a { DispSide.reset with state := .fault }).disp .a).state = .fault ∧
      ((selling .suspended).disp .a).state ≠ .fault ∧
      CanTouch authorized (Folio.order .a) ∧ (authorized.side .a).state = .authorized ∧
      (authorized.side .a).sale = some { sale with cap := none } ∧ sale.record.side = .a ∧
      authorized.mode.stage = none :=
  ⟨fun _ => ⟨⟨rfl, rfl⟩, rfl, rfl⟩, rfl, rfl, rfl, rfl, by decide, ⟨rfl, rfl⟩, rfl, rfl, rfl, rfl⟩

/-- Side A in a state with its sale of 1 l, slow from 50 cl, meters 1 and 2 with fine volumes and meter 1 a quarter-step
short of a cycle of 1024, a grade of a composition, and a target. -/
def counting (st : SideState) (low high target : Nat) (comp : Composition) (run : Option Nat) : State :=
  let s := turning 3 0 (some ⟨7, low⟩)
  let s := s.setChan ⟨.a, .high⟩ { Channel.reset with attached := some ⟨7, high⟩ }
  let s := { s with prices := { s.prices with grades := Vector.replicate 6 ⟨comp, 50, Vector.replicate 4 0x41#8⟩ } }
  s.setSide .a { s.side .a with
    state := st, devRun := run
    sale := some { sale with cap := some { cap with target := target, slow := target - 50 } } }

/-- The volume in cl that a sale's fine volumes come to. -/
def clOf (l : List (Meter × Nat)) : Nat := min 999999 (fineSum l / 10240)

theorem witness_CountedCyclesMoveTheSale :
    (∀ st low high target comp run,
      CompletesForward (counting st low high target comp run) 0 m1 .b ∧
        ((counting st low high target comp run).chan m1).back = 0 ∧
        KeepsSpeed (counting st low high target comp run) 0 m1 ∧
        ((counting st low high target comp run).chan m1).attached = some ⟨7, low⟩ ∧
        ((counting st low high target comp run).side .a).state = st ∧
        ((counting st low high target comp run).side .a).sale =
          some { sale with cap := some { cap with target := target, slow := target - 50 } } ∧
        ((counting st low high target comp run).side .a).devRun = run ∧
        (counting st low high target comp run).fines .a = [(m1, low), (⟨.a, .high⟩, high)] ∧
        ((counting st low high target comp run).chan m1).cf = 1024) ∧
      (clOf [(m1, 1022976)] = 99 ∧ clOf [(m1, 1024000)] = 100) ∧
      (clOf [(m1, 510976)] = 49 ∧ clOf [(m1, 512000)] = 50) ∧
      clOf [(m1, 511999)] < 100 - 50 ∧
      (clOf [(m1, 614400), (⟨.a, .high⟩, 409600)] = 100 ∧ highShare 614400 409600 = 400) ∧
      (clOf [(m1, 1024), (⟨.a, .high⟩, 5120000)] = 500 ∧ 10 * 40 + 3 * 20 < highShare 1024 5120000) ∧
      clOf [(m1, 1024), (⟨.a, .high⟩, 5120000)] = 300 + 200 ∧ 500 < 301 + 200 := by
  refine ⟨fun st _ _ _ comp _ => ⟨⟨?_, ?_, ?_, ?_, ?_⟩, ?_, .inr (.inl ?_), rfl, rfl, rfl, rfl, ?_, rfl⟩, ?_⟩
  all_goals first | decide | rfl | exact Nat.le_of_ble_eq_true rfl

/-- R54: the cycle that takes the volume from 99 to the target of 100 cl ends the sale with LIMIT, and the one from 49
to the slow point of 50 cl makes the side SLOW. -/
theorem test_cycle_target :
    let t := after (.pulserEdge 0 m1 .b) (counting .flowing 1022976 0 100 (.blend 0) none)
    (t.side .a).state = .ending ∧ (t.side .a).sale.bind (·.record.reason) = some .limit := by decide
theorem test_cycle_slow :
    let t := after (.pulserEdge 0 m1 .b) (counting .flowing 510976 0 100 (.blend 0) none)
    (t.side .a).state = .slow ∧ ((t.side .a).sale.map (·.record.volume)) = some 50 := by decide

/-- R58: 200 cl after the share left the wider bounds the sale ends with BLEND_FAULT. -/
theorem test_cycle_blendFault :
    let t := after (.pulserEdge 0 m1 .b) (counting .flowing 0 5120000 900 (.blend 40) (some 300))
    (t.side .a).sale.bind (·.record.reason) = some .blendFault := by decide

theorem witness_TimersCompleteTheSale :
    ((authorized.side .a).state = .authorized ∧ (authorized.side .a).sale = some { sale with cap := none } ∧
        sale.record.side = .a ∧ (authorized.side .a).authT = some 0 ∧ 0 ≤ authorized.now + 0 ∧
        authorized.mode.stage = none) ∧
      (∃ s : State, ∃ o, (s.side .a).sale = some o ∧ (s.side .a).state = .authorized ∧ o.cap = none ∧
        o.record.side = .a ∧ (s.side .a).authT = some 0 ∧ s.mode.stage = none ∧ o.record.grade = none ∧
        o.record.fines = []) ∧
      (((selling .ending).side .a).state = .ending ∧ ((selling .ending).side .a).sale = some sale ∧
        sale.cap = some cap ∧ sale.record.side = .a ∧ ((selling .ending).side .a).settleT = some 0 ∧
        (selling .ending).prices.swapDue = false ∧ ((selling .ending).side .b).state ≠ .starting ∧
        ((selling .ending).side .a).nozzles.get cap.nozzle = true ∧ sale.record.test = false ∧
        sale.record.grade = some 0) ∧
      ((⟨.volume 0, 1, true⟩ : Watch).fires (.volume 0) 0 1 ∧ ¬ (⟨.volume 0, 2, true⟩ : Watch).fires (.volume 0) 0 1) ∧
      ∃ s : State, ∃ o, (s.side .a).sale = some o ∧ (s.side .a).state = .ending ∧ o.cap = some cap ∧
        o.record.side = .a ∧ (s.side .a).settleT = some 0 ∧ s.prices.swapDue = false ∧
        (s.side .b).state ≠ .starting ∧ o.record.test = true ∧ (s.chan m1).attached = some ⟨7, 5⟩ :=
  ⟨by decide,
    ⟨authorized.setSide .a { authorized.side .a with
      sale := some { sale with cap := none, record := { sale.record with grade := none } } }, _, rfl, rfl, rfl, rfl, rfl,
      rfl, rfl, rfl⟩,
    by decide, ⟨⟨rfl, rfl, by decide, by decide⟩, fun h => absurd h.2.2.2 (by decide)⟩,
    (((selling .ending).setSide .a { (selling .ending).side .a with
      sale := some { sale with record := { sale.record with test := true } } }).setChan m1
        { Channel.reset with attached := some ⟨7, 5⟩ }), _, rfl, rfl, rfl, rfl, rfl, rfl, nofun, rfl, rfl⟩

/-- R134: a completed sale is one sale of its grade, to which it adds its volume. -/
theorem test_completion_totals :
    let s := (selling .ending).setChan m1 { Channel.reset with attached := some ⟨7, 512000⟩ }
    (after (.settleTime 0 .a) s).store.totals.count.get 0 = 1 ∧
      (after (.settleTime 0 .a) s).store.totals.volume.get 0 = 50 := by decide

/-- LOW waits at the head of the FIFO, HIGH behind it; a last grant, if any, was at time 0. -/
def queued (st : MotorState) (grant : Option (Nat × Nat)) : State :=
  { pumping st true with motors := { (pumping st true).motors with fifo := [.low, .high], lastGrant := grant } }

/-- LOW waits alone with pressure-ok present already, used by side A or not, with an IDLE_RUN. -/
def pressed (used : Bool) (idle : Nat) : State :=
  let s := pumping .waiting used
  { s with
    motors := { s.motors with fifo := [.low], lastGrant := none }
    pins := { s.pins with pressureOk := ⟨true, false, false⟩ }
    exch := { s.exch with config := { Settings.default with idleRun := idle } } }

theorem witness_StartSlotIsGranted :
    (NoneLeavesStarting (queued .waiting (some (0, 0))) ∧ (queued .waiting (some (0, 0))).motors.fifo = [.low, .high] ∧
        (∀ q, ((queued .waiting (some (0, 0))).motor q).state ≠ .starting) ∧
        (∀ g, (queued .waiting (some (0, 0))).motors.lastGrant = some g →
          g.2 ≤ (queued .waiting (some (0, 0))).now + 0) ∧
        ((queued .waiting (some (0, 0))).motor .low).restUntil ≤ (queued .waiting (some (0, 0))).now + 0 ∧
        (queued .waiting (some (0, 0))).pins.pressureOk.get .low = false) ∧
      (∀ used idle, NoneLeavesStarting (pressed used idle) ∧ (pressed used idle).motors.fifo = [.low] ∧
        (∀ q, ((pressed used idle).motor q).state ≠ .starting) ∧ (pressed used idle).motors.lastGrant = none ∧
        ((pressed used idle).motor .low).restUntil ≤ (pressed used idle).now + 0 ∧
        (pressed used idle).pins.pressureOk.get .low = true ∧ ((pressed used idle).motor .low).users.any = used ∧
        (pressed used idle).exch.config.idleRun = idle) ∧
      NoneLeavesStarting opened ∧ opened.motors.fifo = [] ∧ NoneLeavesStarting (queued .starting none) ∧
      (∃ q, ((queued .starting none).motor q).state = .starting) ∧ NoneLeavesStarting (queued .waiting (some (0, 1))) ∧
      (∃ g, (queued .waiting (some (0, 1))).motors.lastGrant = some g ∧ (queued .waiting (some (0, 1))).now + 0 < g.2) ∧
      opened.now + 0 < (opened.motor .low).restUntil := by
  have h : ∀ s : State, (s.side .a).startReady = false → (s.side .b).startReady = false →
      s.mode.stage ≠ some .prime → NoneLeavesStarting s :=
    fun s ha hb hp => ⟨fun sd => by cases sd <;> assumption, hp⟩
  refine ⟨⟨h _ (by decide) (by decide) (by decide), rfl, ?_, ?_, by decide, rfl⟩,
    fun used _ => ⟨h _ rfl rfl nofun, rfl, fun q => by cases q <;> nofun, rfl, Nat.zero_le _, rfl,
      by cases used <;> rfl, rfl⟩, h _ (by decide) (by decide) (by decide),
    rfl, h _ (by decide) (by decide) (by decide), ⟨.low, rfl⟩, h _ (by decide) (by decide) (by decide),
    ⟨_, rfl, by decide⟩, by decide⟩
  · intro q; cases q <;> decide
  · intro g hg; cases hg; decide

/-- LOW starts without users, with IDLE_RUN 0. -/
def restless : State :=
  { pumping .starting false with exch := { opened.exch with config := { Settings.default with idleRun := 0 } } }

theorem witness_PressureIsWatched :
    (((pumping .starting true).motor .low).state = .starting ∧ ((pumping .starting true).motor .low).users.any = true ∧
        Product.low ∉ (pumping .starting true).motors.fifo ∧ (pumping .starting true).mode.stage ≠ some .prime) ∧
      (NoneLeavesStarting (pumping .starting false) ∧ NoneLeavesStarting restless ∧
        ((pumping .starting false).motor .low).state = .starting ∧
        ((pumping .starting false).motor .low).users.any = false ∧ (pumping .starting false).motors.fifo = [] ∧
        (pumping .starting false).exch.config.idleRun ≠ 0 ∧
        (restless.motor .low).state = .starting ∧ (restless.motor .low).users.any = false ∧
        restless.motors.fifo = [] ∧ restless.exch.config.idleRun = 0) ∧
      (∀ st ∈ [MotorState.running, .rundown], ((pumping st true).motor .low).state.confirmed = true) ∧
      (∀ st ∈ [MotorState.stopped, .waiting, .failed], ((pumping st true).motor .low).state.turning = false) ∧
      (∀ st ∈ [MotorState.stopped, .waiting, .starting, .failed],
        ((pumping st true).motor .low).state.confirmed = false) :=
  ⟨by decide, ⟨⟨fun sd => by cases sd <;> decide, by decide⟩, ⟨fun sd => by cases sd <;> decide, by decide⟩, by decide⟩,
    by decide, by decide, by decide⟩

/-- Side A with the captured sale in a state, motor LOW in a state with its timers run out and side A its user. -/
def dry (sd : SideState) (st : MotorState) : State := (selling sd).setMotor .low ((pumping st true).motor .low)

/-- Side A in AUTHORIZED with the nozzle of grade 1 lifted, motor LOW in a state with its timers run out. -/
def thirsty (st : MotorState) : State :=
  let s := mapped authorized 1000
  (s.setSide .a { s.side .a with nozzles := onlyUp 0 }).setMotor .low ((pumping st true).motor .low)

theorem witness_MotorsFailAndStop :
    (∀ st : MotorState, NoneBeforeFlow (pumping st true) ∧ (pumping st true).motors.fifo = [] ∧
        ((pumping st true).motor .low).pressureT = some 0 ∧ ((pumping st true).motor .low).lossT = some 0 ∧
        ((pumping st true).motor .low).rundownT = some 0 ∧ ((pumping st true).motor .low).state = st) ∧
      MotorState.running.confirmed = true ∧
      (NoneBeforeFlow (dry .flowing .running) ∧ SaleNeeds (dry .flowing .running) .a .low ∧
        ((dry .flowing .running).side .a).state.delivers = true) ∧
      (FailsNow (.pressureTimeout 0 .low) (dry .starting .starting) 0 .low ∧
        FailsNow (.pressureLost 0 .low) (dry .starting .running) 0 .low ∧
        ∀ st, SaleNeeds (dry .starting st) .a .low ∧ (dry .starting st).motors.fifo = [] ∧
          ((dry .starting st).side .b).state ≠ .authorized ∧ ((dry .starting st).side .b).state ≠ .starting ∧
          (dry .starting st).mode.stage = none ∧ ((dry .starting st).side .a).state = .starting ∧
          ((dry .starting st).side .a).sale = some sale ∧ sale.record.side = .a ∧
          (dry .starting st).prices.swapDue = false) ∧
      FailsNow (.pressureTimeout 0 .low) (thirsty .starting) 0 .low ∧
      FailsNow (.pressureLost 0 .low) (thirsty .running) 0 .low ∧
      ∀ st, (thirsty st).motors.fifo = [] ∧ ((thirsty st).side .b).state = .idle ∧ (thirsty st).mode.stage = none ∧
        ((thirsty st).side .a).state = .authorized ∧ ((thirsty st).side .a).sale = some { sale with cap := none } ∧
        ((thirsty st).side .a).nozzles = onlyUp 0 ∧ ((thirsty st).prices.maps.get .a).get 0 = some 0 ∧
        sale.mask.getLsbD 0 = true ∧ ((thirsty st).prices.grades.get 0).comp.uses .low = true ∧
        ∀ q, ((thirsty st).chan ⟨.a, q⟩).fault = none :=
  ⟨fun _ => ⟨⟨fun sd => by cases sd <;> exact ⟨nofun, nofun⟩, nofun⟩, rfl, rfl, rfl, rfl, rfl⟩, rfl,
    ⟨⟨fun sd => by cases sd <;> exact ⟨nofun, nofun⟩, nofun⟩, ⟨_, _, rfl, rfl, rfl⟩, rfl⟩,
    ⟨⟨0, Nat.zero_le _, .inl ⟨rfl, rfl, rfl⟩⟩, ⟨0, Nat.zero_le _, .inr ⟨rfl, rfl, rfl⟩⟩,
      fun _ => ⟨⟨_, _, rfl, rfl, rfl⟩, rfl, nofun, nofun, rfl, rfl, rfl, rfl, rfl⟩⟩,
    ⟨0, Nat.zero_le _, .inl ⟨rfl, rfl, rfl⟩⟩, ⟨0, Nat.zero_le _, .inr ⟨rfl, rfl, rfl⟩⟩,
    fun _ => ⟨rfl, rfl, rfl, rfl, rfl, rfl, rfl, rfl, rfl, fun q => by cases q <;> rfl⟩⟩

theorem witness_FailedMotorsRecover :
    (CanTouch opened Folio.siteOrder ∧ Product.ofNumber 0 = none ∧ Product.ofNumber 4 = none) ∧
      (Product.ofNumber 3 = some .aux ∧ (opened.motor .aux).state ≠ .failed) ∧
      (((pumping .failed false).motor .low).state = .failed ∧ ((pumping .failed false).motor .low).users.any = false ∧
        NoneBeforeFlow (pumping .failed false) ∧ ((pumping .failed false).motor .low).failHoldT = some 0 ∧
        CanTouch (pumping .failed false) Folio.siteOrder ∧ Product.ofNumber 1 = some .low) ∧
      ∃ s : State, (s.motor .low).state = .failed ∧ (s.motor .low).users.any = true ∧ NoneBeforeFlow s ∧
        (∃ q, (s.motor q).state = .starting) ∧ Product.low ∉ s.motors.fifo ∧ (s.motor .low).failHoldT = some 0 ∧
        CanTouch s Folio.siteOrder :=
  ⟨⟨⟨rfl, rfl⟩, rfl, rfl⟩, ⟨rfl, by decide⟩,
    ⟨rfl, rfl, ⟨fun sd => by cases sd <;> exact ⟨by decide, by decide⟩, by decide⟩, rfl, ⟨rfl, rfl⟩, rfl⟩,
    (pumping .failed true).setMotor .high { Motor.reset with state := .starting }, rfl, rfl,
    ⟨fun sd => by cases sd <;> exact ⟨by decide, by decide⟩, by decide⟩, ⟨.high, rfl⟩, by decide, rfl, ⟨rfl, rfl⟩⟩

/-- A LIT display in a refresh. -/
def refreshing (latched : Option (List Byte)) (n : Nat) : State :=
  showing { lit with transfer := some ⟨allOn, .refresh⟩, latched := latched, mismatch := n }

theorem witness_TransfersBeginAndRefreshesAreJudged :
    (((showing { lit with transferAt := some 0 }).disp .a).refreshDue 500000 = true ∧
      (∃ z, ((showing { lit with zero := some ⟨.hold, 7⟩, holdT := some 0 }).disp .a).zero = some z ∧ z.step = .hold ∧
        ((showing { lit with zero := some ⟨.hold, 7⟩, holdT := some 0 }).disp .a).holdT = some 0) ∧
      ∀ st : LampStep, ∃ l, ((showing { lit with lamp := some ⟨st, false, false⟩, holdT := some 0 }).disp .a).lamp =
        some l ∧ l.step = st ∧
        ((showing { lit with lamp := some ⟨st, false, false⟩, holdT := some 0 }).disp .a).holdT = some 0) ∧
    (∀ l n, ((refreshing l n).disp .a).transfer = some ⟨allOn, .refresh⟩ ∧ ((refreshing l n).disp .a).state = .lit ∧
        ((refreshing l n).disp .a).zero = none ∧ ((refreshing l n).disp .a).lamp = none ∧
        ((refreshing l n).disp .a).goingDark = false ∧ ((refreshing l n).disp .a).latched = l ∧
        ((refreshing l n).disp .a).mismatch = n ∧ ((refreshing l n).side .a).state ≠ .authorized ∧
        ((refreshing l n).side .a).state ≠ .starting ∧ (refreshing l n).display.darkening = false) ∧
      firstDiff allOff allOff 0 = none ∧ firstDiff allOff (List.replicate 53 0 ++ [1]) 0 = some 53 :=
  ⟨⟨by decide, ⟨_, rfl, rfl, rfl⟩, fun _ => ⟨_, rfl, rfl, rfl⟩⟩,
    fun _ _ => ⟨rfl, rfl, rfl, rfl, rfl, rfl, rfl, nofun, nofun, rfl⟩, by decide, by decide⟩

/-- Side A's zero check at a step, in a transfer, for the sale that waits in STARTING, a motor awaited or not. -/
def zeroChecking (step : ZeroStep) (purpose : Purpose) (latched : Option (List Byte)) (need : Bool) : State :=
  let s := selling .starting
  let s := s.setSide .a { s.side .a with needZero := true, needMotors := ⟨need, false, false⟩ }
  { s with display := { Display.reset with
      supply := true
      side := ⟨{ lit with
        zero := some ⟨step, 7⟩, transfer := some ⟨allOn, purpose⟩, latched := latched }, DispSide.reset⟩ } }

/-- Side A's lamp test at a step, in a transfer. -/
def lampTesting (step : LampStep) (purpose : Purpose) (fromFault : Bool) : State :=
  showing { lit with
    state := .testing, lamp := some ⟨step, fromFault, false⟩, transfer := some ⟨allOn, purpose⟩ }

theorem witness_ChecksAreJudged :
    (∀ step purpose latched need, ((zeroChecking step purpose latched need).disp .a).transfer = some ⟨allOn, purpose⟩ ∧
        ((zeroChecking step purpose latched need).disp .a).goingDark = false ∧
        (zeroChecking step purpose latched need).display.darkening = false ∧
        ((zeroChecking step purpose latched need).disp .a).state = .lit ∧
        ((zeroChecking step purpose latched need).disp .a).zero = some ⟨step, 7⟩ ∧
        ((zeroChecking step purpose latched need).disp .a).lamp = none ∧
        ((zeroChecking step purpose latched need).disp .a).latched = latched ∧
        ((zeroChecking step purpose latched need).side .a).state = .starting ∧
        ((zeroChecking step purpose latched need).side .a).sale = some sale ∧ sale.record.number = 7 ∧
        sale.record.side = .a ∧ sale.cap = some cap ∧
        ((zeroChecking step purpose latched need).side .a).needMotors.get .low = need ∧
        (need = false → ∀ p, ((zeroChecking step purpose latched need).side .a).needMotors.get p = false) ∧
        (zeroChecking step purpose latched need).mode.stage = none ∧
        (zeroChecking step purpose latched need).prices.swapDue = false ∧
        ((zeroChecking step purpose latched need).side .b).state ≠ .starting) ∧
      (∀ step purpose ff, ((lampTesting step purpose ff).disp .a).transfer = some ⟨allOn, purpose⟩ ∧
        ((lampTesting step purpose ff).disp .a).goingDark = false ∧
        (lampTesting step purpose ff).display.darkening = false ∧
        ((lampTesting step purpose ff).disp .a).state = .testing ∧
        ((lampTesting step purpose ff).disp .a).lamp = some ⟨step, ff, false⟩ ∧
        ((lampTesting step purpose ff).disp .a).zero = none ∧ (lampTesting step purpose ff).mode.stage ≠ some .lamp ∧
        ((lampTesting step purpose ff).side .a).state.holdsSale = false) ∧
      firstDiff allOn allOn 0 = none ∧ firstDiff allOff allOff 0 = none ∧
      firstDiff allOn (0 :: List.replicate 53 0xFF#8) 0 = some 0 ∧
      firstDiff allOff (List.replicate 53 0 ++ [1]) 0 = some 53 :=
  ⟨fun _ _ _ _ => ⟨rfl, rfl, rfl, rfl, rfl, rfl, rfl, rfl, rfl, rfl, rfl, rfl, rfl,
      fun h p => by subst h; cases p <;> rfl, rfl, rfl, nofun⟩,
    fun _ _ _ => ⟨rfl, rfl, rfl, rfl, rfl, rfl, nofun, rfl⟩, by decide, by decide, by decide, by decide⟩

/-- `showing` with the dark timer run out or not. -/
def darkening (d : DispSide) : State :=
  { showing d with display := { (showing d).display with darkening := true } }

theorem witness_DisplaysAreRetestedAndGoDark :
    ((∀ d, CanTouch (showing d) Folio.siteOrder ∧ (showing d).display.supply = true ∧
        ((showing d).side .a).state.hasFrames = false ∧ ((showing d).disp .a) = d ∧
        (showing d).display.darkening = false ∧ CanTouch (darkening d) Folio.siteOrder ∧
        (darkening d).display.supply = true ∧ ((darkening d).side .a).state.hasFrames = false ∧
        (darkening d).disp .a = d ∧ (darkening d).display.darkening = true) ∧
      Side.ofNumber 0 = none ∧ Side.ofNumber 3 = none ∧ Side.ofNumber 1 = some .a ∧
      (opened.disp .a).state = .dark ∧ ((selling .ended).side .a).state.hasFrames = true ∧
      opened.display.supply = false) ∧
    (∀ d, (showing d).display.darkT = some 0 ∧ (showing d).mode.stage ≠ some .display) ∧
      (∀ sd, (((showing { lit with state := .fault }).disp sd).state = .dark ∨
          ((showing { lit with state := .fault }).disp sd).state = .fault) ∧
        ((showing { lit with state := .fault }).disp sd).goingDark = false) ∧
      lit.state = .lit ∧ lit.transfer = none :=
  ⟨⟨fun _ => ⟨⟨rfl, rfl⟩, rfl, rfl, rfl, rfl, ⟨rfl, rfl⟩, rfl, rfl, rfl, rfl⟩, rfl, rfl, rfl, rfl, rfl, rfl⟩,
    fun _ => ⟨rfl, nofun⟩, fun sd => by cases sd <;> decide, rfl, rfl⟩

theorem witness_MessageSetsTheHostText :
    CanTouch busy (Folio.message .b) ∧ Memory.wf busy.exch.mem = true ∧ ([] : List Byte).length ≤ 240 ∧
      (List.replicate 240 0x41#8).length ≤ 240 :=
  ⟨⟨rfl, rfl⟩, by decide, by decide, by rw [List.length_replicate]⟩

/-- The part warming up in WARM. -/
def warming (st : Option Stage) : State :=
  { inMode .opening st with display := { Display.reset with heater := true, warmT := some 0 } }

theorem witness_TemperatureIsHeld :
    (opened.dormant = false ∧ opened.display.heater = false ∧ (-40 : Int) ≤ -40 ∧ (85 : Int) ≤ 85) ∧
      ((warming (some .warm)).dormant = false ∧ (warming (some .warm)).display.heater = true ∧
        -9 < (warming (some .warm)).exch.config.warmThreshold + 2 ∧
        (warming (some .warm)).exch.config.warmThreshold + 2 ≤ -8) ∧
      State.reset.dormant = true ∧ (-41 : Int) < -40 ∧ (85 : Int) < 86 ∧
      (warming (some .warm)).display.warmT = some 0 ∧ (warming (some .warm)).mode.stage = some .warm := by decide

/-- A frame of a module's class that fits its length is good with the check it was made with, whatever the control
byte's coding is. -/
theorem frame_good (c : FrameClass) (payload : List Byte) (hc : c.fromModule = true) (hp : payload.length ≤ 200) :
    frameGood (partFrame 0 ⟨c, false, false, false, false⟩ payload) = true := by
  have h : payload.length % 256 = payload.length := Nat.mod_eq_of_lt (by omega)
  simp [frameGood, partFrame, Frame.covered, hc, hp, h]

/-- The part with another admission mode. -/
def admitting (m : AdmissionMode) (s : State) : State :=
  { s with exch := { s.exch with config := { s.exch.config with admissionMode := Both.same m } } }

/-- `reading` with a module addressed, in a restart or none. -/
def greeting (g : GateState) (i : ModuleId) (r : Option (RestartOrigin × RestartPhase)) : State :=
  (reading g).setGate .a { (reading g).gate .a with
    restart := r, restartUsed := true, keypad := Module.awaiting true
    addressing := some { mod := i, sent := partFrame 1 ⟨.poll, false, false, false, false⟩ [], isDownlink := false
                         deadline := 0 } }

theorem witness_HelloOpensTheGate :
    (∀ g i r m, ∃ a, ((admitting m (greeting g i r)).gate .a).power = true ∧
        ((admitting m (greeting g i r)).gate .a).addressing = some a ∧ a.mod = i ∧ a.isDownlink = false ∧
        ((admitting m (greeting g i r)).gate .a).receiver ≠ .resync ∧
        (admitting m (greeting g i r)).exch.config.admissionMode.get .a = m ∧
        ((admitting m (greeting g i r)).gate .a).state = g ∧ (admitting m (greeting g i r)).mode.stage ≠ some .readers ∧
        ((admitting m (greeting g i r)).gate .a).restart = r ∧
        scopeOf ((admitting m (greeting g i r)).gate .a).admission.keys (0x12#8 ++ 0x34#8) = .other ∧
        ((admitting m (greeting g i r)).side .a).sale = none) ∧
      frameGood hello = true ∧ hello.control.cls = .hello ∧ hello.payload = [0x12#8, 0x34#8, 0x01#8] :=
  ⟨fun _ _ _ _ => ⟨_, rfl, rfl, rfl, rfl, nofun, rfl, rfl, nofun, rfl, rfl, rfl⟩, frame_good _ _ rfl (by decide), rfl,
    rfl⟩

/-- A frame of one payload byte from a module. -/
def frameOf (c : FrameClass) : Frame := partFrame 0 ⟨c, false, false, false, false⟩ [1#8]

/-- The OPEN gate of `reading` with a module of another status and last toggle, and a queue. -/
def uplinking (m : AdmissionMode) (st : ModStatus) (last : Option (Bool × Judgement)) (q : List UplinkEntry) : State :=
  let s := admitting m (reading .opened)
  s.setGate .a { s.gate .a with
    queue := q, card := { Module.awaiting true with status := some st, lastToggle := last } }

/-- An entry of the uplink queue. -/
def entry : UplinkEntry := ⟨.card, none, .card, false, [1#8], 0⟩

theorem witness_UplinksAreJudged :
    (∀ m st last q, ∃ a, ((uplinking m st last q).gate .a).power = true ∧
        ((uplinking m st last q).gate .a).addressing = some a ∧ a.mod = .card ∧ a.isDownlink = false ∧
        ((uplinking m st last q).gate .a).receiver ≠ .resync ∧ (uplinking m st last q).mode.stage ≠ some .readers ∧
        ((uplinking m st last q).gate .a).card.status = some st ∧
        ((uplinking m st last q).gate .a).card.lastToggle = last ∧ ((uplinking m st last q).gate .a).queue = q ∧
        (uplinking m st last q).exch.config.admissionMode.get .a = m ∧
        (((uplinking m st last q).gate .a).admission.up.get .other).allows .card = false ∧
        ((uplinking m st last q).header (Folio.uplink .a 0)).holder = .part) ∧
      frameGood (frameOf .card) = true ∧ (frameOf .card).control.cls = .card ∧ FrameClass.card.isUplink = true ∧
      (frameOf .card).control.toggle = false ∧ 4 ≤ (List.replicate 4 entry).length ∧
      (∀ i, ((((uplinking .openAll .active none []).setHeader 21
          { opened.header 21 with holder := .host }).setHeader 22 { opened.header 21 with holder := .host }).header
            (Folio.uplink .a i)).holder = .host) :=
  ⟨fun _ _ _ _ => ⟨_, rfl, rfl, rfl, rfl, nofun, nofun, rfl, rfl, rfl, rfl, rfl, rfl⟩, frame_good _ _ rfl (by decide),
    rfl, rfl, rfl, by decide, fun i => by revert i; decide⟩

/-- The OPEN gate with a downlink in flight and addressed. -/
def sending (sends busies : Nat) : State :=
  let s := reading .opened
  s.setGate .a { s.gate .a with
    downlink := some ⟨.card, .prompt, [1#8], false, sends, busies⟩
    addressing := some { mod := .card, sent := partFrame 1 ⟨.prompt, false, false, false, false⟩ [1#8]
                         isDownlink := true, deadline := 0 } }

/-- The gate of `sending` between two cycles, its card and keypad modules in a state. -/
def pausing (sends : Nat) (card keypad : ModStatus) : State :=
  (sending sends 0).setGate .a { (sending sends 0).gate .a with
    addressing := none, pollDue := some 0, card := { Module.awaiting true with status := some card }
    keypad := { Module.awaiting true with status := some keypad } }

/-- The gate of `reading` with a module addressed, the card module in a state, the keypad polled or not. -/
def polling (i : ModuleId) (card keypad : ModStatus) : State :=
  (reading .opened).setGate .a { (reading .opened).gate .a with
    addressing := some { mod := i, sent := partFrame 1 ⟨.poll, false, false, false, false⟩ [], isDownlink := false
                         deadline := 0 }
    card := { Module.awaiting true with status := some card }
    keypad := { Module.awaiting true with status := some keypad } }

theorem witness_PollCyclesBegin :
    (∀ n c k, ((pausing n c k).gate .a).power = true ∧ ((pausing n c k).gate .a).addressing = none ∧
        ((pausing n c k).gate .a).pollDue = some 0 ∧ ((pausing n c k).gate .a).card.status = some c ∧
        ((pausing n c k).gate .a).downlink = some ⟨.card, .prompt, [1#8], false, n, 0⟩) ∧
      (((pausing 0 .active .active).gate .a).card.polled = true ∧ ((pausing 0 .awaiting .shut).gate .a).card.polled = true ∧
        ((pausing 0 .shut .active).gate .a).card.polled = false ∧
        ((pausing 0 .shut .active).gate .a).keypad.polled = true ∧
        ((pausing 0 .shut .absent).gate .a).keypad.polled = false) ∧
      (∀ i c k, ∃ a, ((polling i c k).gate .a).power = true ∧ ((polling i c k).gate .a).addressing = some a ∧
        a.mod = i ∧ a.isDownlink = false ∧ (polling i c k).mode.stage ≠ some .readers ∧ a.deadline = 0 ∧
        ((polling i c k).gate .a).receiver ≠ .resync ∧ ((polling i c k).gate .a).card.status = some c ∧
        ((polling i c k).gate .a).keypad.status = some k) ∧
      (frameGood (frameOf .nothing) = true ∧ (frameOf .nothing).control.cls = .nothing) ∧
      ∃ s : State, (s.gate .a).power = true ∧ (s.gate .a).receiver = .resync :=
  ⟨fun _ _ _ => ⟨rfl, rfl, rfl, rfl, rfl⟩, ⟨rfl, rfl, rfl, rfl, rfl⟩,
    fun _ _ _ => ⟨_, rfl, rfl, rfl, rfl, nofun, rfl, nofun, rfl, rfl⟩, ⟨frame_good _ _ rfl (by decide), rfl⟩,
    opened.setGate .a { GateCtl.reset with power := true }, rfl, rfl⟩

/-- R130: a downlink in flight is sent in place of the POLL, and its send count rises. -/
theorem test_poll_sends_downlink :
    ((after (.pollCycleStart 0 .a) (pausing 0 .active .shut)).gate .a).downlink.map (·.sends) = some 1 ∧
      ((after (.pollCycleStart 0 .a) (pausing 0 .awaiting .shut)).gate .a).downlink.map (·.sends) = some 0 := by decide

theorem witness_DownlinksAreAnswered :
    (∀ n k, ∃ a, ((sending n k).gate .a).power = true ∧ ((sending n k).gate .a).addressing = some a ∧
        a.isDownlink = true ∧ ((sending n k).gate .a).receiver ≠ .resync ∧ ((sending n k).gate .a).state = .opened ∧
        ((sending n k).gate .a).downlink = some ⟨.card, .prompt, [1#8], false, n, k⟩ ∧ a.mod = .card ∧
        ((sending n k).gate .a).card.status = some .active ∧ (sending n k).mode.stage ≠ some .readers ∧
        (sending n k).exch.config.admissionMode.get .a = .openAll ∧ ((sending n k).side .a).sale = none ∧
        (sending n k).exch.config.downlinkRetries = 2) ∧
      (∀ c ∈ [FrameClass.ack, .busy, .nothing, .hello, .tamper, .card], frameGood (frameOf c) = true ∧
        (frameOf c).control.cls = c) ∧ FrameClass.card.isUplink = true ∧
      (frameGood hello = true ∧ hello.control.cls = .hello ∧ ∀ n k,
        scopeOf ((admitting .check (sending n k)).gate .a).admission.keys (helloTag hello.payload) = .other ∧
        (admitting .check (sending n k)).exch.config.admissionMode.get .a = .check ∧
        ((admitting .check (sending n k)).gate .a).downlink = some ⟨.card, .prompt, [1#8], false, n, k⟩ ∧
        ((admitting .check (sending n k)).side .a).sale = none) :=
  ⟨fun _ _ => ⟨_, rfl, rfl, rfl, nofun, rfl, rfl, rfl, rfl, nofun, rfl, rfl, rfl⟩, fun c h =>
    ⟨frame_good _ _ (by revert c; decide) (by decide), rfl⟩, rfl,
    frame_good _ _ rfl (by decide), rfl, fun _ _ => ⟨rfl, rfl, rfl, rfl⟩⟩

/-- The OPEN gate of `reading` with a count of missed answers. -/
def missing (n : Nat) (used : Bool) : State :=
  (reading .opened).setGate .a { (reading .opened).gate .a with
    restartUsed := used, card := { (reading .opened).gate .a |>.card with missed := n } }

theorem witness_MissedAnswersSilenceAModule :
    (∀ n, ∃ a, ((sending n 0).gate .a).power = true ∧ ((sending n 0).gate .a).addressing = some a ∧
      a.deadline ≤ (sending n 0).now + 0 ∧ a.isDownlink = true ∧ ((sending n 0).gate .a).receiver ≠ .resync ∧
      (((sending n 0).gate .a).mod a.mod).status = some .active ∧ (((sending n 0).gate .a).mod a.mod).missed < 2 ∧
      ((sending n 0).gate .a).downlink = some ⟨a.mod, .prompt, [1#8], false, n, 0⟩ ∧
      (sending n 0).mode.stage ≠ some .readers ∧ (sending n 0).exch.config.downlinkRetries = 2) ∧
    ∀ n used, ∃ a, ((missing n used).gate .a).power = true ∧ ((missing n used).gate .a).addressing = some a ∧
      a.deadline ≤ (missing n used).now + 0 ∧ a.isDownlink = false ∧ ((missing n used).gate .a).receiver ≠ .resync ∧
      (((missing n used).gate .a).mod a.mod).status = some .active ∧ (((missing n used).gate .a).mod a.mod).missed = n ∧
      (missing n used).mode.stage = none ∧ ((missing n used).gate .a).restartUsed = used :=
  ⟨fun _ => ⟨_, rfl, rfl, Nat.zero_le _, rfl, nofun, rfl, Nat.zero_lt_two, rfl, nofun, rfl⟩,
    fun _ _ => ⟨_, rfl, rfl, Nat.zero_le _, rfl, nofun, rfl, rfl, rfl, rfl⟩⟩

theorem witness_GateTimersAndTamper :
    ((((reading .starting).gate .a).startT = some 0 ∧ ((reading .starting).gate .a).state = .starting ∧
        (reading .starting).mode.stage ≠ some .readers) ∧
      (((reading .restarting).gate .a).startT = some 0 ∧ ((reading .restarting).gate .a).state = .restarting ∧
        (reading .restarting).mode.stage ≠ some .readers) ∧
      (∃ s : State, (s.gate .a).startT = some 0 ∧ s.mode.stage ≠ some .readers ∧ (s.gate .a).state = .opened ∧
        (s.gate .a).addressing = none) ∧
      ∃ s : State, (s.gate .a).offT = some 0 ∧ (s.gate .a).restart = some (.ordered, .offTime)) ∧
    ((reading .opened).dormant = false ∧ ((reading .opened).gate .a).state ≠ .tripped ∧
        (reading .opened).mode.stage = none) ∧
      ((reading .tripped).dormant = false ∧ ((reading .tripped).gate .a).state = .tripped ∧
        (reading .tripped).mode.stage ≠ some .readers) ∧ State.reset.dormant = true :=
  ⟨⟨⟨rfl, rfl, by decide⟩, ⟨rfl, rfl, by decide⟩,
      ⟨(reading .opened).setGate .a { (reading .opened).gate .a with addressing := none }, rfl, by decide, rfl, rfl⟩,
      (reading .restarting).setGate .a { (reading .restarting).gate .a with restart := some (.ordered, .offTime) }, rfl,
      rfl⟩, by decide, by decide, rfl⟩

theorem witness_ReadersAreClearedAndRestarted :
    (∀ st, CanTouch (reading st) Folio.siteOrder ∧ ((reading st).gate .a).state = st ∧
        (reading st).mode.mode = .openMode ∧ (reading st).mode.stage = none ∧
        ((reading st).gate .a).tamper = false) ∧
      Side.ofNumber 0 = none ∧ Side.ofNumber 3 = none ∧ Side.ofNumber 1 = some .a ∧
      (CanTouch (inMode .closed none) Folio.siteOrder ∧ (inMode .closed none).mode.mode ≠ .openMode) ∧
      ∃ s : State, CanTouch s Folio.siteOrder ∧ s.mode.mode = .openMode ∧ (s.gate .a).state = .off ∧
        (s.gate .a).tamper = true :=
  ⟨fun _ => ⟨⟨rfl, rfl⟩, rfl, rfl, rfl, rfl⟩, rfl, rfl, rfl, ⟨⟨rfl, rfl⟩, by decide⟩,
    opened.setGate .a { GateCtl.reset with tamper := true }, ⟨rfl, rfl⟩, rfl, rfl, rfl⟩

theorem witness_DownlinkIsLaunched :
    (∀ st, CanTouch (reading st) (Folio.downlink .a) ∧ ((reading st).gate .a).target 3 = none ∧
        ((reading st).gate .a).target 1 = some .card ∧ ((reading st).gate .a).target 2 = some .keypad ∧
        ((reading st).gate .a).card.status = some .active ∧
        ((reading st).gate .a).keypad.status ≠ some .active ∧
        ((reading st).gate .a).state = st ∧ (reading st).exch.config.admissionMode.get .a = .openAll) ∧
      (List.replicate 201 (0 : Byte)).length ≤ 237 ∧ ¬ (List.replicate 201 (0 : Byte)).length ≤ 200 ∧
      (List.replicate 200 (0 : Byte)).length ≤ 200 := by
  simp only [List.length_replicate]
  exact ⟨fun _ => ⟨⟨rfl, rfl⟩, rfl, rfl, rfl, rfl, nofun, rfl, rfl⟩, by decide, by decide, by decide⟩

/-- The host holds REPORT A and both of side A's UPLINK folios. -/
def returning (r : Records) (q : List UplinkEntry) : State :=
  let s := (opened.setHeader 17 { opened.header 17 with holder := .host, len := 240 }).setRecords .a r
  let s := (s.setHeader 21 { s.header 21 with holder := .host }).setHeader 22 { s.header 22 with holder := .host }
  s.setGate .a { s.gate .a with queue := q }

theorem witness_ReturnedFoliosTakeTheNext :
    ∀ r q, CanTouch (returning r q) (Folio.report .a) ∧
      ((returning r q).header (Folio.report .a)).len.toNat ≤ 240 ∧ (returning r q).records .a = r ∧
      (returning r q).mode.mode ≠ .holdup ∧ CanTouch (returning r q) (Folio.uplink .a 0) ∧
      ((returning r q).header (Folio.uplink .a 0)).len.toNat ≤ 240 ∧ ((returning r q).gate .a).queue = q ∧
      (∀ j : Fin 2, j ≠ 0 → ((returning r q).header (Folio.uplink .a j)).holder = .host) :=
  fun _ _ => ⟨⟨rfl, rfl⟩, Nat.le_refl 240, rfl, nofun, ⟨rfl, rfl⟩, Nat.zero_le 240, rfl, fun j h => by
    match j, h with
    | 1, _ => rfl⟩

/-- A part with a watch on meter 1's total, whose next cycle of 1024 comes. -/
def watching (threshold : Nat) (armed : Bool) : State :=
  let s := turning 3 0 none
  { s with
    store := { s.store with watches := (s.store.watches).set 2 ⟨.meter m1, threshold, armed⟩ }
    pfe := { s.pfe with stray := Both.same ⟨0, true⟩, nightFlag := true } }

theorem witness_WatchesAreSetAndFire :
    (CanTouch opened Folio.watch ∧
      opened.firstBadWatch #v[⟨0, 0, 0⟩, ⟨0, 0, 0⟩, ⟨0, 0, 0⟩, ⟨1, 1, 0⟩] = some (3, .alreadyPast) ∧
      opened.firstBadWatch #v[⟨0, 0, 0⟩, ⟨1, 38, 1⟩, ⟨2, 0, 0⟩, ⟨1, 6, 1⟩] = none ∧ totalOf 38 = some (.money 5)) ∧
      (∀ n b, CompletesForward (watching n b) 0 m1 .b ∧ ((watching n b).chan m1).back = 0 ∧
        KeepsSpeed (watching n b) 0 m1 ∧ ((watching n b).chan m1).attached = none ∧
        ((watching n b).pfe.stray.get m1.side).reported = true ∧ (watching n b).pfe.nightFlag = true ∧
        ((watching n b).store.watches.get 2) = ⟨.meter m1, n, b⟩ ∧
        satAdd64 (PerMeter.get (watching n b).store.totals.meter m1) ((watching n b).chan m1).cf = 1024) ∧
      (⟨.meter m1, 1024, true⟩ : Watch).fires (.meter m1) 0 1024 ∧
      ¬ (⟨.meter m1, 1025, true⟩ : Watch).fires (.meter m1) 0 1024 ∧
      ∀ j : Fin 4, j ≠ 2 → ¬ ((watching 1024 true).store.watches.get j).fires (.meter m1) 0 1024 := by
  refine ⟨⟨⟨rfl, rfl⟩, by decide, by decide, by decide⟩,
    fun _ _ => ⟨⟨rfl, rfl, Nat.le_of_ble_eq_true rfl, rfl, rfl⟩, rfl, .inr (.inl (Nat.le_of_ble_eq_true rfl)), rfl, rfl,
      rfl, rfl, (by decide : satAdd64 0 1024 = 1024)⟩,
    ⟨rfl, rfl, by decide, by decide⟩, fun h => absurd h.2.2.2 (by decide), fun j hj h => ?_⟩
  revert h; revert hj; revert j; simp only [Watch.fires]; decide

/-- R142: the cycle that takes meter 1's total to the threshold disarms the watch and raises WATCH. -/
theorem test_watch_fires :
    ((after (.pulserEdge 0 m1 .b) (watching 1024 true)).store.watches.get 2).armed = false ∧
      ((after (.pulserEdge 0 m1 .b) (watching 1025 true)).store.watches.get 2).armed = true := by decide

theorem witness_SettingsAreReplaced :
    CanTouch opened Folio.admission ∧ CanTouch opened Folio.schedule ∧
      firstBadDay #v[(0, 0), (0, 0), (0, 0), (0, 0), (0, 0), (0, 0), (5, 4)] = some 6 ∧
      firstBadDay (Vector.replicate 7 (86399, 86399)) = none ∧ CanTouch opened Folio.config ∧
      Memory.wf opened.exch.mem = true ∧ 46 ≤ (List.replicate 46 (0 : Byte)).length ∧
      (List.replicate 46 (0 : Byte)).length ≤ 240 ∧ (List.replicate 45 (0 : Byte)).length < 46 := by
  simp only [List.length_replicate]
  exact ⟨⟨rfl, rfl⟩, ⟨rfl, rfl⟩, by decide, by decide, ⟨rfl, rfl⟩, by decide, by decide, by decide, by decide⟩

/-- The journal is not empty and its periodic timer has run out, with no write in flight. -/
def quiet : State :=
  { opened with journal := { opened.journal with empty := false, periodicT := some 0 } }

theorem witness_JournalWrites :
    (quiet.journal.phase = .normal ∧ quiet.journal.periodicT = some 0 ∧ quiet.journal.empty = false ∧
        quiet.journal.inFlight = none) ∧
      (writing opened).journal.phase = .normal ∧ (writing opened).journal.periodicT = some 0 ∧
      (writing opened).journal.empty = false ∧ (writing opened).journal.inFlight = some ⟨0, 1, snap, false⟩ ∧
      (writing opened).journal.request = false ∧ (writing opened).journal.calWait = .idle ∧
      (writing opened).journal.initWait = .idle ∧ (writing opened).journal.closeWait = .idle ∧
      ((⟨0, 1, snap, false⟩ : Write).readBack crcDamage).kind ≠ .valid :=
  ⟨⟨rfl, rfl, rfl, rfl⟩, rfl, rfl, rfl, rfl, rfl, rfl, rfl, rfl, Write.readBack_crcDamage _⟩

/-- A write in flight in a phase of the journal, in a mode. -/
def ending (m : Mode) (p : JPhase) : State :=
  let s := writing (inMode m none)
  { s with journal := { s.journal with phase := p } }

theorem firstSlot_newest :
    newestSlot ((ending .cold .resetWriting).journal.slots.set 0 (Slot.written 1 snap)) = some (0, 1, snap) := by
  have blank : ∀ best i, ((ending .cold .resetWriting).journal.slots.set 0 (Slot.written 1 snap)).get i = ⟨[], none⟩ →
      betterSlot ((ending .cold .resetWriting).journal.slots.set 0 (Slot.written 1 snap)) best i = best := by
    intro best i h
    simp [betterSlot, h, Slot.kind]
  have first :
      betterSlot ((ending .cold .resetWriting).journal.slots.set 0 (Slot.written 1 snap)) none 0 = some (0, 1, snap) := by
    have h : ((ending .cold .resetWriting).journal.slots.set 0 (Slot.written 1 snap)).get 0 = Slot.written 1 snap := rfl
    simp [betterSlot, h]
  change [0, 1, 2, 3, 4, 5, 6, 7, 8, 9, 10, 11, 12, 13, 14, 15].foldl (betterSlot _) none = _
  simp only [List.foldl_cons, List.foldl_nil]
  rw [first, blank _ 1 rfl, blank _ 2 rfl, blank _ 3 rfl, blank _ 4 rfl, blank _ 5 rfl, blank _ 6 rfl,
    blank _ 7 rfl, blank _ 8 rfl, blank _ 9 rfl, blank _ 10 rfl, blank _ 11 rfl, blank _ 12 rfl, blank _ 13 rfl,
    blank _ 14 rfl, blank _ 15 rfl]

theorem witness_JournalPhasesEnd :
    (∀ m p, (ending m p).journal.inFlight = some ⟨0, 1, snap, false⟩ ∧ (ending m p).journal.phase = p ∧
        (ending m p).journal.empty = false ∧ (ending m p).mode.mode = m ∧ (ending m p).mode.cleared = false ∧
        (ending m p).mode.clockUnset = true ∧
        (ending m p).journal.slots.set 0 ((⟨0, 1, snap, false⟩ : Write).readBack []) =
          (ending m p).journal.slots.set 0 (Slot.written 1 snap)) ∧
      (∃ s : State, s.journal.phase = .fresh ∧ s.journal.inFlight.isSome = true ∧ s.mode.clockUnset = false ∧
        s.mode.openNow = true) ∧
      (Slot.written 1 snap).kind = .valid ∧ ((⟨0, 1, snap, false⟩ : Write).readBack crcDamage).kind ≠ .valid ∧
      (∃ i seq q, newestSlot ((ending .cold .resetWriting).journal.slots.set 0 (Slot.written 1 snap)) =
        some (i, seq, q)) ∧
      opened.journal.inFlight = none ∧ (heldUp .done false).journal.phase = .done ∧
      ∃ s : State, s.journal.phase = .done ∧ s.journal.inFlight = none :=
  ⟨fun _ _ => ⟨rfl, rfl, rfl, rfl, rfl, rfl, rfl⟩,
    ⟨{ ending .cold .fresh with mode := { ModeCtl.reset with clockUnset := false, schedule := .alwaysOpen } }, rfl, rfl,
      rfl, rfl⟩,
    Slot.written_kind 1 snap, Write.readBack_crcDamage _, ⟨0, 1, snap, firstSlot_newest⟩, rfl, rfl,
    { opened with journal := { opened.journal with phase := .done } }, rfl, rfl⟩

/-- CLOSED with the switch closed and no factor set. -/
def unset : State :=
  { inMode .closed none with journal := { Journal.reset with switchClosed := true } }

theorem witness_SwitchAndJournalInit :
    (opened.mode.mode ≠ .holdup ∧ opened.journal.switchClosed ≠ true ∧ opened.journal.switchClosed = false ∧
        (inMode .holdup none).mode.mode = .holdup) ∧
      (CanTouch opened Folio.siteOrder ∧ opened.journal.switchClosed = false) ∧
      (CanTouch (sealed opened) Folio.siteOrder ∧ (sealed opened).journal.switchClosed = true ∧
        (sealed opened).mode.mode ≠ .closed) ∧
      (CanTouch unset Folio.siteOrder ∧ unset.journal.switchClosed = true ∧ unset.mode.mode = .closed ∧
        firstUnset unset.journal.master = some m1) ∧
      CanTouch (sealed (inMode .closed none)) Folio.siteOrder ∧
      (sealed (inMode .closed none)).journal.switchClosed = true ∧
      (sealed (inMode .closed none)).mode.mode = .closed ∧
      firstUnset (sealed (inMode .closed none)).journal.master = none ∧
      (sealed (inMode .closed none)).journal.inFlight = none ∧
      (CanTouch (writing (sealed (inMode .closed none))) Folio.siteOrder ∧
        (writing (sealed (inMode .closed none))).journal.inFlight.isSome = true ∧
        (writing (sealed (inMode .closed none))).mode.mode = .closed ∧
        firstUnset (writing (sealed (inMode .closed none))).journal.master = none) :=
  ⟨⟨by decide, by decide, rfl, rfl⟩, ⟨⟨rfl, rfl⟩, rfl⟩, ⟨⟨rfl, rfl⟩, rfl, by decide⟩,
    ⟨⟨rfl, rfl⟩, rfl, rfl, by decide⟩, ⟨rfl, rfl⟩, rfl, rfl, by decide, rfl, ⟨rfl, rfl⟩, rfl, rfl, by decide⟩

/-- One SET for meter 6, one sixteenth above or further. -/
def calSix (cf : Nat) : CalReq := PerMeter.set (PerMeter.same CalEntry.leave) ⟨.b, .aux⟩ (.set cf)

theorem witness_CalibrationIsApplied :
    (CanTouch opened Folio.calibration ∧ opened.journal.switchClosed = false) ∧
      CanTouch (sealed opened) Folio.calibration ∧ (sealed opened).journal.switchClosed = true ∧
      (sealed opened).firstBadCal (calSix 1701) = some (⟨.b, .aux⟩, .outOfStep) ∧
      (sealed opened).firstBadCal (calSix 1700) = none ∧
      (∃ m cf, PerMeter.get (calSix 1700) m = .set cf) ∧
      (∀ m, PerMeter.get (PerMeter.same CalEntry.leave) m = .leave) :=
  ⟨⟨⟨rfl, rfl⟩, rfl⟩, ⟨rfl, rfl⟩, rfl, by decide, by decide, ⟨⟨.b, .aux⟩, _, rfl⟩, fun m => by
    rcases m with ⟨sd, p⟩; cases sd <;> cases p <;> rfl⟩

/-- A store with one VALID slot. -/
def oneSlot : State :=
  { opened with journal := { Journal.reset with
      slots := (Vector.replicate 16 ⟨[], none⟩).set 15 (Slot.written 5 snap) } }

theorem oneSlot_newest : newestSlot oneSlot.journal.slots = some (15, 5, snap) := by
  have blank : ∀ best i, oneSlot.journal.slots.get i = ⟨[], none⟩ → betterSlot oneSlot.journal.slots best i = best := by
    intro best i h
    simp [betterSlot, h, Slot.kind]
  have last : betterSlot oneSlot.journal.slots none 15 = some (15, 5, snap) := by
    have h : oneSlot.journal.slots.get 15 = Slot.written 5 snap := rfl
    simp [betterSlot, h]
  change [0, 1, 2, 3, 4, 5, 6, 7, 8, 9, 10, 11, 12, 13, 14, 15].foldl (betterSlot oneSlot.journal.slots) none = _
  simp only [List.foldl_cons, List.foldl_nil]
  rw [blank _ 0 rfl, blank _ 1 rfl, blank _ 2 rfl, blank _ 3 rfl, blank _ 4 rfl, blank _ 5 rfl, blank _ 6 rfl,
    blank _ 7 rfl, blank _ 8 rfl, blank _ 9 rfl, blank _ 10 rfl, blank _ 11 rfl, blank _ 12 rfl, blank _ 13 rfl,
    blank _ 14 rfl, last]

theorem witness_PowerOnRecovers :
    (pinsAtReset.warning = false ∧
        newestSlot (decaySlots (slotsAfterCut State.reset.journal 7) [(0, []), (15, [])]) = none) ∧
      newestSlot (decaySlots (slotsAfterCut oneSlot.journal 7) []) = some (15, 5, snap) ∧
      ({ pinsAtReset with warning := true } : Pins).warning = true :=
  ⟨⟨rfl, by decide⟩, oneSlot_newest, rfl⟩

theorem witness_HostResetStopsThePart :
    ((writing opened).exch.ready = true ∧ (writing opened).mode.mode ≠ .holdup ∧
        (writing opened).journal.inFlight = some ⟨0, 1, snap, false⟩) ∧
      State.reset.exch.ready = false ∧ (inMode .holdup none).mode.mode = .holdup :=
  ⟨⟨rfl, by decide, rfl⟩, rfl, rfl⟩

theorem witness_WarningBringsHoldup :
    ((writing opened).mode.mode ≠ .holdup ∧ (writing opened).journal.inFlight = some ⟨0, 1, snap, false⟩) ∧
      (quiet.mode.mode ≠ .holdup ∧ quiet.journal.phase = .normal ∧ quiet.journal.inFlight = none ∧
        quiet.journal.empty = false) ∧
      (∀ p w, (heldUp p w).mode.mode = .holdup ∧ (heldUp p w).mode.warning = w ∧
        (heldUp p w).mode.clearT = some 0 ∧ (heldUp p w).journal.phase = p ∧
        newestSlot (heldUp p w).journal.slots = none ∧ Memory.wf (heldUp p w).exch.mem = true) :=
  ⟨⟨by decide, rfl⟩, ⟨by decide, rfl, rfl, rfl⟩, fun _ _ => ⟨rfl, rfl, rfl, rfl, rfl, rfl⟩⟩

/-- Monday, a second of day, the dispenser open from second 5 to second 6 of every day, side A in a state. -/
def ticking (m : Mode) (second : Nat) (st : SideState) : State :=
  { selling st with mode := { ModeCtl.reset with
      mode := m, clockUnset := false, clock := ⟨0, second⟩, schedule := .entries (Vector.replicate 7 (5, 6)) } }

theorem witness_ClockMoves :
    opened.mode.clockUnset = true ∧
      (∃ s : State, s.mode.clockUnset = false ∧ s.prices.staged = none ∧ s.mode.schedule = .alwaysOpen) ∧
      (∀ m n st, (ticking m n st).mode.clockUnset = false ∧ (ticking m n st).prices.staged = none ∧
        (ticking m n st).mode.schedule = .entries (Vector.replicate 7 (5, 6)) ∧ (ticking m n st).mode.mode = m) ∧
      (daySchedule (Vector.replicate 7 (5, 6)) 0 = (5, 6) ∧ daySchedule (Vector.replicate 7 (6, 6)) 0 = (6, 6)) ∧
      (∀ m st, (ticking m 4 st).mode.clock.tick = ⟨0, 5⟩ ∧ (ticking m 5 st).mode.clock.tick = ⟨0, 6⟩ ∧
        (ticking m 6 st).mode.clock.tick = ⟨0, 7⟩) ∧
      ((∀ sd, ((ticking .openMode 5 .flowing).side sd).state ≠ .authorized) ∧
        ∃ sd, ((ticking .openMode 5 .flowing).side sd).state.holdsSale = true) ∧
      CanTouch opened Folio.siteOrder ∧ 6 < 7 ∧ 86399 < 86400 ∧ 6 ≤ 6 ∧ 86399 ≤ 86399 :=
  ⟨rfl, ⟨{ clocked opened with mode := { (clocked opened).mode with schedule := .alwaysOpen } }, rfl, rfl, rfl⟩,
    fun _ _ _ => ⟨rfl, rfl, rfl, rfl⟩, ⟨rfl, rfl⟩, fun _ _ => ⟨rfl, rfl, rfl⟩,
    ⟨fun sd => by cases sd <;> decide, .a, rfl⟩, ⟨rfl, rfl⟩, by decide, by decide, by decide, by decide⟩

theorem witness_OpenAndClose :
    (∀ m st, CanTouch (inMode m st) Folio.siteOrder ∧ (inMode m st).mode.mode = m) ∧
      CanTouch (selling .flowing) Folio.siteOrder ∧ (selling .flowing).mode.mode = .openMode ∧
      (∀ sd, ((selling .flowing).side sd).state ≠ .authorized) ∧
      (∃ sd, ((selling .flowing).side sd).state.holdsSale = true) :=
  ⟨fun _ _ => ⟨⟨rfl, rfl⟩, rfl⟩, ⟨rfl, rfl⟩, rfl, fun sd => by cases sd <;> decide, .a, rfl⟩

/-- The WAKE stage with the journal written, every master factor the same and a temperature read or not. -/
def waking (cf : Option Nat) (temp : Option Int) : State :=
  { inMode .opening (some .wake) with
    journal := { Journal.reset with empty := false, master := PerMeter.same cf }
    display := { Display.reset with temperature := temp } }

/-- DRAIN with a sale on side A. -/
def draining (st : SideState) : State := { selling st with mode := (inMode .closing (some .drain)).mode }

/-- MOTORS_OFF with HIGH running down. -/
def stopping : State :=
  (inMode .closing (some .motorsOff)).setMotor .high { Motor.reset with state := .rundown, contactor := true }

/-- MOTORS_OFF with AUX running down as its turn comes, the dark timer running or not, with a DARK_DELAY. -/
def lastStop (dark : Timer) (delay : Nat) : State :=
  let s := (inMode .closing (some .motorsOff)).setMotor .aux { Motor.reset with state := .rundown, contactor := true }
  { s with
    mode := { s.mode with spacingNext := some .aux }
    display := { Display.reset with supply := true, darkT := dark }
    exch := { s.exch with config := { Settings.default with darkDelay := delay } } }

theorem witness_StageTimersExpire :
    ((inMode .opening (some .wake)).mode.stage = some .wake ∧ (inMode .opening (some .wake)).mode.wakeT = some 0 ∧
        (inMode .opening (some .wake)).journal.empty = true) ∧
      (∀ cf temp, (waking cf temp).mode.stage = some .wake ∧ (waking cf temp).mode.wakeT = some 0 ∧
        (waking cf temp).journal.empty = false ∧ (∀ m, PerMeter.get (waking cf temp).journal.master m = cf) ∧
        (waking cf temp).display.temperature = temp ∧ (waking cf temp).exch.config.warmThreshold = -10 ∧
        (∀ g, Machine.mapped (waking cf temp).prices.maps g = false) ∧
        Machine.mapped (mapped (waking cf temp) 0).prices.maps 0 = true ∧
        (mapped (waking cf temp) 0).prices.active.get 0 = 0) ∧
      (∀ st, (draining st).mode.stage = some .drain ∧ (draining st).mode.graceT = some 0 ∧
        ((draining st).side .a).state = st ∧ ((draining st).side .a).sale = some sale) ∧
      stopping.mode.stage = some .motorsOff ∧ stopping.mode.spacingT = some 0 ∧
      stopping.mode.spacingNext = some .high ∧ (stopping.motor .high).state.confirmed = true ∧
      NoneLeavesStarting stopping ∧
      ∀ dark delay, (lastStop dark delay).mode.stage = some .motorsOff ∧ (lastStop dark delay).mode.spacingT = some 0 ∧
        (lastStop dark delay).mode.spacingNext = some .aux ∧
        ((lastStop dark delay).motor .aux).state.confirmed = true ∧ NoneLeavesStarting (lastStop dark delay) ∧
        (lastStop dark delay).display.darkening = false ∧
        (∀ sd, ((lastStop dark delay).disp sd).state ≠ .testing ∧ ((lastStop dark delay).disp sd).lamp = none) ∧
        (lastStop dark delay).display.darkT = dark ∧ (lastStop dark delay).exch.config.darkDelay = delay :=
  ⟨⟨rfl, rfl, rfl⟩, fun _ _ => ⟨rfl, rfl, rfl, fun m => by rcases m with ⟨sd, p⟩; cases sd <;> cases p <;> rfl, rfl, rfl,
      fun g => by change Machine.mapped opened.prices.maps g = false; revert g; decide,
      by change Machine.mapped (mapped opened 0).prices.maps 0 = true; decide, rfl⟩,
    fun _ => ⟨rfl, rfl, rfl, rfl⟩, rfl, rfl, rfl, rfl, ⟨fun sd => by cases sd <;> decide, by decide⟩,
    fun _ _ => ⟨rfl, rfl, rfl, rfl, ⟨fun sd => by cases sd <;> rfl, nofun⟩, rfl,
      fun sd => by cases sd <;> exact ⟨nofun, rfl⟩, rfl, rfl⟩⟩

/-- R173: AUX's stop asks the displays to go dark. -/
theorem test_motorSpacing_aux :
    (after (.motorSpacing 0) (lastStop none 60)).mode.stage = some .display ∧
      (after (.motorSpacing 0) (lastStop none 60)).display.darkT = some 60000000 := by decide

/-- LAMP with side A's lamp test in a transfer, side B awaited too or not, grade 1 mapped to side A's nozzle 1, which is
lifted, and motor LOW in a state. -/
def lamping (step : LampStep) (purpose : Purpose) (other : Bool) (st : MotorState) : State :=
  let s := ((mapped (lampTesting step purpose true) 1000).setMotor .low ((pumping st false).motor .low)).setSide .a
    { SideCtl.reset with nozzles := onlyUp 0 }
  { s with mode := { (inMode .opening (some .lamp)).mode with lampAwait := ⟨true, other⟩ } }

/-- PRIME with motor LOW in a state and PRIME its user, registered with LOW and HIGH, HIGH awaited too or not. -/
def priming (st : MotorState) (other : Bool) : State :=
  let s := opened.setMotor .low { (pumping st false).motor .low with users := ⟨false, false, true⟩ }
  { s with mode := { (inMode .opening (some .prime)).mode with
      primeReg := ⟨true, true, false⟩, primeWait := ⟨true, other, false⟩ } }

/-- READERS with side A's gate in a state, its card module addressed, side B's awaited or not. -/
def awaiting (g : GateState) (other : Bool) : State :=
  { greeting g .card none with
    mode := { (inMode .opening (some .readers)).mode with readersAwait := ⟨true, other⟩ }
    sides := ⟨{ SideCtl.reset with nozzles := onlyUp 2 }, SideCtl.reset⟩ }

theorem needed_low (step : LampStep) (purpose : Purpose) (other : Bool) (st : MotorState) (p : Product) :
    Needed (lamping step purpose other st) p ↔ p = .low := by
  have h : ∀ g : Fin 6, ((lamping step purpose other st).prices.grades.get g).comp.uses p = decide (p = .low) := by
    change ∀ g : Fin 6, (opened.prices.grades.get g).comp.uses p = decide (p = .low)
    cases p <;> decide
  exact ⟨fun ⟨g, _, hg⟩ => of_decide_eq_true ((h g).symm.trans hg), fun hp => ⟨0, rfl, by rw [h, hp]; rfl⟩⟩

theorem witness_OpeningReachesOpen :
    (∀ step purpose other st, (lamping step purpose other st).mode.stage = some .lamp ∧
        ((lamping step purpose other st).disp .a).state = .testing ∧
        ((lamping step purpose other st).disp .a).transfer = some ⟨allOn, purpose⟩ ∧
        ((lamping step purpose other st).disp .a).lamp = some ⟨step, true, false⟩ ∧
        ((lamping step purpose other st).disp .a).zero = none ∧
        ((lamping step purpose other st).disp .a).goingDark = false ∧
        (lamping step purpose other st).display.darkening = false ∧
        ((lamping step purpose other st).side .a).state.holdsSale = false ∧
        (lamping step purpose other st).mode.lampAwait = ⟨true, other⟩ ∧
        (∀ p, Needed (lamping step purpose other st) p → ((lamping step purpose other st).motor p).state = st ∧
          (lamping step purpose other st).pins.pressureOk.get p = false) ∧
        Needed (lamping step purpose other st) .low) ∧
      (firstDiff allOff allOff 0 = none ∧ firstDiff allOn allOff 0 = some 0 ∧ firstDiff allOff allOn 0 = some 0) ∧
      (∀ st other, (priming st other).mode.stage = some .prime ∧ ((priming st other).motor .low).state = st ∧
        ((priming st other).motor .low).users.prime = true ∧ (priming st other).mode.primeReg.get .low = true ∧
        Product.low ∉ (priming st other).motors.fifo ∧ (priming st other).pins.pressureOk.get .high = false ∧
        (∀ sd, ((priming st other).side sd).state ≠ .authorized ∧ ((priming st other).side sd).state ≠ .starting) ∧
        (∀ q, q ≠ Product.low → (priming st other).mode.primeWait.get q = true → q = .high ∧ other = true) ∧
        (priming st true).mode.primeWait.get .high = true) ∧
      (∀ other, FailsNow (.pressureTimeout 0 .low) (priming .starting other) 0 .low ∧
        FailsNow (.pressureLost 0 .low) (priming .running other) 0 .low) ∧
      (∀ g other, ∃ a, (awaiting g other).mode.stage = some .readers ∧
        (awaiting g other).mode.readersAwait = ⟨true, other⟩ ∧ ((awaiting g other).gate .a).state = g ∧
        ((awaiting g other).gate .a).power = true ∧ ((awaiting g other).gate .a).addressing = some a ∧
        a.mod = .card ∧ a.isDownlink = false ∧ ((awaiting g other).gate .a).receiver ≠ .resync ∧
        (awaiting g other).exch.config.admissionMode.get .a ≠ .check ∧
        ((awaiting g other).gate .a).startT = some 0 ∧ ¬ GateSettled (awaiting g other) .b) ∧
      frameGood hello = true ∧ hello.control.cls = .hello :=
  ⟨fun step purpose other st => ⟨rfl, rfl, rfl, rfl, rfl, rfl, rfl, rfl, rfl,
      fun p hp => (needed_low step purpose other st p).1 hp ▸ ⟨rfl, rfl⟩, (needed_low step purpose other st .low).2 rfl⟩,
    by decide,
    fun _ _ => ⟨rfl, rfl, rfl, rfl, nofun, rfl, fun sd => by cases sd <;> exact ⟨nofun, nofun⟩,
      fun q => by cases q <;> simp [priming, PerProduct.get], rfl⟩,
    fun _ => ⟨⟨0, Nat.zero_le _, .inl ⟨rfl, rfl, rfl⟩⟩, ⟨0, Nat.zero_le _, .inr ⟨rfl, rfl, rfl⟩⟩⟩,
    fun _ _ => ⟨_, rfl, rfl, rfl, rfl, rfl, rfl, rfl, nofun, nofun, rfl, fun h => by cases h <;> contradiction⟩,
    frame_good _ _ rfl (by decide), rfl⟩

/-- R170, R45: the HELLO of the last gate opens the dispenser, and the side with a lifted nozzle calls. -/
theorem test_opening_ends :
    let t := after (.readerStartTimeout 0 .a) (awaiting .starting false)
    t.mode.mode = .openMode ∧ t.mode.outcome.gates.get .a = true ∧ (t.side .a).state = .calling ∧
      (t.side .b).state = .idle := by decide

/-- DRAIN with side A's sale in ENDING, side B awaited too or not. -/
def drained (other : Bool) : State :=
  { selling .ending with mode := { (inMode .closing (some .drain)).mode with drainAwait := ⟨true, other⟩ } }

/-- DISPLAY with both sides dark or in FAULT, a write in flight or not. -/
def darkest (s : State) : State :=
  { s with
    mode := (inMode .closing (some .display)).mode
    display := { Display.reset with supply := true, darkT := some 0 } }

/-- DISPLAY with side A's last blanking transfer. -/
def lastBlank : State :=
  { darkening { lit with goingDark := true, transfer := some ⟨allOff, .blank⟩ } with
    mode := (inMode .closing (some .display)).mode }

/-- SNAPSHOT with a write in flight, the snapshot it asked for in it or still to begin, side A in a state. -/
def saving (w : WriteWait) (request : Bool) (st : SideState) : State :=
  let s := writing (inMode .closing (some .snapshot))
  { s with
    journal := { s.journal with closeWait := w, request := request }
    sides := ⟨{ SideCtl.reset with state := st }, SideCtl.reset⟩ }

theorem witness_ClosingReachesClosed :
    (∀ other, (drained other).mode.mode = .closing ∧ (drained other).mode.stage = some .drain ∧
        ((drained other).side .a).state = .ending ∧ ((drained other).side .a).sale = some sale ∧ sale.cap = some cap ∧
        sale.record.side = .a ∧ ((drained other).side .a).settleT = some 0 ∧ (drained other).prices.swapDue = false ∧
        ((drained other).side .b).state ≠ .starting ∧ (drained other).mode.drainAwait.get .b = other ∧
        (drained other).motors.fifo = []) ∧
      (CanTouch opened Folio.siteOrder ∧ opened.mode.mode = .openMode ∧
        (∀ sd, (opened.side sd).state.holdsSale = false) ∧ opened.motors.fifo = []) ∧
      (∀ s, (darkest s).mode.stage = some .display ∧ (darkest s).display.darkT = some 0 ∧
        ∀ sd, ((darkest s).disp sd).state = .dark ∧ ((darkest s).disp sd).goingDark = false) ∧
      ((darkest quiet).journal.phase = .normal ∧ (darkest quiet).journal.empty = false ∧
        (darkest quiet).journal.inFlight = none ∧ (darkest (writing opened)).journal.phase = .normal ∧
        (darkest (writing opened)).journal.empty = false ∧ (darkest (writing opened)).journal.inFlight.isSome = true) ∧
      (lastBlank.mode.stage = some .display ∧ lastBlank.display.darkening = true ∧
        (lastBlank.disp .a).transfer = some ⟨allOff, .blank⟩ ∧ (lastBlank.disp .a).goingDark = true ∧
        (lastBlank.disp .a).state ≠ .dark ∧ (lastBlank.disp .a).lamp = none ∧
        (lastBlank.disp .b).goingDark = false) ∧
      (∀ w request st, (saving w request st).mode.stage = some .snapshot ∧ (saving w request st).journal.phase = .normal ∧
        (saving w request st).journal.inFlight = some ⟨0, 1, snap, false⟩ ∧ (saving w request st).journal.closeWait = w ∧
        (saving w request st).journal.request = request ∧ ((saving w request st).side .a).state = st ∧
        ((saving w request st).side .b).state ≠ .authorized) ∧
      (((⟨0, 1, snap, false⟩ : Write).readBack []).kind = .valid ∧
        ((⟨0, 1, snap, false⟩ : Write).readBack crcDamage).kind ≠ .valid) :=
  ⟨fun _ => ⟨rfl, rfl, rfl, rfl, rfl, rfl, rfl, rfl, nofun, rfl, rfl⟩,
    ⟨⟨rfl, rfl⟩, rfl, fun sd => by cases sd <;> rfl, rfl⟩,
    fun _ => ⟨rfl, rfl, fun sd => by cases sd <;> exact ⟨rfl, rfl⟩⟩, ⟨rfl, rfl, rfl, rfl, rfl, rfl⟩,
    ⟨rfl, rfl, rfl, rfl, nofun, rfl, rfl⟩, fun _ _ _ => ⟨rfl, rfl, rfl, rfl, rfl, rfl, nofun⟩,
    Slot.written_kind 1 snap, Write.readBack_crcDamage _⟩

theorem witness_TheLinkReadsAndWrites :
    (6912#16).toNat < 8192 ∧ 6912 ≤ (6912#16).toNat ∧ (8191#16).toNat < 8192 ∧ 8192 ≤ (8192#16).toNat ∧
      (6911#16).toNat / 256 < 27 ∧ (0#16).toNat / 256 < 27 ∧ Folio.posted 6 = true ∧ Folio.posted 7 = false ∧
      (opened.header 17).holder = .part ∧ (opened.header 7).holder = .host ∧ 16 ≤ (0x7FF#16).toNat % 256 ∧
      (0x70C#16).toNat % 256 = 12 ∧ (0x707#16).toNat % 256 < 8 ∧ (0x70D#16).toNat % 256 = 13 ∧
      (0x708#16).toNat % 256 = 8 ∧ (0x70B#16).toNat % 256 = 11 ∧ (0x70F#16).toNat % 256 = 15 ∧
      4 < (5#16).toNat ∧ 4 < (65535#16).toNat ∧ 0x23#8 ∉ [0x21#8, 0x22#8, 0x31#8, 0x32#8] := by decide

theorem witness_StatusIsGathered :
    opened.exch.status ≠ some opened.composeStatus ∧ opened.exch.statusAt = none ∧
      (∃ s : State, s.exch.status = some s.composeStatus ∧ s.exch.statusAsked = false) ∧
      (∃ s : State, s.exch.statusAsked = true) ∧
      ∃ s : State, ∃ t0, s.exch.statusAt = some t0 ∧ s.now + 99999 < t0 + millis 100 :=
  ⟨fun h => (by cases h), rfl,
    ⟨{ opened with exch := { opened.exch with status := some opened.composeStatus } }, rfl, rfl⟩,
    ⟨{ opened with exch := { opened.exch with statusAsked := true } }, rfl⟩,
    { opened with exch := { opened.exch with statusAt := some 0 } }, 0, rfl, by decide⟩

/-- ORDER A with a body length of 241. -/
def tooLong : State := opened.setHeader 15 { opened.header 15 with len := 241 }

/-- The host holds side A's REPORT and UPLINK folios, each with a body length of 241, the REPORT one with a record in it. -/
def tooLongs : State :=
  let s := ((returning ⟨[], [], some { sale.record with hostRef := 9 }⟩ []).setHeader 17
    { opened.header 17 with holder := .host, len := 241, ref := 3 })
  s.setHeader 21 { s.header 21 with holder := .host, len := 241, ref := 3 }

theorem witness_TouchIsTaken :
    (folioOf (.reportReturn 0 .a) = some 17 ∧ (opened.header 17).holder = .part) ∧
      26 < (27#32).toNat % 256 ∧ (26#32).toNat % 256 < 27 ∧ State.reset.exch.ready = false ∧
      (CanTouch tooLong 15 ∧ 240 < (tooLong.header 15).len.toNat ∧
        ∀ sd, (15 : Folio) ≠ Folio.report sd ∧ ∀ i, (15 : Folio) ≠ Folio.uplink sd i) ∧
      (CanTouch tooLongs (Folio.report .a) ∧ 240 < (tooLongs.header (Folio.report .a)).len.toNat ∧
        ((tooLongs.records .a).inFolio.map (·.hostRef)) = some 9) ∧
      (CanTouch tooLongs (Folio.uplink .a 0) ∧ 240 < (tooLongs.header (Folio.uplink .a 0)).len.toNat ∧
        Folio.uplink .a 0 = 21) ∧
      CanTouch (returning ⟨[], [], none⟩ []) 17 ∧ ((returning ⟨[], [], none⟩ []).header 17).len.toNat ≤ 240 ∧
      ((returning ⟨[], [], none⟩ []).records .a).unreported = [] ∧ Folio.report .a = 17 ∧ Folio.uplink .b 1 = 24 :=
  ⟨⟨rfl, rfl⟩, by decide, by decide, rfl, ⟨⟨rfl, rfl⟩, by decide, fun sd => by cases sd <;> decide⟩,
    ⟨⟨rfl, rfl⟩, by decide, rfl⟩, ⟨⟨rfl, rfl⟩, by decide, rfl⟩, ⟨rfl, rfl⟩, by decide, rfl, rfl, rfl⟩

/-- R181: REPORT's folio is handed back with its record's reference, UPLINK's with 0, and any other with the host's. -/
theorem test_touch_references :
    ((after (.touch 0 17) tooLongs).header 17).ref = 9 ∧ ((after (.touch 0 21) tooLongs).header 21).ref = 0 ∧
      ((after (.touch 0 15) (tooLong.setHeader 15 { tooLong.header 15 with ref := 4 })).header 15).ref = 4 := by decide

end Sys2Proof.Tests
end

/-! ### Pulser edges that complete a cycle -/

section
namespace Sys2Proof

@[simp] theorem Both.set_set {α : Type} (p : Both α) (sd : Side) (x y : α) : (p.set sd x).set sd y = p.set sd y := by
  cases sd <;> rfl

@[simp] theorem PerProduct.set_set {α : Type} (t : PerProduct α) (p : Product) (x y : α) :
    (t.set p x).set p y = t.set p y := by
  cases p <;> rfl

@[simp] theorem PerMeter.set_set {α : Type} (t : PerMeter α) (m : Meter) (x y : α) :
    PerMeter.set (PerMeter.set t m x) m y = PerMeter.set t m y := by
  simp [PerMeter.set]

end Sys2Proof

namespace Sys2Proof.Machine

@[simp] theorem State.setChan_setChan (s : State) (m : Meter) (c d : Channel) :
    (s.setChan m c).setChan m d = s.setChan m d := by
  simp [State.setChan]

@[simp] theorem State.togglePhase_chan (s : State) (m m' : Meter) (ph : Phase) :
    (s.togglePhase m ph).chan m' = s.chan m' := by
  cases ph <;> rfl

@[simp] theorem State.togglePhase_dormant (s : State) (m : Meter) (ph : Phase) :
    (s.togglePhase m ph).dormant = s.dormant := by
  cases ph <;> rfl

@[simp] theorem State.elapse_dormant (s : State) (dt : Nat) : (s.elapse dt).dormant = s.dormant := rfl

/-- The last edge time is no part of the single-phase run. -/
theorem Channel.run_setEdge (c : Channel) (ph ph' : Phase) (t : Word32) :
    (c.setEdge ph t).run ph' = (c.run ph').setEdge ph t := by
  by_cases h : c.runPhase = ph' ∧ 0 < c.runCount <;> cases ph <;> simp [Channel.setEdge, Channel.run, h]

/-- An edge's time is no part of the run, the decoder or the back count (R2). -/
@[simp] theorem Channel.setEdge_frame (c : Channel) (ph : Phase) (t : Word32) :
    (c.setEdge ph t).runCount = c.runCount ∧ (c.setEdge ph t).posA = c.posA ∧ (c.setEdge ph t).posB = c.posB ∧
      (c.setEdge ph t).acc = c.acc ∧ (c.setEdge ph t).back = c.back := by
  cases ph <;> simp [Channel.setEdge]

/-- The single-phase run is no part of the decoder or the back count (R5). -/
@[simp] theorem Channel.run_frame (c : Channel) (ph : Phase) :
    (c.run ph).posA = c.posA ∧ (c.run ph).posB = c.posB ∧ (c.run ph).acc = c.acc ∧ (c.run ph).back = c.back := by
  unfold Channel.run
  split <;> simp

/-- A forward cycle that finds a back count repays it (R7). -/
theorem State.forwardCycle_of_pos {s : State} {m : Meter} (h : 0 < (s.chan m).back) :
    s.forwardCycle m = s.setChan m { s.chan m with back := (s.chan m).back - 1 } := if_pos h

/-- A forward cycle that finds no back count is counted (R7). -/
theorem State.forwardCycle_of_eq_zero {s : State} {m : Meter} (h : (s.chan m).back = 0) :
    s.forwardCycle m = s.countCycle m := if_neg (by omega)

/-- A reverse cycle that finds the back count full is a REVERSE fault (R6). -/
theorem State.reverseCycle_of_full {s : State} {m : Meter} (h : (s.chan m).back = 16) :
    s.reverseCycle m = s.meterFault m .reverse 17 := if_pos h

/-- A reverse cycle that finds the back count below 16 adds to it (R6). -/
theorem State.reverseCycle_of_not_full {s : State} {m : Meter} (h : (s.chan m).back ≠ 16) :
    s.reverseCycle m = s.setChan m { s.chan m with back := (s.chan m).back + 1 } := if_neg h

/-- The channel with the decoder at the levels of the meter's pins and the accumulator at 0. -/
def State.restarted (s : State) (m : Meter) : Channel :=
  { s.chan m with posA := PerMeter.get s.pins.phaseA m, posB := PerMeter.get s.pins.phaseB m, acc := 0 }

/-- The fourth forward quarter-step completes a forward cycle (R3). -/
theorem State.decodeEdge_forward {s : State} {m : Meter}
    (hmove : moveOf (s.chan m).posA (s.chan m).posB (PerMeter.get s.pins.phaseA m) (PerMeter.get s.pins.phaseB m) =
      .forward) (hacc : (s.chan m).acc = 3) :
    s.decodeEdge m false = (s.setChan m (s.restarted m)).forwardCycle m := by
  simp [State.decodeEdge, State.restarted, hmove, hacc, accumulate, Move.step]

/-- The fourth backward quarter-step completes a reverse cycle (R3). -/
theorem State.decodeEdge_backward {s : State} {m : Meter}
    (hmove : moveOf (s.chan m).posA (s.chan m).posB (PerMeter.get s.pins.phaseA m) (PerMeter.get s.pins.phaseB m) =
      .backward) (hacc : (s.chan m).acc = -3) :
    s.decodeEdge m false = (s.setChan m (s.restarted m)).reverseCycle m := by
  simp [State.decodeEdge, State.restarted, hmove, hacc, accumulate, Move.step]

/-- An edge that is not ignored and leaves the run below 8 goes to the decoder, and is no PHASE_LOSS (R2, R5). -/
theorem State.channelEdge_of_accepted {s : State} {m : Meter} {ph : Phase}
    (hkeep : (s.chan m).ignores ph s.capture = false) (hrun : ((s.chan m).run ph).runCount < 8) :
    s.channelEdge m ph = (s.setChan m (((s.chan m).setEdge ph s.capture).run ph)).decodeEdge m false := by
  have hrun' : (((s.chan m).setEdge ph s.capture).run ph).runCount < 8 := by
    simpa [Channel.run_setEdge] using hrun
  simp [State.channelEdge, State.acceptEdge, hkeep, hrun'.ne, Nat.not_le.mpr hrun']

/-- The state in which an edge reaches the decoder: its level, its time and the run are taken (R2, R5). -/
def edgeTaken (s : State) (dt : Nat) (m : Meter) (ph : Phase) : State :=
  let u := (s.elapse dt).togglePhase m ph
  u.setChan m (((s.chan m).setEdge ph u.capture).run ph)

/-- What the decoder finds once an edge is taken: the channel's own position and accumulator, and the pins. -/
theorem edgeTaken_reads (s : State) (dt : Nat) (m : Meter) (ph : Phase) :
    ((edgeTaken s dt m ph).chan m).posA = (s.chan m).posA ∧ ((edgeTaken s dt m ph).chan m).posB = (s.chan m).posB ∧
      ((edgeTaken s dt m ph).chan m).acc = (s.chan m).acc ∧
      (edgeTaken s dt m ph).pins = ((s.elapse dt).togglePhase m ph).pins := by
  simp [edgeTaken]

/-- A cycle restarts the decoder in the state its edge is taken in, which gives decodedCycle. -/
theorem edgeTaken_restarted (s : State) (dt : Nat) (m : Meter) (ph : Phase) :
    (edgeTaken s dt m ph).setChan m ((edgeTaken s dt m ph).restarted m) = decodedCycle s dt m ph := by
  simp [edgeTaken, State.restarted, decodedCycle]

/-- The filter, the run and the decoder leave the back count to the cycle. -/
theorem decodedCycle_back (s : State) (dt : Nat) (m : Meter) (ph : Phase) :
    ((decodedCycle s dt m ph).chan m).back = (s.chan m).back := by
  simp [decodedCycle]

/-- An accepted edge below the run's limit is the decoder's (R2, R5). -/
theorem exec_pulserEdge_of_edgeMoves {s : State} {dt : Nat} {m : Meter} {ph : Phase} {move : Move} {acc : Int}
    (h : EdgeMoves s dt m ph move acc) :
    exec (.pulserEdge dt m ph) s = .next ((edgeTaken s dt m ph).decodeEdge m false) := by
  obtain ⟨hawake, hkeep, hrun, -, -⟩ := h
  have hedge : ((s.elapse dt).togglePhase m ph).channelEdge m ph = (edgeTaken s dt m ph).decodeEdge m false := by
    rw [State.channelEdge_of_accepted (by simpa using hkeep) (by simpa using hrun)]
    simp [edgeTaken]
  simp [exec, execPulserEdge, hawake, hedge]

/-- The decoder's move at the taken edge is the one EdgeMoves names, from its accumulator. -/
theorem edgeTaken_of_edgeMoves {s : State} {dt : Nat} {m : Meter} {ph : Phase} {move : Move} {acc : Int}
    (h : EdgeMoves s dt m ph move acc) :
    let w := edgeTaken s dt m ph
    moveOf (w.chan m).posA (w.chan m).posB (PerMeter.get w.pins.phaseA m) (PerMeter.get w.pins.phaseB m) = move ∧
      (w.chan m).acc = acc := by
  obtain ⟨-, -, -, hmove, hacc⟩ := h
  obtain ⟨hposA, hposB, hacc', hpins⟩ := edgeTaken_reads s dt m ph
  exact ⟨by simpa only [hposA, hposB, hpins] using hmove, hacc'.trans hacc⟩

/-- An edge that completes a forward cycle hands the decoded state to the cycle (R3, R7). -/
theorem exec_pulserEdge_of_completesForward {s : State} {dt : Nat} {m : Meter} {ph : Phase}
    (h : CompletesForward s dt m ph) :
    exec (.pulserEdge dt m ph) s = .next ((decodedCycle s dt m ph).forwardCycle m) := by
  obtain ⟨hmove, hacc⟩ := edgeTaken_of_edgeMoves h
  rw [exec_pulserEdge_of_edgeMoves h, State.decodeEdge_forward hmove hacc, edgeTaken_restarted]

/-- An edge that completes a reverse cycle hands the decoded state to the cycle (R3, R6). -/
theorem exec_pulserEdge_of_completesReverse {s : State} {dt : Nat} {m : Meter} {ph : Phase}
    (h : CompletesReverse s dt m ph) :
    exec (.pulserEdge dt m ph) s = .next ((decodedCycle s dt m ph).reverseCycle m) := by
  obtain ⟨hmove, hacc⟩ := edgeTaken_of_edgeMoves h
  rw [exec_pulserEdge_of_edgeMoves h, State.decodeEdge_backward hmove hacc, edgeTaken_restarted]

/-- Settles O11: a completing edge hands decodedCycle to the cycle, which meets the back count the channel had. -/
theorem cyclesMoveTheBackCount : Obligations.CyclesMoveTheBackCount := by
  intro dt m ph s u
  have hback : (u.chan m).back = (s.chan m).back := decodedCycle_back s dt m ph
  refine ⟨fun hfwd => ?_, fun hrev => ?_⟩
  · rw [exec_pulserEdge_of_completesForward hfwd]
    refine ⟨fun hpos => ?_, fun hzero => ?_⟩
    · rw [State.forwardCycle_of_pos (hback ▸ hpos), ← hback]
    · rw [State.forwardCycle_of_eq_zero (hback.trans hzero)]
  · rw [exec_pulserEdge_of_completesReverse hrev]
    refine ⟨fun hroom => ?_, fun hfull => ?_⟩
    · rw [State.reverseCycle_of_not_full (hback ▸ hroom), ← hback]
    · rw [State.reverseCycle_of_full (hback.trans hfull)]

end Sys2Proof.Machine
end

/-! ### The lamp byte -/

section
namespace Sys2Proof.Machine

/-- CARD, the fifth lamp, is lit while the gate is OPEN (R95). -/
theorem State.lamps_card_iff (s : State) (sd : Side) : (s.lamps sd)[4] = true ↔ (s.gate sd).state = .opened := by
  simp [State.lamps]

/-- PAY_INSIDE, the sixth lamp, is lit while the gate is not OPEN and the mode is OPEN (R95). -/
theorem State.lamps_payInside_iff (s : State) (sd : Side) :
    (s.lamps sd)[5] = true ↔ (s.gate sd).state ≠ .opened ∧ s.mode.mode = .openMode := by
  simp [State.lamps]

/-- The lamp byte is byte 53 of a composed frame. -/
theorem State.composeFrame_getD_lamps (s : State) (sd : Side) : (s.composeFrame sd).getD 53 0 = lampByte (s.lamps sd) := by
  have hlast := s.composeFrame_lamps sd
  rw [List.getLast?_eq_getElem?, State.composeFrame_length] at hlast
  rw [List.getD_eq_getElem?_getD, hlast, Option.getD_some]

/-- The lamps count from bit 7 down unless the first of them is bit 0. -/
theorem lampBit_val (i : Fin 8) : (lampBit i).val = if !Config.firstLampIsBit0 then 7 - i.val else i.val := by
  unfold lampBit
  cases Config.firstLampIsBit0
  · revert i; decide
  · rfl

/-- Settles O34: the clauses about CARD and PAY_INSIDE follow from when each is lit, and each lamp's bit is
`lampByte_bit`. -/
theorem lampsFollowR95 : Obligations.LampsFollowR95 := by
  refine ⟨fun s sd => ?_, !Config.firstLampIsBit0, fun s sd i => ⟨s.composeFrame_length sd, ?_⟩⟩
  · have hcard := s.lamps_card_iff sd
    have hpay := s.lamps_payInside_iff sd
    refine ⟨(s.lamps sd)[4], (s.lamps sd)[5], rfl, hcard, hpay, ?never, fun hopen => ?one, fun hmode => ?dark⟩
    case never => exact fun ⟨hc, hp⟩ => (hpay.mp hp).1 (hcard.mp hc)
    case one =>
      by_cases hgate : (s.gate sd).state = .opened
      · exact .inl (hcard.mpr hgate)
      · exact .inr (hpay.mpr ⟨hgate, hopen⟩)
    case dark => exact Bool.eq_false_iff.mpr fun hp => hmode (hpay.mp hp).2
  · rw [State.composeFrame_getD_lamps, ← lampBit_val, lampByte_bit]

end Sys2Proof.Machine
end

/-! ### What every operation keeps -/
section
namespace Sys2Proof.Machine

/-- The states of valves that R53 allows a side in its state. -/
def SideCtl.valvesOk (x : SideCtl) : Prop :=
  ∀ p, (x.state ≠ .flowing → (x.valves.get p).main = false) ∧
    (x.state.slowMayOpen = false → (x.valves.get p).slow = false) ∧
    (x.state = .suspended ∨ x.state = .ending → (x.valves.get p).slow = true → x.slowClose.isSome = true)

theorem valvesOk_iff (s : State) : ValvesOk s ↔ ∀ sd, (s.side sd).valvesOk := Iff.rfl

/-- What an operation of the part keeps, when no recovery takes place: the time, the queue, the mask, the accepted CONFIG, READY,
the STRAY bit, the bytes last read; the fresh bits that are set; the bytes outside the bodies of the folios `B`; and every
invariant of Safety.lean. -/
structure Keeps (B : Folio → Prop) (s t : State) : Prop where
  now : t.now = s.now := by rfl
  pending : t.pending = s.pending := by rfl
  mask : t.exch.mask = s.exch.mask := by rfl
  config : t.exch.config = s.exch.config := by rfl
  ready : t.exch.ready = s.exch.ready := by rfl
  stray : t.exch.stray = s.exch.stray := by rfl
  spiOut : t.exch.spiOut = s.exch.spiOut := by rfl
  fresh : ∀ f : Folio, s.exch.fresh.getLsbD f.val = true → t.exch.fresh.getLsbD f.val = true := by exact fun _ h => h
  bytes : ∀ a, (∀ f, B f → ¬ inBody f a) → Memory.read t.exch.mem a = Memory.read s.exch.mem a := by exact fun _ _ => rfl
  memory : MemoryOk s → MemoryOk t := by exact fun h => h
  valves : ValvesOk s → ValvesOk t := by exact fun h => h
  motors : MotorsOk s → MotorsOk t := by exact fun h => h
  channels : ChannelsOk s → ChannelsOk t := by exact fun h => h
  mode : ModeOk s → ModeOk t := by exact fun h => h

variable {B : Folio → Prop} {s₀ s t u : State}

theorem Keeps.refl (B : Folio → Prop) (s : State) : Keeps B s s := {}

theorem Keeps.trans (h : Keeps B s t) (k : Keeps B t u) : Keeps B s u where
  now := k.now.trans h.now
  pending := k.pending.trans h.pending
  mask := k.mask.trans h.mask
  config := k.config.trans h.config
  ready := k.ready.trans h.ready
  stray := k.stray.trans h.stray
  spiOut := k.spiOut.trans h.spiOut
  fresh := fun f hf => k.fresh f (h.fresh f hf)
  bytes := fun a ha => (k.bytes a ha).trans (h.bytes a ha)
  memory := fun m => k.memory (h.memory m)
  valves := fun v => k.valves (h.valves v)
  motors := fun m => k.motors (h.motors m)
  channels := fun c => k.channels (h.channels c)
  mode := fun m => k.mode (h.mode m)

namespace Keeps

theorem bothSides {f : State → Side → State} (h : Keeps B s₀ s)
    (hf : ∀ u sd, Keeps B s₀ u → Keeps B s₀ (f u sd)) : Keeps B s₀ (s.bothSides f) :=
  hf _ _ (hf _ _ h)

theorem ite {c : Prop} [Decidable c] (ht : c → Keeps B s₀ t) (hu : ¬ c → Keeps B s₀ u) :
    Keeps B s₀ (if c then t else u) := by
  split
  · next hc => exact ht hc
  · next hc => exact hu hc

/-! #### The blocks' parts -/

theorem setSide {sd : Side} {x : SideCtl} (h : Keeps B s₀ s) (hx : ValvesOk s → x.valvesOk) :
    Keeps B s₀ (s.setSide sd x) :=
  h.trans
    { valves := fun hv sd' => by
        rcases eq_or_ne sd' sd with rfl | hne
        · rw [State.setSide_side_self]; exact hx hv
        · rw [State.setSide_side_ne _ _ hne]; exact hv sd' }

theorem setChan {m : Meter} {c : Channel} (h : Keeps B s₀ s) (hc : ChannelsOk s → c.inRange) :
    Keeps B s₀ (s.setChan m c) :=
  h.trans
    { channels := fun hv m' => by
        rcases eq_or_ne m' m with rfl | hne
        · rw [State.setChan_chan_self]; exact hc hv
        · rw [State.setChan_chan_ne _ _ hne]; exact hv m' }

/-- A motor's new values, which are STARTING only if it was STARTING or no motor was. -/
theorem setMotor {p : Product} {m : Motor} (h : Keeps B s₀ s)
    (hm : MotorsOk s → m.contactor = m.state.turning ∧
      (m.state = .starting → (s.motor p).state = .starting ∨ ∀ q, (s.motor q).state ≠ .starting)) :
    Keeps B s₀ (s.setMotor p m) :=
  h.trans
    { motors := fun hv => by
        obtain ⟨hc, hone⟩ := hm hv
        have hget : ∀ q, (s.setMotor p m).motor q = if q = p then m else s.motor q := by
          intro q
          split
          · next hq => rw [hq, State.setMotor_motor_self]
          · next hq => rw [State.setMotor_motor_ne _ _ hq]
        refine ⟨fun q => ?_, fun q r hq hr => ?_⟩
        · rw [hget]; split
          · exact hc
          · exact hv.1 q
        · rw [hget] at hq hr
          split at hq <;> split at hr
          · simp_all
          · next h1 h2 =>
            rcases hone hq with h3 | h3
            · exact absurd (hv.2 r p hr h3) h2
            · exact absurd hr (h3 r)
          · next h1 h2 =>
            rcases hone hr with h3 | h3
            · exact absurd (hv.2 q p hq h3) h1
            · exact absurd hq (h3 q)
          · exact hv.2 q r hq hr }

theorem setFifo {f : List Product} (h : Keeps B s₀ s) : Keeps B s₀ (s.setFifo f) := h.trans {}

theorem setDisp {sd : Side} {d : DispSide} (h : Keeps B s₀ s) : Keeps B s₀ (s.setDisp sd d) := h.trans {}

theorem setGate {sd : Side} {g : GateCtl} (h : Keeps B s₀ s) : Keeps B s₀ (s.setGate sd g) := h.trans {}

theorem setRecords {sd : Side} {r : Records} (h : Keeps B s₀ s) : Keeps B s₀ (s.setRecords sd r) := h.trans {}

/-! #### Folios -/

theorem setHeader {f : Folio} {x : Header} (h : Keeps B s₀ s) : Keeps B s₀ (s.setHeader f x) := h.trans {}

theorem setFresh {f : Folio} (h : Keeps B s₀ s) : Keeps B s₀ (s.setFresh f) :=
  h.trans { fresh := fun g hg => by simp [State.setFresh, hg] }

theorem bump {f : Folio} (h : Keeps B s₀ s) : Keeps B s₀ (s.bump f) := h.setHeader

theorem handOver {f : Folio} {r : Result} {d : Word32} (h : Keeps B s₀ s) : Keeps B s₀ (s.handOver f r d) :=
  h.setHeader.setFresh

theorem raise {k : EventKind} {o : Nat} {d1 d2 : Detail} (h : Keeps B s₀ s) : Keeps B s₀ (s.raise k o d1 d2) :=
  (bump (h.trans {})).setFresh

end Keeps
end Sys2Proof.Machine
end

/-! ### What the operations of the exchange, the gates and the displays keep -/
section
namespace Sys2Proof.Machine

/-- A write leaves every byte at another address as it was, in any memory. -/
theorem Memory.read_write_ne (m : Memory) {a b : Nat} (v : Byte) (hb : b ≠ a) :
    Memory.read (Memory.write m a v) b = Memory.read m b := by
  induction m with
  | nil => simp only [Memory.write]; split <;> simp [Memory.read, hb]
  | cons c rest ih =>
    obtain ⟨x, w⟩ := c
    simp only [Memory.write]
    split
    · split <;> simp [Memory.read, hb]
    · split
      · next hax => subst hax; split <;> simp [Memory.read, hb]
      · simp only [Memory.read, ih]

/-- Storing bytes leaves every byte outside them as it was, in any memory. -/
theorem Memory.read_writeAll_ne (vs : List Byte) (m : Memory) {a b : Nat} (hb : b < a ∨ a + vs.length ≤ b) :
    Memory.read (Memory.writeAll m a vs) b = Memory.read m b := by
  induction vs generalizing m a with
  | nil => rfl
  | cons v vs ih =>
    simp only [List.length_cons] at hb
    simp only [Memory.writeAll]
    rw [ih _ (by omega), Memory.read_write_ne m v (by omega)]

/-- Storing bytes lists no address but those listed before and those written. -/
theorem Memory.mem_writeAll (vs : List Byte) (m : Memory) (a : Nat) (d : Host.Cell) (h : d ∈ Memory.writeAll m a vs) :
    d ∈ m ∨ d.1 < a + vs.length := by
  induction vs generalizing m a with
  | nil => exact .inl h
  | cons v vs ih =>
    simp only [List.length_cons]
    rcases ih _ _ h with h | h
    · rcases Memory.mem_write m a v d h with rfl | h
      · exact .inr (by show a < _; omega)
      · exact .inl h
    · exact .inr (by omega)

/-- The body of a folio lies in the 8 KiB. -/
theorem Folio.body_le (f : Folio) : f.body + 240 ≤ 6912 := by
  have := f.isLt
  unfold Folio.body
  omega

/-- The bytes of a written body lie outside an address that is not in the body. -/
theorem not_inBody_of_take {f : Folio} {a : Nat} (bytes : List Byte) (h : ¬ inBody f a) :
    a < f.body ∨ f.body + (bytes.take 240).length ≤ a := by
  unfold inBody at h
  have : (bytes.take 240).length ≤ 240 := by simp
  omega

/-- A folio's body keeps the memory in form. -/
theorem writeBody_memoryOk {s : State} (f : Folio) (bytes : List Byte) (h : MemoryOk s) :
    MemoryOk (s.writeBody f bytes) := by
  refine ⟨s.writeBody_wf f bytes h.1, fun c hc => ?_⟩
  rcases Memory.mem_writeAll _ _ _ c hc with hc | hc
  · exact h.2 c hc
  · have := f.body_le
    have : (bytes.take 240).length ≤ 240 := by simp
    omega

namespace Keeps
variable {B : Folio → Prop} {s₀ s : State} {sd : Side} {f : Folio}

theorem writeBody {bytes : List Byte} (h : Keeps B s₀ s) (hB : B f) : Keeps B s₀ (s.writeBody f bytes) :=
  h.trans
    { bytes := fun _ ha => Memory.read_writeAll_ne _ _ (not_inBody_of_take bytes (ha f hB))
      memory := writeBody_memoryOk f bytes }

theorem recompose (h : Keeps B s₀ s) : Keeps B s₀ (s.recompose sd) := by
  unfold State.recompose
  dsimp only
  split
  · exact h.setDisp
  · exact h.setDisp
  · exact h

theorem newFigures (h : Keeps B s₀ s) : Keeps B s₀ (s.newFigures sd) := by
  unfold State.newFigures
  dsimp only
  split
  · exact h.setDisp
  · exact h.setDisp
  · exact h

theorem recomposeBoth (h : Keeps B s₀ s) : Keeps B s₀ s.recomposeBoth := h.recompose.recompose

theorem rewriteStatus (h : Keeps B s₀ s) : Keeps B s₀ s.rewriteStatus := bump (h.trans {})

theorem askStatus (h : Keeps B s₀ s) : Keeps B s₀ s.askStatus := h.trans {}

theorem postStatus (h : Keeps B s₀ s) : Keeps B s₀ s.postStatus := h.rewriteStatus.setFresh

theorem updatePriceView (h : Keeps B s₀ s) : Keeps B s₀ s.updatePriceView := bump (h.trans {})

theorem postPriceView (h : Keeps B s₀ s) : Keeps B s₀ s.postPriceView := h.updatePriceView.setFresh

theorem updateTotals {i : Fin 16} {n : Nat} {q : Snapshot} (h : Keeps B s₀ s) : Keeps B s₀ (s.updateTotals i n q) :=
  bump (h.trans {})

theorem updateTotalsWatches (h : Keeps B s₀ s) : Keeps B s₀ s.updateTotalsWatches := bump (h.trans {})

/-! #### Gates -/

theorem downlinkResult {r : Result} (h : Keeps B s₀ s) : Keeps B s₀ (s.downlinkResult sd r) := by
  unfold State.downlinkResult
  dsimp only
  split
  · exact h.setGate.handOver
  · exact h

theorem uplinkInto {i : Fin 2} (h : Keeps B s₀ s) (hB : B (Folio.uplink sd i)) : Keeps B s₀ (s.uplinkInto sd i) := by
  unfold State.uplinkInto
  dsimp only
  split
  · split
    · exact ((h.setGate.writeBody hB).setHeader).handOver
    · exact h
  · exact h

theorem uplinkFlow (h : Keeps B s₀ s) (hB : ∀ i, B (Folio.uplink sd i)) : Keeps B s₀ (s.uplinkFlow sd) :=
  (h.uplinkInto (hB 0)).uplinkInto (hB 1)

theorem address {i : ModuleId} (h : Keeps B s₀ s) : Keeps B s₀ (s.address sd i) := h.setGate

theorem pollFrom {l : List ModuleId} (h : Keeps B s₀ s) : Keeps B s₀ (s.pollFrom sd l) := by
  induction l with
  | nil => exact h.setGate
  | cons i rest ih =>
    unfold State.pollFrom
    split
    · exact h.address
    · exact ih

theorem endExchange {i : ModuleId} (h : Keeps B s₀ s) : Keeps B s₀ (s.endExchange sd i) := by
  unfold State.endExchange
  split
  · exact h.pollFrom
  · exact h

theorem gateChange {g : GateCtl} {c : GateCause} (h : Keeps B s₀ s) : Keeps B s₀ (s.gateChange sd g c) := by
  unfold State.gateChange
  exact (raise (ite (fun _ => h.setGate.downlinkResult) (fun _ => h.setGate))).postStatus.recompose

theorem gateStart {c : GateCause} (h : Keeps B s₀ s) : Keeps B s₀ (s.gateStart sd c) := h.gateChange

theorem gateOff (h : Keeps B s₀ s) : Keeps B s₀ (s.gateOff sd) := h.gateChange

theorem gateTrip {r : TripReason} (h : Keeps B s₀ s) : Keeps B s₀ (s.gateTrip sd r) := h.gateChange

theorem gateRestart {o : RestartOrigin} (h : Keeps B s₀ s) : Keeps B s₀ (s.gateRestart sd o) := h.gateChange

theorem gateOpen (h : Keeps B s₀ s) : Keeps B s₀ (s.gateOpen sd) := h.gateChange

theorem gateClaim (h : Keeps B s₀ s) : Keeps B s₀ (s.gateClaim sd) := by
  unfold State.gateClaim
  split
  · exact h.gateOff
  · exact h.gateOff
  · exact h.gateOff
  · exact h
  · exact h

theorem gateSilent (h : Keeps B s₀ s) : Keeps B s₀ (s.gateSilent sd) := ite (fun _ => h.gateTrip) fun _ => h.gateRestart

theorem gateTamper {n : Nat} (h : Keeps B s₀ s) : Keeps B s₀ (s.gateTamper sd n) := by
  unfold State.gateTamper
  exact raise (ite (fun _ => h) fun _ => h.gateTrip)

theorem afterHello {i : ModuleId} {o : HelloOutcome} (h : Keeps B s₀ s) : Keeps B s₀ (s.afterHello sd i o) := by
  unfold State.afterHello
  split
  · exact h
  · dsimp only
    split
    · exact ite (fun _ => h.gateTrip) fun _ => h
    · have k := ite (fun _ : (s.gate sd).helloClears = true => h.setGate (sd := sd)
          (g := { s.gate sd with restartUsed := false })) fun _ => h
      split
      · exact k.gateOpen
      · exact k.gateOpen
      · exact k

theorem takeHello {i : ModuleId} {x : Frame} (h : Keeps B s₀ s) : Keeps B s₀ (s.takeHello sd i x) :=
  h.setGate.raise.afterHello

theorem enqueue {i : ModuleId} {x : Frame} {b : Bool} (h : Keeps B s₀ s) (hB : ∀ i, B (Folio.uplink sd i)) :
    Keeps B s₀ (s.enqueue sd i x b) := by
  unfold State.enqueue
  dsimp only
  split
  · exact h.setGate
  · exact h.setGate.uplinkFlow hB

theorem refuseFrame {i : ModuleId} {x : Frame} (h : Keeps B s₀ s) : Keeps B s₀ (s.refuseFrame sd i x) :=
  h.setGate.raise

theorem takeUplink {i : ModuleId} {x : Frame} (h : Keeps B s₀ s) (hB : ∀ i, B (Folio.uplink sd i)) :
    Keeps B s₀ (s.takeUplink sd i x) := by
  unfold State.takeUplink
  dsimp only
  repeat' split
  all_goals first | exact h.setGate | exact h.enqueue hB | exact h.refuseFrame

theorem countMiss {i : ModuleId} (h : Keeps B s₀ s) : Keeps B s₀ (s.countMiss sd i) := by
  unfold State.countMiss
  dsimp only
  split
  · split
    · exact h.setGate.gateSilent
    · exact h.setGate
  · exact h

theorem unacknowledged (h : Keeps B s₀ s) : Keeps B s₀ (s.unacknowledged sd) := by
  unfold State.unacknowledged
  split
  · exact ite (fun _ => h.downlinkResult) fun _ => h
  · exact h

theorem missAnswer {a : Addressing} (h : Keeps B s₀ s) : Keeps B s₀ (s.missAnswer sd a) := by
  unfold State.missAnswer
  exact (countMiss (ite (fun _ => h.unacknowledged) fun _ => h)).endExchange

theorem downlinkBusy (h : Keeps B s₀ s) : Keeps B s₀ (s.downlinkBusy sd) := by
  unfold State.downlinkBusy
  dsimp only
  split
  · exact ite (fun _ => h.setGate.downlinkResult) fun _ => h.setGate
  · exact h

theorem takeByClass {i : ModuleId} {x : Frame} (h : Keeps B s₀ s) (hB : ∀ i, B (Folio.uplink sd i)) :
    Keeps B s₀ (s.takeByClass sd i x) := by
  unfold State.takeByClass
  dsimp only
  split
  · exact h.takeHello
  · exact h.gateTamper
  · exact h.takeUplink hB
  · exact h.takeUplink hB
  · exact h.takeUplink hB
  · exact h

theorem goodAnswer {a : Addressing} {x : Frame} (h : Keeps B s₀ s) (hB : ∀ i, B (Folio.uplink sd i)) :
    Keeps B s₀ (s.goodAnswer sd a x) := by
  unfold State.goodAnswer
  dsimp only
  have k := ite (fun _ : ((s.gate sd).mod a.mod).status = some .active => h.setGate (sd := sd)
    (g := (s.gate sd).setMod a.mod { (s.gate sd).mod a.mod with missed := 0 })) fun _ => h
  refine endExchange (ite (fun _ => ?_) fun _ => k.takeByClass hB)
  split
  · exact k.downlinkResult
  · exact k.downlinkBusy
  · exact k.downlinkResult.takeByClass hB
  · exact (k.takeByClass hB).unacknowledged

theorem gateToReset {g : GateCtl} (h : Keeps B s₀ s) : Keeps B s₀ (s.gateToReset sd g) :=
  ite (fun _ => h.setGate) fun _ => h.gateChange

/-! #### Displays -/

theorem startTransfer {l : List Byte} {p : Purpose} (h : Keeps B s₀ s) : Keeps B s₀ (s.startTransfer sd l p) := h.setDisp

theorem startComposed {p : Purpose} (h : Keeps B s₀ s) : Keeps B s₀ (s.startComposed sd p) := h.setDisp.startTransfer

theorem nextTransfer (h : Keeps B s₀ s) : Keeps B s₀ (s.nextTransfer sd) := by
  unfold State.nextTransfer
  dsimp only
  refine ite (fun _ => h) fun _ => ite (fun _ => h.startTransfer) fun _ => ?_
  split
  · split
    · exact h.setDisp.startTransfer
    · exact h.setDisp.startTransfer
    · exact h
  · split
    · exact ite (fun _ => h.setDisp.startTransfer) fun _ => h
    · exact h

theorem requestZero {n : Nat} (h : Keeps B s₀ s) : Keeps B s₀ (s.requestZero sd n) := h.setDisp.nextTransfer

theorem abandonZero (h : Keeps B s₀ s) : Keeps B s₀ (s.abandonZero sd) := by
  unfold State.abandonZero
  dsimp only
  split
  · exact h.setDisp
  · exact h

theorem beginLamp {b : Bool} (h : Keeps B s₀ s) : Keeps B s₀ (s.beginLamp sd b) := by
  unfold State.beginLamp
  dsimp only
  split
  · split
    · exact h.setDisp
    · exact h.setDisp.nextTransfer
  · exact h
  · exact h.setDisp.postStatus.nextTransfer
  · exact h.setDisp.postStatus.nextTransfer

theorem displayFault {c : DispCause} {n : Nat} (h : Keeps B s₀ s) : Keeps B s₀ (s.displayFault sd c n) :=
  h.setDisp.startTransfer.raise.postStatus

theorem supplyOn (h : Keeps B s₀ s) : Keeps B s₀ s.supplyOn := h.trans {}

theorem releaseRetest (h : Keeps B s₀ s) : Keeps B s₀ (s.releaseRetest sd) := by
  unfold State.releaseRetest
  split
  · exact ite (fun _ => h.handOver) fun _ => h
  · exact h

theorem darkenSide (h : Keeps B s₀ s) : Keeps B s₀ (s.darkenSide sd) := h.releaseRetest.setDisp.nextTransfer

theorem darkenTesting (h : Keeps B s₀ s) : Keeps B s₀ (s.darkenTesting sd) := by
  unfold State.darkenTesting
  dsimp only
  split
  · exact h.darkenSide
  · exact ite (fun _ => h) fun _ => h.setDisp
  · exact h

theorem darkenAtExpiry (h : Keeps B s₀ s) : Keeps B s₀ (s.darkenAtExpiry sd) := by
  unfold State.darkenAtExpiry
  split
  · exact h.darkenSide
  · exact h.darkenSide
  · exact h

theorem darkExpire (h : Keeps B s₀ s) : Keeps B s₀ s.darkExpire := darkenAtExpiry (darkenAtExpiry (h.trans {}))

theorem goDark (h : Keeps B s₀ s) : Keeps B s₀ s.goDark := by
  unfold State.goDark
  have k : Keeps B s₀ ((s.darkenTesting .a).darkenTesting .b) := h.darkenTesting.darkenTesting
  dsimp only
  split
  · exact k
  · exact ite (fun _ => k.darkExpire) fun _ => k.trans {}

theorem displaysHoldup (h : Keeps B s₀ s) : Keeps B s₀ s.displaysHoldup :=
  (h.releaseRetest (sd := .a)).releaseRetest (sd := .b) |>.trans {}

theorem displaysReset (h : Keeps B s₀ s) : Keeps B s₀ s.displaysReset := h.trans {}

end Keeps
end Sys2Proof.Machine
end

/-! ### What the operations of the motors, the journal and the store keep -/
section
namespace Sys2Proof.Machine

namespace Keeps
variable {B : Folio → Prop} {s₀ s : State} {sd : Side} {p : Product} {m : Motor}

/-- A motor with its contactor as it was and a state that turns as before, or with both at rest. -/
theorem setMotorAs (h : Keeps B s₀ s) (hc : m.contactor = (s.motor p).contactor)
    (hs : m.state = (s.motor p).state) : Keeps B s₀ (s.setMotor p m) :=
  h.setMotor fun hv => ⟨by rw [hc, hs]; exact hv.1 p, fun k => .inl (hs ▸ k)⟩

/-- A motor that does not start takes its new values. -/
theorem setMotorTo (h : Keeps B s₀ s) (hc : MotorsOk s → m.contactor = m.state.turning) (hs : m.state ≠ .starting) :
    Keeps B s₀ (s.setMotor p m) :=
  h.setMotor fun hv => ⟨hc hv, fun k => absurd k hs⟩

/-- A motor stops with its contactor open. -/
theorem stopped (h : Keeps B s₀ s) (m : Motor) :
    Keeps B s₀ (s.setMotor p { s.opened m with users := Users.none, state := .stopped }) :=
  h.setMotor fun _ => ⟨rfl, fun k => nomatch k⟩

theorem reportRunning {u : User} (h : Keeps B s₀ s) : Keeps B s₀ (s.reportRunning u p) := by
  unfold State.reportRunning
  split
  · exact ite (fun _ => h.setSide fun hv => hv _) fun _ => h
  · exact ite (fun _ => h.trans {}) fun _ => h

theorem reportAll {u : Users} (h : Keeps B s₀ s) : Keeps B s₀ (s.reportAll u p) := by
  unfold State.reportAll
  have ka := ite (c := u.a = true) (fun _ => h.reportRunning (u := .side .a) (p := p)) fun _ => h
  have kb := ite (c := u.b = true) (fun _ => ka.reportRunning (u := .side .b) (p := p)) fun _ => ka
  exact ite (fun _ => kb.reportRunning) fun _ => kb

theorem rundown (h : Keeps B s₀ s) (hc : MotorsOk s → m.contactor = true) : Keeps B s₀ (s.rundown p m) := by
  unfold State.rundown
  refine (h.setMotorTo ?_ ?_).postStatus
  · intro hv; dsimp only; split
    · rfl
    · exact hc hv
  · dsimp only; split <;> simp

theorem confirmStart (h : Keeps B s₀ s) (hs : (s.motor p).state = .starting) : Keeps B s₀ (s.confirmStart p) := by
  have turns : MotorsOk s → (s.motor p).contactor = true := fun hv => by rw [hv.1 p, hs]; rfl
  unfold State.confirmStart
  refine ite (fun _ => ((h.raise.setMotorTo ?_ ?_).reportAll).postStatus) fun _ => h.raise.rundown turns
  · exact turns
  · simp

theorem grant {rest : List Product} (h : Keeps B s₀ s) (hs : ∀ q, (s.motor q).state ≠ .starting) :
    Keeps B s₀ (s.grant p rest) := by
  unfold State.grant
  have k : Keeps B s₀ { s with motors := { s.motors with
    fifo := rest, lastGrant := some (s.now, s.now + seconds s.cfg.motorGap) } } := h.trans {}
  have k' := (k.setMotor (p := p) (m := { s.motor p with
    state := .starting, contactor := true, pressureT := some (s.now + seconds s.cfg.pressureTimeout) })
    fun _ => ⟨rfl, fun _ => .inr hs⟩).postStatus
  refine ite (fun _ => k'.confirmStart ?_) fun _ => k'
  simp [State.motor, State.postStatus_frame, State.setMotor]

theorem arbiterTest (h : Keeps B s₀ s) : Keeps B s₀ s.arbiterTest := by
  unfold State.arbiterTest
  split
  · exact h
  · refine ite (fun hc => h.grant fun q => ?_) fun _ => h
    have : s.someStarting = false := by simp_all
    simp only [State.someStarting, Product.all, List.any_cons, List.any_nil, Bool.or_false, Bool.or_eq_false_iff,
      decide_eq_false_iff_not] at this
    obtain ⟨hl, hh, ha⟩ := this
    cases q
    · exact hl
    · exact hh
    · exact ha

theorem joinFifo (h : Keeps B s₀ s) (hc : MotorsOk s → (s.motor p).contactor = false) :
    Keeps B s₀ (s.joinFifo p) := by
  unfold State.joinFifo
  have k := h.setMotorTo (p := p) (m := { s.motor p with state := .waiting }) hc nofun
  exact (ite (fun _ => k) fun _ => k.setFifo).postStatus.arbiterTest

theorem dropFifo (h : Keeps B s₀ s) : Keeps B s₀ (s.dropFifo p) := h.setFifo

theorem newHeadTest {o : Option Product} (h : Keeps B s₀ s) : Keeps B s₀ (s.newHeadTest o) :=
  ite (fun _ => h) fun _ => h.arbiterTest

theorem register {u : User} (h : Keeps B s₀ s) : Keeps B s₀ (s.register u p) := by
  unfold State.register
  dsimp only
  split
  · next hst =>
    refine joinFifo (h.setMotorAs rfl rfl) ?_
    intro hv
    rw [hv.1 p, State.setMotor_motor_self, hst]; rfl
  · next hst =>
    refine ((h.setMotorTo ?_ ?_).reportRunning).postStatus
    · intro hv; exact (hv.1 p).trans (by rw [hst]; rfl)
    · simp
  · refine (h.setMotorAs ?_ ?_).reportRunning <;> rfl
  · exact h.setMotorAs rfl rfl
  · exact h.setMotorAs rfl rfl
  · exact h.setMotorAs rfl rfl

theorem release {u : User} (h : Keeps B s₀ s) : Keeps B s₀ (s.release u p) := by
  unfold State.release
  dsimp only
  refine ite (fun _ => ?_) fun _ => h
  have k := h.setMotorAs (p := p) (m := { s.motor p with users := (s.motor p).users.remove u }) rfl rfl
  have stands {b : Bool} (hv : MotorsOk (s.setMotor p { s.motor p with users := (s.motor p).users.remove u }))
      (hb : (s.motor p).state.turning = b) : (s.motor p).contactor = b := by
    have := hv.1 p
    rwa [State.setMotor_motor_self, hb] at this
  refine ite (fun _ => k) fun _ => ?_
  split
  · next hst =>
    refine ((k.setMotorTo ?_ ?_).postStatus).dropFifo
    · exact fun hv => stands hv (by rw [hst]; rfl)
    · simp
  · next hst =>
    exact k.rundown fun hv => stands hv (by rw [hst]; rfl)
  · exact k
  · exact k
  · exact k
  · exact k

theorem releaseAll {u : User} (h : Keeps B s₀ s) : Keeps B s₀ (s.releaseAll u) :=
  h.release.release.release.newHeadTest

theorem failMotor {c : MotorCause} (h : Keeps B s₀ s) : Keeps B s₀ (s.failMotor p c) := by
  refine (h.setMotorTo ?_ ?_).raise.postStatus
  · exact fun _ => rfl
  · simp

theorem unfailMotor (h : Keeps B s₀ s) (hs : (s.motor p).state = .failed) : Keeps B s₀ (s.unfailMotor p) := by
  refine (h.setMotorTo ?_ ?_).postStatus
  · exact fun hv => (hv.1 p).trans (by rw [hs]; rfl)
  · simp

theorem rejoin (h : Keeps B s₀ s) : Keeps B s₀ (s.rejoin p) :=
  ite (fun hc => h.joinFifo fun hv => (hv.1 p).trans (by rw [hc.1]; rfl)) fun _ => h

theorem stopMotor (h : Keeps B s₀ s) : Keeps B s₀ (s.stopMotor p) := by
  unfold State.stopMotor
  dsimp only
  split
  · next hst =>
    refine (((h.setMotorTo ?_ ?_).postStatus).dropFifo).newHeadTest
    · exact fun hv => (hv.1 p).trans (by rw [hst]; rfl)
    · simp
  · exact (h.stopped _).postStatus.arbiterTest
  · exact (h.stopped _).postStatus
  · exact (h.stopped _).postStatus
  · exact h.setMotorAs rfl rfl
  · exact h.setMotorAs rfl rfl

/-! #### The journal -/

theorem beginWrite (h : Keeps B s₀ s) : Keeps B s₀ s.beginWrite := h.trans {}

theorem setRequest (h : Keeps B s₀ s) : Keeps B s₀ s.setRequest := h.trans {}

theorem requestSnapshot (h : Keeps B s₀ s) : Keeps B s₀ s.requestSnapshot := by
  unfold State.requestSnapshot
  split
  · exact ite (fun _ => h.setRequest) fun _ => h.beginWrite
  · exact h
  · exact h.setRequest

theorem periodicCheck (h : Keeps B s₀ s) : Keeps B s₀ s.periodicCheck := by
  unfold State.periodicCheck
  split
  · split
    · exact h
    · exact h.trans {}
  · exact h.trans {}

theorem periodicAdd {n : Nat} (h : Keeps B s₀ s) : Keeps B s₀ (s.periodicAdd n) :=
  ite (fun _ => requestSnapshot (h.trans {})) fun _ => h.trans {}

/-! #### The store -/

theorem testWatch {t : TotalId} {a b : Nat} {i : Fin 4} (h : Keeps B s₀ s) : Keeps B s₀ (s.testWatch t a b i) :=
  ite (fun _ => (raise (h.trans {})).updateTotalsWatches) fun _ => h

theorem testWatches {t : TotalId} {a b : Nat} (h : Keeps B s₀ s) : Keeps B s₀ (s.testWatches t a b) :=
  h.testWatch.testWatch.testWatch.testWatch

theorem setTotals {t : Totals} (h : Keeps B s₀ s) : Keeps B s₀ (s.setTotals t) := h.trans {}

theorem addMeterTotal {k : Meter} {n : Nat} (h : Keeps B s₀ s) : Keeps B s₀ (s.addMeterTotal k n) :=
  h.setTotals.testWatches

theorem addUnattributed {k : Meter} {n : Nat} (h : Keeps B s₀ s) : Keeps B s₀ (s.addUnattributed k n) := h.setTotals

theorem addGradeTotals {g : Fin 6} {a b : Nat} (h : Keeps B s₀ s) : Keeps B s₀ (s.addGradeTotals g a b) :=
  h.setTotals.testWatches.testWatches

theorem countRecord {r : SaleRecord} (h : Keeps B s₀ s) : Keeps B s₀ (s.countRecord r) := by
  unfold State.countRecord
  refine ite (fun _ => h.setTotals) fun _ => ?_
  split
  · exact h.addGradeTotals
  · exact h

theorem takeRecord {r : SaleRecord} (h : Keeps B s₀ s) : Keeps B s₀ (s.takeRecord r) :=
  h.setRecords.countRecord.requestSnapshot

theorem advanceNumber (h : Keeps B s₀ s) : Keeps B s₀ s.advanceNumber := h.trans {}

theorem reportHandOver (h : Keeps B s₀ s) : Keeps B s₀ (s.reportHandOver sd) := by
  unfold State.reportHandOver
  dsimp only
  split
  · exact ite (fun _ => h.setHeader.handOver) fun _ => h
  · exact h

theorem reportFlow (h : Keeps B s₀ s) (hB : B (Folio.report sd)) : Keeps B s₀ (s.reportFlow sd) := by
  unfold State.reportFlow
  refine reportHandOver ?_
  split
  · exact ite (fun _ => h.setRecords.writeBody hB) fun _ => h
  · exact h

theorem recordMarked {i : Fin 16} (h : Keeps B s₀ s) (hB : ∀ sd, B (Folio.report sd)) : Keeps B s₀ (s.recordMarked i) :=
  ((reportFlow (h.trans {}) (hB .a)).reportFlow (hB .b))

end Keeps
end Sys2Proof.Machine
end

/-! ### What the operations of the sides and the prices keep -/
section
-- Elaborated one after another: in parallel the threads' stacks pass the memory limit.
set_option Elab.async false
namespace Sys2Proof.Machine

/-- A side whose valves are all closed may enter any state. -/
theorem SideCtl.valvesOk_of_closed {x : SideCtl}
    (hx : ∀ p, (x.valves.get p).main = false ∧ (x.valves.get p).slow = false) : x.valvesOk := fun p =>
  ⟨fun _ => (hx p).1, fun _ => (hx p).2, fun _ hs => absurd hs (by simp [(hx p).2])⟩

/-- Outside the states that R53 lists a side has its valves closed, and enters any state with them. -/
theorem SideCtl.valvesOk_of_idle {x y : SideCtl} (hx : x.valvesOk) (hs : x.state.slowMayOpen = false)
    (hv : y.valves = x.valves) : y.valvesOk := by
  refine SideCtl.valvesOk_of_closed fun p => ?_
  rw [hv]
  refine ⟨(hx p).1 ?_, (hx p).2.1 hs⟩
  intro hf
  simp [hf, SideState.slowMayOpen] at hs

/-- While a side is FLOWING its valves stand as they may. -/
theorem SideCtl.valvesOk_of_flowing {x : SideCtl} (hx : x.state = .flowing) : x.valvesOk := fun p => by
  simp [hx, SideState.slowMayOpen]

/-- With its MAIN valves closed a side may be SLOW. -/
theorem SideCtl.valvesOk_of_slow {x : SideCtl} (hx : x.state = .slow) (hm : ∀ p, (x.valves.get p).main = false) :
    x.valvesOk := fun p => by
  simp [hx, SideState.slowMayOpen, hm p]

theorem PerProduct.get_map' {α β : Type} (v : PerProduct α) (f : α → β) (p : Product) :
    (v.map f).get p = f (v.get p) := by cases p <;> rfl

theorem closeMains_main (v : PerProduct Valve) (p : Product) : ((closeMains v).get p).main = false := by
  cases p <;> rfl

theorem valvesFor_main (c : Composition) (f : Product → Bool) (p : Product) :
    ((valvesFor c f).get p).main = (c.uses p && f p) := by cases p <;> rfl

theorem closeSlows_main (v : PerProduct Valve) (p : Product) : ((closeSlows v).get p).main = (v.get p).main := by
  cases p <;> rfl

theorem closeSlows_slow (v : PerProduct Valve) (p : Product) : ((closeSlows v).get p).slow = false := by
  cases p <;> rfl

theorem slow_of_not_anySlow {v : PerProduct Valve} (hv : anySlow v = false) (p : Product) :
    (v.get p).slow = false := by
  simp only [anySlow, Bool.or_eq_false_iff] at hv
  obtain ⟨⟨hl, hh⟩, ha⟩ := hv
  cases p
  · exact hl
  · exact hh
  · exact ha

/-- The MAIN valves of a side that begins the stagger to its SLOW valves' closing moment stand as they did. -/
theorem startSlowClose_main (s : State) (x : SideCtl) (p : Product) :
    ((s.startSlowClose x).valves.get p).main = (x.valves.get p).main := by
  unfold State.startSlowClose
  repeat' split
  all_goals first | rfl | exact closeSlows_main _ _

theorem startSlowClose_state (s : State) (x : SideCtl) : (s.startSlowClose x).state = x.state := by
  unfold State.startSlowClose
  repeat' split
  all_goals rfl

/-- A SLOW valve that is still open has its closing moment (R53). -/
theorem startSlowClose_slow (s : State) (x : SideCtl) (p : Product)
    (h : ((s.startSlowClose x).valves.get p).slow = true) : (s.startSlowClose x).slowClose.isSome = true := by
  unfold State.startSlowClose at h ⊢
  split
  · next hany =>
    rw [if_pos hany] at h
    split
    · next d hd => simp [hd]
    · next hd =>
      rw [hd] at h
      dsimp only at h
      split
      · next hz =>
        rw [if_pos hz] at h
        simp [closeSlows_slow] at h
      · rfl
  · next hany =>
    rw [if_neg hany] at h
    simp [slow_of_not_anySlow (Bool.eq_false_iff.2 hany) p] at h

/-- A side that leaves FLOWING or SLOW for SUSPENDED or ENDING closes its valves as R53 has it. -/
theorem startSlowClose_valvesOk (s : State) {x : SideCtl} (hm : ∀ p, (x.valves.get p).main = false)
    (hs : x.state = .suspended ∨ x.state = .ending) : (s.startSlowClose x).valvesOk := fun p => by
  refine ⟨fun _ => by rw [startSlowClose_main, hm], fun hf => ?_, fun _ => startSlowClose_slow s x p⟩
  rw [startSlowClose_state] at hf
  rcases hs with hs | hs <;> simp [hs, SideState.slowMayOpen] at hf

theorem startSettle_valvesOk (s : State) {x : SideCtl} (hx : x.valvesOk) : (s.startSettle x).valvesOk := by
  unfold State.startSettle
  split
  · exact hx
  · exact hx

/-- A completed sale leaves every valve closed. -/
theorem SideCtl.cleared_valvesOk (x : SideCtl) (next : SideState) (b : Bool) : (x.cleared next b).valvesOk :=
  SideCtl.valvesOk_of_closed fun p => by cases p <;> exact ⟨rfl, rfl⟩

namespace Keeps
variable {B : Folio → Prop} {s₀ s : State} {sd : Side} {p : Product}

theorem putSide {x : SideCtl} (h : Keeps B s₀ s) (hx : ValvesOk s → x.valvesOk) : Keeps B s₀ (s.putSide sd x) := by
  unfold State.putSide
  refine ((h.setSide ?_).periodicCheck).recompose.postStatus
  exact hx

theorem updateVolume (h : Keeps B s₀ s) : Keeps B s₀ (s.updateVolume sd) := by
  unfold State.updateVolume
  dsimp only
  split
  · exact h
  · split
    · exact h
    · exact (h.setSide (by exact fun hv => hv sd)).newFigures

theorem toEnding {r : EndReason} (h : Keeps B s₀ s) : Keeps B s₀ (s.toEnding sd r) := by
  unfold State.toEnding
  dsimp only
  split
  · exact h
  · exact h.abandonZero.putSide fun _ =>
      startSettle_valvesOk _ (startSlowClose_valvesOk _ (closeMains_main _) (.inr rfl))

theorem toSlow (h : Keeps B s₀ s) : Keeps B s₀ (s.toSlow sd) :=
  h.putSide fun _ => SideCtl.valvesOk_of_slow rfl (closeMains_main _)

theorem restartNoflow (h : Keeps B s₀ s) : Keeps B s₀ (s.restartNoflow sd) := h.setSide (by exact fun hv => hv sd)

theorem blendControl {c : Captured} {v : Nat} (h : Keeps B s₀ s) (hs : (s.side sd).state = .flowing) :
    Keeps B s₀ (s.blendControl sd c v) := by
  unfold State.blendControl
  dsimp only
  refine ite (fun _ => ite (fun _ => ?_) fun _ => ?_) fun _ => h
  · refine ite (fun _ => toEnding (h.setSide ?_)) fun _ => h.setSide ?_
    · exact fun _ => SideCtl.valvesOk_of_flowing hs
    · exact fun _ => SideCtl.valvesOk_of_flowing hs
  · exact h.setSide fun _ => SideCtl.valvesOk_of_flowing hs

theorem noticeCycle (h : Keeps B s₀ s) : Keeps B s₀ (s.noticeCycle sd) := by
  have k := h.updateVolume (sd := sd)
  unfold State.noticeCycle
  dsimp only
  split
  · exact k
  · split
    · exact k
    · split
      · next hf =>
        refine ite (fun _ => k.restartNoflow.toEnding) fun _ => ite (fun _ => k.restartNoflow.toSlow) fun _ => ?_
        exact k.restartNoflow.blendControl (by simp [State.restartNoflow, hf])
      · exact ite (fun _ => k.restartNoflow.toEnding) fun _ => k.restartNoflow
      · exact ite (fun _ => k.toEnding) fun _ => k
      · exact k

theorem enterSlow {c : Composition} (h : Keeps B s₀ s) : Keeps B s₀ (s.enterSlow sd c) :=
  h.putSide fun _ => SideCtl.valvesOk_of_slow rfl fun p => by rw [valvesFor_main]; simp

theorem enterFlowing {c : Composition} (h : Keeps B s₀ s) : Keeps B s₀ (s.enterFlowing sd c) :=
  h.putSide fun _ => SideCtl.valvesOk_of_flowing rfl

theorem startingTest (h : Keeps B s₀ s) : Keeps B s₀ (s.startingTest sd) := by
  have k := h.updateVolume (sd := sd)
  unfold State.startingTest
  dsimp only
  refine ite (fun _ => ?_) fun _ => h
  split
  · exact k
  · split
    · exact k
    · exact ite (fun _ => k.toEnding) fun _ => ite (fun _ => k.enterSlow) fun _ => k.enterFlowing

theorem newStrayPeriod (h : Keeps B s₀ s) : Keeps B s₀ (s.newStrayPeriod sd) := h.trans {}

theorem attach {m : Meter} {n : Nat} (h : Keeps B s₀ s) : Keeps B s₀ (s.setChan m ((s.chan m).attach n)) :=
  h.setChan fun hv => by
    obtain ⟨h1, h2, h3, h4, -, h6, -, h8⟩ := hv m
    exact ⟨h1, h2, h3, h4, by simp [Channel.attach], h6, fun a ha => by cases ha; simp, h8⟩

theorem detach {m : Meter} (h : Keeps B s₀ s) : Keeps B s₀ (s.setChan m (s.chan m).detach) :=
  h.setChan fun hv => by
    unfold Channel.detach
    obtain ⟨h1, h2, h3, h4, h5, h6, h7, h8⟩ := hv m
    split
    · exact ⟨h1, h2, h3, h4, h5, h6, nofun, nofun⟩
    · exact hv m

theorem attachMeters {c : Composition} {n : Nat} (h : Keeps B s₀ s) : Keeps B s₀ (s.attachMeters sd c n) := by
  have one : ∀ {u : State} (p : Product), Keeps B s₀ u →
      Keeps B s₀ (if c.uses p then u.setChan ⟨sd, p⟩ ((u.chan ⟨sd, p⟩).attach n) else u) := fun p k =>
    ite (fun _ => k.attach) fun _ => k
  exact (one .aux (one .high (one .low h))).newStrayPeriod

theorem detachMeters (h : Keeps B s₀ s) : Keeps B s₀ (s.detachMeters sd) :=
  h.detach.detach.detach.newStrayPeriod

theorem closeSale {r : Option EndReason} {b : Bool} {next : SideCtl → Sale → SideState} (h : Keeps B s₀ s) :
    Keeps B s₀ (s.closeSale sd r b next) := by
  unfold State.closeSale
  dsimp only
  split
  · exact h
  · next o _ =>
    have kd := ite (c := o.cap.isSome = true) (fun _ => h.detachMeters (sd := sd)) fun _ => h
    have k := abandonZero (sd := sd) (ite (c := b = true) (fun _ => kd.releaseAll (u := .side sd)) fun _ => kd)
    refine ((k.setSide ?_).takeRecord).putSide ?_
    · exact fun _ => SideCtl.valvesOk_of_closed fun p => by cases p <;> exact ⟨rfl, rfl⟩
    · exact fun _ => SideCtl.valvesOk_of_closed fun p => by cases p <;> exact ⟨rfl, rfl⟩

theorem completeSale {r : Option EndReason} (h : Keeps B s₀ s) : Keeps B s₀ (s.completeSale sd r) := h.closeSale

theorem cutSale {r : EndReason} (h : Keeps B s₀ s) : Keeps B s₀ (s.cutSale sd r) := by
  unfold State.cutSale
  exact putSide (ite (fun _ => h.closeSale) fun _ => h) fun _ => SideCtl.cleared_valvesOk _ _ _

/-! #### Prices -/

theorem registerSide {c : Composition} (h : Keeps B s₀ s) : Keeps B s₀ (s.registerSide sd c) := by
  have one : ∀ {u : State} (p : Product), Keeps B s₀ u →
      Keeps B s₀ (if c.uses p then u.register (.side sd) p else u) := fun p k =>
    ite (fun _ => k.register) fun _ => k
  exact one .aux (one .high (one .low h))

theorem afterCapture {c : Composition} {n : Nat} (h : Keeps B s₀ s) : Keeps B s₀ (s.afterCapture sd c n) :=
  ite (fun _ => h.completeSale) fun _ =>
    ite (fun _ => h.requestZero.bothSides fun _ _ k => k.startingTest) fun _ => h.completeSale

theorem capture1 {o : Sale} {n : Fin 4} {g : Fin 6} (h : Keeps B s₀ s) (hs : (s.side sd).state = .authorized) :
    Keeps B s₀ (s.capture1 sd o n g) := by
  unfold State.capture1
  refine ((h.attachMeters.putSide fun hv => ?_).registerSide).afterCapture
  refine SideCtl.valvesOk_of_idle (x := s.side sd) ?_ (by rw [hs]; rfl) rfl
  have k := hv sd
  simp only [State.side, State.attachMeters_frame] at k
  exact k

theorem showTest {a b c : Bool} (h : Keeps B s₀ s) : Keeps B s₀ (s.showTest sd a b c) := by
  unfold State.showTest
  dsimp only
  have k : Keeps B s₀ (s.setSide sd { s.side sd with waiting := a, nozzleLamp := b, noPumpTest := c }) :=
    h.setSide (by exact fun hv => hv sd)
  have k' := ite (c := ({ s.side sd with waiting := a, nozzleLamp := b, noPumpTest := c } : SideCtl) = s.side sd)
    (fun _ => k) fun _ => k.recompose (sd := sd)
  exact ite (fun _ => k') fun _ => k'.postStatus

theorem testReadiness (h : Keeps B s₀ s) : Keeps B s₀ (s.testReadiness sd) := by
  unfold State.testReadiness
  dsimp only
  refine ite (fun hs => ?_) fun _ => h
  split
  · exact h
  · split
    · exact ite (fun _ => h.showTest) fun _ => ite (fun _ => h.showTest) fun _ => h.capture1 hs
    · exact h.showTest

theorem tellWaiting (h : Keeps B s₀ s) : Keeps B s₀ s.tellWaiting :=
  h.bothSides fun _ _ k => ite (fun _ => k.testReadiness) fun _ => k

theorem doSwap {b : Staged} (h : Keeps B s₀ s) : Keeps B s₀ (s.doSwap b) := by
  unfold State.doSwap
  exact ((postPriceView (recomposeBoth (h.trans {}))).raise.requestSnapshot).tellWaiting

theorem swapTest (h : Keeps B s₀ s) : Keeps B s₀ s.swapTest := by
  unfold State.swapTest
  refine ite (fun _ => ?_) fun _ => h
  split
  · exact h.doSwap
  · exact h

theorem setDue (h : Keeps B s₀ s) : Keeps B s₀ s.setDue := swapTest (updatePriceView (h.trans {}))

theorem clockForPrices (h : Keeps B s₀ s) : Keeps B s₀ s.clockForPrices := by
  unfold State.clockForPrices
  split
  · exact ite (fun _ => h.setDue) fun _ => h
  · exact h

end Keeps
end Sys2Proof.Machine
end

/-! ### What the stages of opening and closing keep -/
section
namespace Sys2Proof.Machine

theorem ModeOk.ready_of {s : State} (h : ModeOk s) (hd : s.dormant = false) : s.exch.ready = true := by
  rw [h.1, hd]; rfl

theorem ModeOk.mode_of_stage {s : State} (h : ModeOk s) {st : Stage} (hs : s.mode.stage = some st) :
    s.mode.mode = st.mode := h.2 st hs

/-- With a stage in progress READY is 1. -/
theorem ModeOk.ready_of_stage {s : State} (h : ModeOk s) {st : Stage} (hs : s.mode.stage = some st) :
    s.exch.ready = true := by
  refine h.ready_of ?_
  have := h.2 st hs
  unfold State.dormant
  rw [this]
  cases st <;> rfl

/-- What the Mode Controller holds after a change of mode. -/
theorem State.changeMode_mode (s : State) (m : Mode) (st : Option Stage) (d : Detail) :
    (s.changeMode m st d).mode = { s.mode with mode := m, stage := st } := by
  unfold State.changeMode State.clearNight
  cases m <;> simp [State.setMode]

/-! #### The mode and stage of operations that end a sale -/

/-- Nothing of the Mode Controller but the products PRIME awaits is changed. -/
def ModeStands (s t : State) : Prop := t.mode = { s.mode with primeWait := t.mode.primeWait }

namespace ModeStands
variable {s₀ s t : State} {sd : Side} {p : Product}

theorem refl (s : State) : ModeStands s s := rfl

theorem of_eq (h : ModeStands s₀ s) (ht : t.mode = s.mode) : ModeStands s₀ t := by
  unfold ModeStands at *; rw [ht]; exact h

theorem stage (h : ModeStands s t) : t.mode.stage = s.mode.stage := by rw [h]

theorem mode (h : ModeStands s t) : t.mode.mode = s.mode.mode := by rw [h]

theorem clock (h : ModeStands s t) : t.mode.clock = s.mode.clock := by rw [h]

theorem ite {c : Prop} [Decidable c] {t u : State} (ht : c → ModeStands s₀ t) (hu : ¬ c → ModeStands s₀ u) :
    ModeStands s₀ (if c then t else u) := by
  split
  · next hc => exact ht hc
  · next hc => exact hu hc

theorem bothSides {f : State → Side → State} (h : ModeStands s₀ s)
    (hf : ∀ u sd, ModeStands s₀ u → ModeStands s₀ (f u sd)) : ModeStands s₀ (s.bothSides f) :=
  hf _ _ (hf _ _ h)

theorem reportRunning {u : User} (h : ModeStands s₀ s) : ModeStands s₀ (s.reportRunning u p) := by
  unfold State.reportRunning
  split
  · exact ite (fun _ => h.of_eq rfl) fun _ => h
  · refine ite (fun _ => ?_) fun _ => h
    unfold ModeStands at *
    rw [h]

theorem reportAll {u : Users} (h : ModeStands s₀ s) : ModeStands s₀ (s.reportAll u p) := by
  unfold State.reportAll
  have ka := ite (c := u.a = true) (fun _ => h.reportRunning (u := .side .a) (p := p)) fun _ => h
  have kb := ite (c := u.b = true) (fun _ => ka.reportRunning (u := .side .b) (p := p)) fun _ => ka
  exact ite (fun _ => kb.reportRunning) fun _ => kb

theorem confirmStart (h : ModeStands s₀ s) : ModeStands s₀ (s.confirmStart p) := by
  unfold State.confirmStart
  refine ite (fun _ => of_eq (reportAll (p := p) (u := (s.motor p).users) (h.of_eq ?_)) (State.postStatus_frame _).2.2.2.2.2.2.2.2.2.1)
    fun _ => h.of_eq (by simp)
  simp

theorem arbiterTest (h : ModeStands s₀ s) : ModeStands s₀ s.arbiterTest := by
  unfold State.arbiterTest
  split
  · exact h
  · refine ite (fun _ => ?_) fun _ => h
    unfold State.grant
    have k : ModeStands s₀ s := h
    exact ite (fun _ => confirmStart (k.of_eq (by simp))) fun _ => k.of_eq (by simp)

theorem newHeadTest {o : Option Product} (h : ModeStands s₀ s) : ModeStands s₀ (s.newHeadTest o) :=
  ite (fun _ => h) fun _ => h.arbiterTest

theorem joinFifo (h : ModeStands s₀ s) : ModeStands s₀ (s.joinFifo p) := by
  unfold State.joinFifo
  exact arbiterTest (h.of_eq (by simp only [State.postStatus_frame]; split <;> simp))

theorem register {u : User} (h : ModeStands s₀ s) : ModeStands s₀ (s.register u p) := by
  unfold State.register
  dsimp only
  split
  · exact joinFifo (h.of_eq (by simp))
  · refine of_eq ?_ (State.postStatus_frame _).2.2.2.2.2.2.2.2.2.1
    exact reportRunning (h.of_eq (by simp))
  · exact reportRunning (h.of_eq (by simp))
  · exact h.of_eq (by simp)
  · exact h.of_eq (by simp)
  · exact h.of_eq (by simp)

theorem release {u : User} (h : ModeStands s₀ s) : ModeStands s₀ (s.release u p) := by
  refine h.of_eq ?_
  unfold State.release
  dsimp only
  repeat' split
  all_goals rfl

theorem releaseAll {u : User} (h : ModeStands s₀ s) : ModeStands s₀ (s.releaseAll u) :=
  h.release.release.release.newHeadTest

theorem registerSide {c : Composition} (h : ModeStands s₀ s) : ModeStands s₀ (s.registerSide sd c) := by
  have one : ∀ {u : State} (p : Product), ModeStands s₀ u →
      ModeStands s₀ (if c.uses p then u.register (.side sd) p else u) := fun p k =>
    ite (fun _ => k.register) fun _ => k
  exact one .aux (one .high (one .low h))

theorem closeSale {r : Option EndReason} {b : Bool} {next : SideCtl → Sale → SideState} (h : ModeStands s₀ s) :
    ModeStands s₀ (s.closeSale sd r b next) := by
  unfold State.closeSale
  dsimp only
  split
  · exact h
  · next o _ =>
    have kd := ite (c := o.cap.isSome = true) (t := s.detachMeters sd) (fun _ => h.of_eq (by simp)) fun _ => h
    have k := ite (c := b = true) (fun _ => kd.releaseAll (u := .side sd)) fun _ => kd
    exact k.of_eq (by simp)

theorem completeSale {r : Option EndReason} (h : ModeStands s₀ s) : ModeStands s₀ (s.completeSale sd r) := h.closeSale

theorem startingTest (h : ModeStands s₀ s) : ModeStands s₀ (s.startingTest sd) := h.of_eq (by simp)

theorem afterCapture {c : Composition} {n : Nat} (h : ModeStands s₀ s) : ModeStands s₀ (s.afterCapture sd c n) :=
  ite (fun _ => h.completeSale) fun _ =>
    ite (fun _ => bothSides (s := s.requestZero sd n) (h.of_eq (by simp)) fun _ _ k => k.startingTest) fun _ =>
      h.completeSale

theorem testReadiness (h : ModeStands s₀ s) : ModeStands s₀ (s.testReadiness sd) := by
  unfold State.testReadiness
  dsimp only
  refine ite (fun hs => ?_) fun _ => h
  split
  · exact h
  · split
    · refine ite (fun _ => h.of_eq (by simp)) fun _ => ite (fun _ => h.of_eq (by simp)) fun _ => ?_
      unfold State.capture1
      exact (registerSide (h.of_eq (by simp))).afterCapture
    · exact h.of_eq (by simp)

theorem swapTest (h : ModeStands s₀ s) : ModeStands s₀ s.swapTest := by
  unfold State.swapTest
  refine ite (fun _ => ?_) fun _ => h
  split
  · unfold State.doSwap State.tellWaiting
    exact bothSides (h.of_eq (by simp)) fun _ _ k => ite (fun _ => k.testReadiness) fun _ => k
  · exact h

end ModeStands
end Sys2Proof.Machine
end

/-! ### What the stages of opening and closing keep -/
section
-- Elaborated one after another: in parallel the threads' stacks pass the memory limit.
set_option Elab.async false
namespace Sys2Proof.Machine

namespace Keeps
variable {B : Folio → Prop} {s₀ s : State} {sd : Side} {p : Product}

/-- The Mode Controller's other items change. -/
theorem setMode {m : ModeCtl} (h : Keeps B s₀ s) (hm : m.mode = s.mode.mode := by rfl)
    (hs : m.stage = s.mode.stage := by rfl) : Keeps B s₀ (s.setMode m) :=
  h.trans
    { mode := fun hv => by
        refine ⟨hv.1.trans ?_, fun st hst => hm.trans (hv.2 st (hs.symm.trans hst))⟩
        simp only [State.dormant, State.setMode, hm] }

theorem toStage {st : Stage} (h : Keeps B s₀ s) (hm : ModeOk s₀ → s.mode.mode = st.mode) :
    Keeps B s₀ (s.toStage st) := by
  unfold State.toStage
  refine postStatus ?_
  have k : Keeps (fun _ => False) s { s.setMode { s.mode with stage := some st } with mode := s.mode } := {}
  exact
    { now := h.now, pending := h.pending, mask := h.mask, config := h.config, ready := h.ready, stray := h.stray
      spiOut := h.spiOut, fresh := h.fresh, bytes := h.bytes, memory := h.memory, valves := h.valves
      motors := h.motors, channels := h.channels
      mode := fun hv => ⟨(h.mode hv).1, fun st' hst => by cases hst; exact hm hv⟩ }

/-- A change to a mode outside COLD and HOLDUP, with READY 1. -/
theorem changeMode {m : Mode} {st : Option Stage} {d : Detail} (h : Keeps B s₀ s)
    (hr : ModeOk s₀ → s.exch.ready = true) (hm : m ≠ .cold ∧ m ≠ .holdup := by simp)
    (hs : ∀ x, st = some x → m = x.mode := by simp [Stage.mode]) :
    Keeps B s₀ (s.changeMode m st d) := by
  have k : Keeps B s₀ (s.setMode { s.mode with mode := m, stage := st }) :=
    { now := h.now, pending := h.pending, mask := h.mask, config := h.config, ready := h.ready, stray := h.stray
      spiOut := h.spiOut, fresh := h.fresh, bytes := h.bytes, memory := h.memory, valves := h.valves
      motors := h.motors, channels := h.channels
      mode := fun hv => by
        refine ⟨?_, hs⟩
        show s.exch.ready = _
        rw [hr hv]
        cases m <;> simp_all [State.dormant, State.setMode] }
  unfold State.changeMode
  have k' : Keeps B s₀ ((((s.setMode { s.mode with mode := m, stage := st }).raise .mode m.code (.num s.mode.mode.code)
      d)).clearNight m) := by
    unfold State.clearNight
    split
    · exact k.raise.trans {}
    · exact k.raise
  exact k'.recomposeBoth.postStatus

theorem snapshotStage (h : Keeps B s₀ s) (hm : ModeOk s₀ → s.mode.mode = .closing) : Keeps B s₀ s.snapshotStage := by
  unfold State.snapshotStage
  exact requestSnapshot ((h.toStage (st := .snapshot) hm).trans {})

theorem darkReport (h : Keeps B s₀ s) : Keeps B s₀ s.darkReport := by
  unfold State.darkReport
  refine ite (fun _ => ?_) fun _ => h
  have k : Keeps B s₀ { s with display := { s.display with supply := false, darkening := false } } := h.trans {}
  exact ite (fun hs => k.snapshotStage fun hv => (k.mode hv).2 _ hs) fun _ => k

theorem displayStage (h : Keeps B s₀ s) (hm : ModeOk s₀ → s.mode.mode = .closing) : Keeps B s₀ s.displayStage :=
  (h.toStage (st := .display) hm).goDark.darkReport

theorem motorsOffStage (h : Keeps B s₀ s) (hm : ModeOk s₀ → s.mode.mode = .closing) : Keeps B s₀ s.motorsOffStage :=
  (h.toStage (st := .motorsOff) hm).stopMotor.setMode

theorem spacingStep (h : Keeps B s₀ s) (hm : ModeOk s₀ → s.mode.mode = .closing) : Keeps B s₀ s.spacingStep := by
  unfold State.spacingStep
  split
  · exact h.stopMotor.setMode
  · refine (h.stopMotor.setMode).displayStage fun hv => ?_
    show (s.stopMotor .aux).mode.mode = _
    rw [← hm hv]; simp
  · exact h.setMode

theorem readersOffStage (h : Keeps B s₀ s) (hm : ModeOk s₀ → s.mode.mode = .closing) :
    Keeps B s₀ s.readersOffStage :=
  ((h.toStage (st := .readersOff) hm).gateClaim.gateClaim).motorsOffStage fun hv => by
    simpa [State.toStage, State.setMode] using hm hv

theorem drainTest (h : Keeps B s₀ s) : Keeps B s₀ s.drainTest := by
  unfold State.drainTest
  refine ite (fun hc => ?_) fun _ => h
  exact (h.setMode (m := { s.mode with graceT := none })).readersOffStage fun hv => (h.mode hv).2 _ hc.1

theorem drainReport (h : Keeps B s₀ s) : Keeps B s₀ (s.drainReport sd) :=
  ite (fun _ => h.setMode.drainTest) fun _ => h

/-! #### Completions and what they bring -/

theorem finishSale {r : Option EndReason} (h : Keeps B s₀ s) : Keeps B s₀ (s.finishSale sd r) := by
  unfold State.finishSale
  exact (bothSides (ite (fun _ => h.completeSale.swapTest) fun _ => h.completeSale) fun _ _ k => k.startingTest).drainReport

theorem noticeMeterFault {m : Meter} (h : Keeps B s₀ s) : Keeps B s₀ (s.noticeMeterFault m) := by
  unfold State.noticeMeterFault
  dsimp only
  split
  · exact h.testReadiness
  · exact ite (fun _ => h.finishSale) fun _ => h
  · exact ite (fun _ => h.toEnding) fun _ => h
  · exact ite (fun _ => h.toEnding) fun _ => h
  · exact ite (fun _ => h.toEnding) fun _ => h
  · exact h

theorem noticeMotorFailed (h : Keeps B s₀ s) : Keeps B s₀ (s.noticeMotorFailed sd p) := by
  unfold State.noticeMotorFailed
  dsimp only
  generalize (match s.saleComp sd with | some c => c.uses p | none => false) = needs
  split
  · exact h.testReadiness
  · exact ite (fun _ => h.finishSale) fun _ => h
  · exact ite (fun _ => h.toEnding) fun _ => h
  · exact ite (fun _ => h.toEnding) fun _ => h
  · exact ite (fun _ => h.toEnding) fun _ => h
  · exact h

theorem noticeDisplayFault (h : Keeps B s₀ s) : Keeps B s₀ (s.noticeDisplayFault sd) := by
  unfold State.noticeDisplayFault
  split
  · exact h.finishSale
  · exact h.finishSale
  · exact h.toEnding
  · exact h.toEnding
  · exact h.toEnding
  · exact h

theorem markReaderLost (h : Keeps B s₀ s) : Keeps B s₀ (s.markReaderLost sd) := by
  unfold State.markReaderLost
  dsimp only
  split
  · exact h.setSide (by exact fun hv => hv sd)
  · exact h

theorem noticeGate (h : Keeps B s₀ s) : Keeps B s₀ (s.noticeGate sd) := by
  unfold State.noticeGate
  split
  · refine ite (fun _ => ?_) fun _ => h
    split
    · exact h.finishSale
    · exact h.markReaderLost
    · exact h.markReaderLost
    · exact h.markReaderLost
    · exact h.markReaderLost
    · exact h.markReaderLost
    · exact h
  · exact h

theorem noticeLeftFailed (h : Keeps B s₀ s) : Keeps B s₀ s.noticeLeftFailed := h.bothSides fun _ _ k => k.testReadiness

theorem meterFault {m : Meter} {c : FaultCause} {n : Nat} (h : Keeps B s₀ s) : Keeps B s₀ (s.meterFault m c n) := by
  unfold State.meterFault
  dsimp only
  split
  · exact h
  · refine ((h.setChan ?_).raise.postStatus).noticeMeterFault
    exact fun hv => hv m

/-! #### Opening -/

theorem callIfLifted (h : Keeps B s₀ s) : Keeps B s₀ (s.callIfLifted sd) := by
  unfold State.callIfLifted
  refine ite (fun hc => h.putSide fun hv => ?_) fun _ => h
  exact SideCtl.valvesOk_of_idle (hv sd) (by rw [hc.1]; rfl) rfl

theorem enterOpen (h : Keeps B s₀ s) (hr : ModeOk s₀ → s.exch.ready = true) : Keeps B s₀ s.enterOpen :=
  (h.changeMode hr).bothSides fun _ _ k => k.callIfLifted

theorem settleReader (h : Keeps B s₀ s) : Keeps B s₀ (s.settleReader sd) := by
  unfold State.settleReader
  refine ite (fun _ => ?_) fun _ => h
  split
  · exact h.setMode
  · exact h.setMode
  · exact h

theorem readersTest (h : Keeps B s₀ s) : Keeps B s₀ s.readersTest := by
  unfold State.readersTest
  refine ite (fun hs => ?_) fun _ => h
  have k : Keeps B s₀ (s.bothSides State.settleReader) := h.bothSides fun _ _ k => k.settleReader
  refine ite (fun _ => k.enterOpen fun hv => ?_) fun _ => k
  rw [k.ready, ← h.ready]
  exact (h.mode hv).ready_of_stage hs

theorem readersStage (h : Keeps B s₀ s) (hm : ModeOk s₀ → s.mode.mode = .opening) : Keeps B s₀ s.readersStage := by
  unfold State.readersStage
  have k := (h.toStage (st := .readers) hm).setMode (m := { (s.toStage .readers).mode with
    readersAwait := Both.same true })
  exact (k.bothSides fun _ _ k => ite (fun _ => k.gateStart) fun _ => k).readersTest

theorem primeTest (h : Keeps B s₀ s) : Keeps B s₀ s.primeTest := by
  unfold State.primeTest
  refine ite (fun hc => ?_) fun _ => h
  refine (h.releaseAll.setMode).readersStage fun hv => ?_
  · show (s.releaseAll .prime).mode.mode = _
    rw [State.releaseAll_frame .. |>.2.2.2.2.2.2.2.1]
    exact (h.mode hv).2 _ hc.1

theorem primeFailed (h : Keeps B s₀ s) : Keeps B s₀ (s.primeFailed p) := ite (fun _ => h.setMode) fun _ => h

theorem primeRegister (h : Keeps B s₀ s) : Keeps B s₀ (s.primeRegister p) :=
  ite (fun _ => ite (fun _ => h.register.primeFailed) fun _ => h.register) fun _ => h

theorem primeStage (h : Keeps B s₀ s) (hm : ModeOk s₀ → s.mode.mode = .opening) : Keeps B s₀ s.primeStage := by
  unfold State.primeStage
  refine ((((h.toStage (st := .prime) hm).setMode).primeRegister.primeRegister).primeRegister).primeTest

theorem afterMotors (h : Keeps B s₀ s) : Keeps B s₀ s.afterMotors :=
  (h.bothSides fun _ _ k => k.startingTest).primeTest

theorem lampDone {b : Bool} (h : Keeps B s₀ s) : Keeps B s₀ (s.lampDone sd b) := by
  unfold State.lampDone
  refine ite (fun hc => ?_) fun _ => h
  refine ite (fun _ => h.setMode.primeStage fun hv => ?_) fun _ => h.setMode
  · exact (h.mode hv).2 _ hc.1

theorem lampStage (h : Keeps B s₀ s) (hm : ModeOk s₀ → s.mode.mode = .opening) : Keeps B s₀ s.lampStage := by
  unfold State.lampStage
  refine ((h.toStage (st := .lamp) hm).setMode).bothSides fun _ _ k => ite (fun _ => k) fun _ => k.beginLamp

theorem warmDone {b : Bool} (h : Keeps B s₀ s) : Keeps B s₀ (s.warmDone b) := by
  unfold State.warmDone
  refine ite (fun hs => h.setMode.lampStage fun hv => ?_) fun _ => h
  · exact (h.mode hv).2 _ hs

theorem warmStage (h : Keeps B s₀ s) (hm : ModeOk s₀ → s.mode.mode = .opening) : Keeps B s₀ s.warmStage := by
  unfold State.warmStage
  have k := h.toStage (st := .warm) hm
  exact ite (fun _ => warmDone (k.trans {})) fun _ => k.trans {}

theorem returnToClosed {c : ModeCause} (h : Keeps B s₀ s) (hr : ModeOk s₀ → s.exch.ready = true) :
    Keeps B s₀ (s.returnToClosed c) := by
  unfold State.returnToClosed
  have k : Keeps B s₀ { ((s.releaseAll .prime).gateClaim .a).gateClaim .b with
      display := { (((s.releaseAll .prime).gateClaim .a).gateClaim .b).display with heater := false, warmT := none } } :=
    h.releaseAll.gateClaim.gateClaim.trans {}
  refine (k.goDark.darkReport.setMode).changeMode (fun hv => ?_)
  · have := k.goDark.darkReport.ready
    exact (this.trans h.ready.symm).trans (hr hv)

theorem checkStage (h : Keeps B s₀ s) (hm : ModeOk s₀ → s.mode.mode = .opening) : Keeps B s₀ s.checkStage := by
  unfold State.checkStage
  have k := h.toStage (st := .check) hm
  dsimp only
  split
  · refine k.raise.returnToClosed fun hv => ?_
    rw [k.raise.ready, ← h.ready]
    exact (h.mode hv).ready_of (by simp [State.dormant, hm hv])
  · refine k.warmStage fun hv => ?_
    simpa [State.toStage, State.setMode] using hm hv

theorem beginOpening {c : ModeCause} (h : Keeps B s₀ s) (hr : ModeOk s₀ → s.exch.ready = true) :
    Keeps B s₀ (s.beginOpening c) := by
  unfold State.beginOpening
  have k := h.setMode (m := { s.mode with outcome := Outcome.clear, wakeT := some (s.now + seconds 2) })
  exact (k.changeMode hr).supplyOn

theorem refuseSale (h : Keeps B s₀ s) : Keeps B s₀ (s.refuseSale sd) := ite (fun _ => h.finishSale) fun _ => h

end Keeps

/-- Outside DRAIN a completion leaves the mode and the stage. -/
theorem ModeStands.finishSale {s₀ s : State} {sd : Side} {r : Option EndReason} (h : ModeStands s₀ s)
    (hd : s₀.mode.stage ≠ some .drain) : ModeStands s₀ (s.finishSale sd r) := by
  unfold State.finishSale
  have kc := h.completeSale (sd := sd) (r := r)
  have k := ModeStands.bothSides (f := State.startingTest)
    (ite (c := (s.side sd).state.blocksSwap = true) (fun _ => kc.swapTest) fun _ => kc) fun _ _ k => k.startingTest
  dsimp only
  generalize State.bothSides _ _ = u at k
  unfold State.drainReport
  rwa [if_neg]
  rw [k.stage]
  exact fun hc => hd hc.1

namespace Keeps
variable {B : Folio → Prop} {s₀ s : State} {sd : Side} {p : Product}

theorem beginClosing {c : ModeCause} (h : Keeps B s₀ s) (hr : ModeOk s₀ → s.exch.ready = true) :
    Keeps B s₀ (s.beginClosing c) := by
  unfold State.beginClosing
  have k := h.changeMode (m := .closing) (st := some .refuse) (d := .modeCause c) hr
  have refused : ModeStands (s.changeMode .closing (some .refuse) (.modeCause c))
      ((s.changeMode .closing (some .refuse) (.modeCause c)).bothSides State.refuseSale) :=
    ModeStands.bothSides (ModeStands.refl _) fun _ _ k =>
      ModeStands.ite (fun _ => k.finishSale (by rw [State.changeMode_mode]; simp)) fun _ => k
  refine ((toStage (k.bothSides fun _ _ k => k.refuseSale) fun _ => ?_).setMode).drainTest
  · rw [refused.mode, State.changeMode_mode]; rfl

end Keeps
end Sys2Proof.Machine
end

/-! ### What the notices and the requests keep -/
section
-- Elaborated one after another: in parallel the threads' stacks pass the memory limit.
set_option Elab.async false
namespace Sys2Proof.Machine

theorem ModeOk.ready_of_mode {s : State} (h : ModeOk s) {m : Mode} (hm : s.mode.mode = m)
    (hd : m ≠ .cold ∧ m ≠ .holdup := by simp) : s.exch.ready = true := by
  refine h.ready_of ?_
  unfold State.dormant
  rw [hm]
  cases m <;> simp_all

theorem MotorsOk.night {s : State} (h : MotorsOk s) (p : Product) :
    (s.motor p).night.contactor = (s.motor p).night.state.turning := by
  have hc := h.1 p
  unfold Motor.night
  dsimp only
  split
  · next hf => rw [hc, hf]; rfl
  · exact hc

theorem Motor.night_starting {m : Motor} (h : m.night.state = .starting) : m.state = .starting := by
  unfold Motor.night at h
  dsimp only at h
  split at h
  · cases h
  · exact h

namespace Keeps
variable {B : Folio → Prop} {s₀ s : State} {sd : Side} {p : Product}

theorem noStage (h : Keeps B s₀ s) : Keeps B s₀ (s.setMode s.mode.noStage) :=
  h.trans { mode := fun hv => ⟨hv.1, nofun⟩ }

theorem nightSide (h : Keeps B s₀ s) : Keeps B s₀ (s.nightSide sd) := by
  unfold State.nightSide
  dsimp only
  split
  · next hs =>
    refine h.putSide fun hv => ?_
    exact SideCtl.valvesOk_of_idle (hv sd) (by rw [hs]; rfl) rfl
  · next hs =>
    refine h.putSide fun hv => ?_
    exact SideCtl.valvesOk_of_idle (hv sd) (by rw [hs]; rfl) rfl
  · exact h

theorem night (h : Keeps B s₀ s) (hr : ModeOk s₀ → s.exch.ready = true) : Keeps B s₀ s.night := by
  unfold State.night
  have k := (h.noStage.changeMode (m := .closed) (st := none) (d := .modeCause .night) hr).bothSides
    (f := State.nightSide) fun _ _ k => k.nightSide
  dsimp only
  generalize State.bothSides _ _ = u at k
  have k' : Keeps B s₀ { u with
      display := { u.display with side := u.display.side.map DispSide.night }
      motors := { u.motors with motor := u.motors.motor.map Motor.night, fifo := [] }
      journal := { u.journal with periodicT := none, periodicSum := 0 } } :=
    k.trans
      { motors := fun hv => by
          refine ⟨fun p => ?_, fun p q hp hq => ?_⟩
          · simp only [State.motor, PerProduct.get_map']
            exact hv.night p
          · simp only [State.motor, PerProduct.get_map'] at hp hq
            exact hv.2 p q (Motor.night_starting hp) (Motor.night_starting hq) }
  exact noticeLeftFailed (ite (fun _ => k'.postStatus) fun _ => k')

theorem clockForSchedule (h : Keeps B s₀ s) : Keeps B s₀ s.clockForSchedule := by
  unfold State.clockForSchedule
  refine ite (fun _ => h) fun _ => ?_
  split
  · exact h
  · refine ite (fun _ => ite (fun _ => ?_) fun _ => ite (fun _ => ?_) fun _ => h) fun _ => h
    · split
      · next hm => exact h.beginOpening fun hv => (h.mode hv).ready_of_mode hm
      · exact h
    · split
      · next hm => exact h.beginClosing fun hv => (h.mode hv).ready_of_mode hm
      · next hm => exact h.returnToClosed fun hv => (h.mode hv).ready_of_mode hm
      · exact h

theorem newClock (h : Keeps B s₀ s) : Keeps B s₀ s.newClock := h.clockForPrices.clockForSchedule

theorem openNowTest (h : Keeps B s₀ s) : Keeps B s₀ s.openNowTest :=
  ite (fun hc => h.beginOpening fun hv => (h.mode hv).ready_of_mode hc.1) fun _ => h

theorem afterGate {g : GateState} (h : Keeps B s₀ s) : Keeps B s₀ (s.afterGate sd g) := by
  unfold State.afterGate
  exact readersTest (ite (fun _ => h.noticeGate) fun _ => h)

theorem onGate {f : State → State} (hf : Keeps B s₀ (f s)) : Keeps B s₀ (s.onGate sd f) := hf.afterGate

theorem motorFails {c : MotorCause} (h : Keeps B s₀ s) : Keeps B s₀ (s.motorFails p c) :=
  (h.failMotor.noticeMotorFailed.noticeMotorFailed).primeFailed.arbiterTest.afterMotors

theorem motorRecovers (h : Keeps B s₀ s) (hs : (s.motor p).state = .failed) : Keeps B s₀ (s.motorRecovers p) :=
  ((h.unfailMotor hs).noticeLeftFailed).rejoin.afterMotors

theorem zeroFailed (h : Keeps B s₀ s) : Keeps B s₀ (s.zeroFailed sd) := by
  unfold State.zeroFailed
  split
  · split
    · exact ite (fun _ => h.finishSale) fun _ => h
    · exact h
  · exact h

theorem displayFails {c : DispCause} {n : Nat} (h : Keeps B s₀ s) : Keeps B s₀ (s.displayFails sd c n) := by
  unfold State.displayFails
  have k := h.releaseRetest (sd := sd) |>.zeroFailed (sd := sd)
  exact ((ite (fun _ => k.lampDone) fun _ => k).displayFault.noticeDisplayFault).darkReport

theorem zeroVerified {n : Nat} (h : Keeps B s₀ s) : Keeps B s₀ (s.zeroVerified sd n) := by
  unfold State.zeroVerified
  dsimp only
  split
  · refine ite (fun _ => startingTest (h.setSide ?_)) fun _ => h
    exact fun hv => hv sd
  · exact h

/-! #### Transfers -/

theorem refreshEnds {b : Bool} {d : Option Nat} (h : Keeps B s₀ s) : Keeps B s₀ (s.refreshEnds sd b d) := by
  unfold State.refreshEnds
  dsimp only
  split
  · exact ite (fun _ => h.displayFails) fun _ => h.setDisp
  · exact ite (fun _ => h.setDisp) fun _ => h

theorem z1Ends {d : Option Nat} (h : Keeps B s₀ s) : Keeps B s₀ (s.z1Ends sd d) := by
  unfold State.z1Ends
  dsimp only
  split
  · refine ite (fun _ => ?_) fun _ => h
    split
    · exact h.displayFails
    · exact h.setDisp
  · exact h

theorem z2Ends {d : Option Nat} (h : Keeps B s₀ s) : Keeps B s₀ (s.z2Ends sd d) := by
  unfold State.z2Ends
  dsimp only
  split
  · refine ite (fun _ => ?_) fun _ => h
    split
    · exact h.displayFails
    · exact h.setDisp.zeroVerified
  · exact h

theorem t1Ends (h : Keeps B s₀ s) : Keeps B s₀ (s.t1Ends sd) := ite (fun _ => h.setDisp) fun _ => h

theorem t2Ends {d : Option Nat} (h : Keeps B s₀ s) : Keeps B s₀ (s.t2Ends sd d) := by
  unfold State.t2Ends
  refine ite (fun _ => ?_) fun _ => h
  split
  · exact h.displayFails
  · exact h.setDisp

theorem lampPasses {l : LampTest} (h : Keeps B s₀ s) : Keeps B s₀ (s.lampPasses sd l) := by
  unfold State.lampPasses
  exact lampDone (ite (fun _ => h.setDisp.postStatus.raise) fun _ => h.setDisp.postStatus)

theorem t3Ends {d : Option Nat} (h : Keeps B s₀ s) : Keeps B s₀ (s.t3Ends sd d) := by
  unfold State.t3Ends
  split
  · refine ite (fun _ => ?_) fun _ => h
    split
    · exact h.displayFails
    · exact h.lampPasses
  · exact h

theorem blankEnds (h : Keeps B s₀ s) : Keeps B s₀ (s.blankEnds sd) := by
  unfold State.blankEnds State.blankedDark State.retestBegins
  dsimp only
  have k := h.releaseRetest (sd := sd) |>.setDisp (sd := sd) (d := (s.disp sd).enterDark) |>.postStatus
  refine ite (fun _ => darkReport (ite (fun _ => k.beginLamp) fun _ => k)) fun _ => ?_
  split
  · exact ite (fun _ => ite (fun _ => h.setDisp.postStatus.handOver) fun _ => h.setDisp.postStatus) fun _ => h
  · exact h

theorem judgeTransfer {q : Purpose} {b : Bool} {d : Option Nat} (h : Keeps B s₀ s) :
    Keeps B s₀ (s.judgeTransfer sd q b d) := by
  unfold State.judgeTransfer
  split
  · exact h.refreshEnds
  · exact h.z1Ends
  · exact h.z2Ends
  · exact h.t1Ends
  · exact h.t2Ends
  · exact h.t3Ends
  · exact h.blankEnds

/-! #### Requests -/

theorem serveRetest {n : Nat} (h : Keeps B s₀ s) : Keeps B s₀ (s.serveRetest n) := by
  unfold State.serveRetest
  dsimp only
  split
  · exact h.handOver
  · next sd _ =>
    refine ite (fun _ => h.handOver) fun _ => ?_
    have k : Keeps B s₀ (match (s.disp sd).state with
        | .lit => s.beginLamp sd true
        | _ => (s.beginLamp sd false).handOver Folio.siteOrder .done) := by
      split
      · exact h.beginLamp
      · exact h.beginLamp.handOver
    exact ite (fun _ => k.darkenSide) fun _ => k

theorem serveMessage (h : Keeps B s₀ s) : Keeps B s₀ (s.serveMessage sd) := h.setDisp.recompose.handOver

theorem takeReading {t : Int} (h : Keeps B s₀ s) : Keeps B s₀ (s.takeReading t) := by
  unfold State.takeReading
  exact ite (fun _ => warmDone (h.trans {})) fun _ => h.trans {}

theorem takeSwitch {b : Bool} (h : Keeps B s₀ s) : Keeps B s₀ (s.takeSwitch b) :=
  ite (fun _ => h) fun _ => postStatus (recomposeBoth (h.trans {}))

theorem applyCal {m : Meter} {e : CalEntry} (h : Keeps B s₀ s)
    (he : ∀ cf, e = .set cf → 256 ≤ cf ∧ cf ≤ 16383) : Keeps B s₀ (s.applyCal m e) := by
  unfold State.applyCal
  split
  · exact h
  · next cf =>
    refine (raise (h.trans {})).setChan fun hv => ?_
    obtain ⟨h1, h2, h3, h4, h5, h6, h7, h8⟩ := hv m
    unfold Channel.deliver
    dsimp only
    split
    · exact ⟨h1, h2, h3, h4, h5, h6, h7, fun x hx => by cases hx; exact he cf rfl⟩
    · exact ⟨h1, h2, h3, h4, h5, h6, h7, h8⟩

theorem applyCals {r : CalReq} {l : List Meter} (h : Keeps B s₀ s)
    (he : ∀ m ∈ l, ∀ cf, PerMeter.get r m = .set cf → 256 ≤ cf ∧ cf ≤ 16383) : Keeps B s₀ (s.applyCals r l) := by
  induction l generalizing s with
  | nil => exact h
  | cons m rest ih =>
    exact ih (h.applyCal (he m (by simp))) fun k hk => he k (by simp [hk])

end Keeps

theorem mem_allMeters (m : Meter) : m ∈ Meter.all := by
  obtain ⟨sd, p⟩ := m
  cases sd <;> cases p <;> decide

/-- Entries that R157 does not refuse carry a CF in range. -/
theorem firstBadCal_none {s : State} {r : CalReq} (h : s.firstBadCal r = none) (m : Meter) (cf : Nat)
    (hm : PerMeter.get r m = .set cf) : 256 ≤ cf ∧ cf ≤ 16383 := by
  unfold State.firstBadCal at h
  have := List.findSome?_eq_none_iff.1 h m (mem_allMeters m)
  simp only [State.calRefusal, hm, Option.map_eq_none_iff] at this
  split at this
  · cases this
  · next hs =>
    simp only [outOfStep, Bool.or_eq_true, decide_eq_true_eq, not_or] at hs
    omega

namespace Keeps
variable {B : Folio → Prop} {s₀ s : State} {sd : Side} {p : Product}

theorem serveCalibration {r : CalReq} (h : Keeps B s₀ s) : Keeps B s₀ (s.serveCalibration r) := by
  unfold State.serveCalibration State.awaitCal
  dsimp only
  refine ite (fun _ => h.handOver) fun _ => ?_
  split
  · exact h.handOver
  · next hn =>
    exact ite (fun _ => h.handOver) fun _ =>
      requestSnapshot ((h.applyCals fun m _ => firstBadCal_none hn m).trans {})

theorem initJournal (h : Keeps B s₀ s) : Keeps B s₀ s.initJournal := by
  unfold State.initJournal
  have k : Keeps B s₀ (({ s with
      store := { s.store with totals := Totals.zero }
      journal := { s.journal with metrology := advanceMetrology s.journal.metrology, initWait := .toBegin } } : State).raise
        .calibration 0 (.num 0) (.num ((advanceMetrology s.journal.metrology).getD 0))) := raise (h.trans {})
  dsimp only
  split
  · exact k
  · exact k.beginWrite

theorem serveJournalInit (h : Keeps B s₀ s) : Keeps B s₀ s.serveJournalInit := by
  unfold State.serveJournalInit
  refine ite (fun _ => h.handOver) fun _ => ite (fun _ => h.handOver) fun _ => ?_
  split
  · exact h.handOver
  · exact h.initJournal

end Keeps

theorem satAdd64_le (a b : Nat) : satAdd64 a b ≤ 2 ^ 64 - 1 := by
  unfold satAdd64
  omega

theorem Move.step_bounds (v : Move) : -1 ≤ v.step ∧ v.step ≤ 1 := by cases v <;> decide

/-- The step accumulator stays between -3 and 3 (R3). -/
theorem accumulate_bounds {acc step : Int} (ha : -3 ≤ acc ∧ acc ≤ 3) (hs : -1 ≤ step ∧ step ≤ 1) :
    -3 ≤ (accumulate acc step).1 ∧ (accumulate acc step).1 ≤ 3 := by
  unfold accumulate
  dsimp only
  split
  · simp
  · split
    · simp
    · dsimp only; omega

namespace Keeps
variable {B : Folio → Prop} {s₀ s : State} {sd : Side} {p : Product}

/-! #### Meters -/

theorem noiseTest {m : Meter} (h : Keeps B s₀ s) : Keeps B s₀ (s.noiseTest m) := ite (fun _ => h.meterFault) fun _ => h

theorem addNoise {m : Meter} {c : Channel} (h : Keeps B s₀ s) (hc : ChannelsOk s → c.inRange) :
    Keeps B s₀ (s.setChan m c.addNoise) :=
  h.setChan fun hv => by
    obtain ⟨h1, h2, h3, h4, -, h6, h7, h8⟩ := hc hv
    exact ⟨h1, h2, h3, h4, Nat.min_le_left _ _, h6, h7, h8⟩

theorem strayFlow {m : Meter} {n : Nat} (h : Keeps B s₀ s) : Keeps B s₀ (s.strayFlow m n) := by
  unfold State.strayFlow
  exact ite (fun _ => raise (h.trans {})) fun _ => h.trans {}

theorem nightFlow {m : Meter} {n : Nat} (h : Keeps B s₀ s) : Keeps B s₀ (s.nightFlow m n) :=
  ite (fun _ => h) fun _ => raise (h.trans {})

theorem unattributedFlow {m : Meter} {n : Nat} (h : Keeps B s₀ s) : Keeps B s₀ (s.unattributedFlow m n) := by
  unfold State.unattributedFlow
  split
  · exact h.strayFlow
  · exact h.strayFlow
  · exact h.strayFlow
  · exact h.nightFlow
  · exact h

theorem attributed {m : Meter} {n : Nat} (h : Keeps B s₀ s) : Keeps B s₀ (s.attribute m n) := by
  unfold State.attribute
  dsimp only
  split
  · refine ((h.setChan ?_).noticeCycle).periodicAdd
    intro hv
    obtain ⟨h1, h2, h3, h4, h5, h6, -, h8⟩ := hv m
    refine ⟨h1, h2, h3, h4, h5, h6, fun a ha => ?_, h8⟩
    cases ha
    exact satAdd64_le _ _
  · exact h.addUnattributed.unattributedFlow

theorem overspeedTest {m : Meter} (h : Keeps B s₀ s) : Keeps B s₀ (s.overspeedTest m) :=
  ite (fun _ => h.meterFault) fun _ => h

theorem countCycle {m : Meter} (h : Keeps B s₀ s) : Keeps B s₀ (s.countCycle m) := by
  unfold State.countCycle
  refine (h.addMeterTotal.attributed.setChan fun hv => ?_).overspeedTest
  obtain ⟨h1, h2, h3, h4, h5, h6, h7, h8⟩ := hv m
  unfold Channel.stampCycle
  split
  · refine ⟨h1, h2, h3, h4, h5, ?_, h7, h8⟩
    simp only [List.length_drop, List.length_append, List.length_cons, List.length_nil]
    omega
  · exact ⟨h1, h2, h3, h4, h5, h6, h7, h8⟩

theorem forwardCycle {m : Meter} (h : Keeps B s₀ s) : Keeps B s₀ (s.forwardCycle m) := by
  unfold State.forwardCycle
  refine ite (fun _ => h.setChan fun hv => ?_) fun _ => h.countCycle
  obtain ⟨h1, h2, h3, h4, h5, h6, h7, h8⟩ := hv m
  exact ⟨h1, h2, h3, by dsimp only; omega, h5, h6, h7, h8⟩

theorem reverseCycle {m : Meter} (h : Keeps B s₀ s) : Keeps B s₀ (s.reverseCycle m) := by
  unfold State.reverseCycle
  refine ite (fun _ => h.meterFault) fun hb => h.setChan fun hv => ?_
  obtain ⟨h1, h2, h3, h4, h5, h6, h7, h8⟩ := hv m
  exact ⟨h1, h2, h3, by dsimp only; omega, h5, h6, h7, h8⟩

theorem decodeEdge {m : Meter} {b : Bool} (h : Keeps B s₀ s) : Keeps B s₀ (s.decodeEdge m b) := by
  unfold State.decodeEdge
  dsimp only
  refine ite (fun _ => ?_) fun hu => ite (fun _ => ?_) fun _ => ?_
  · exact (h.addNoise (by exact fun hv => hv m)).noiseTest
  · exact h.setChan (by exact fun hv => hv m)
  · generalize hq : accumulate (s.chan m).acc _ = q
    have hacc : -3 ≤ (s.chan m).acc → (s.chan m).acc ≤ 3 → -3 ≤ q.1 ∧ q.1 ≤ 3 := by
      intro hlo hhi
      subst hq
      exact accumulate_bounds ⟨hlo, hhi⟩ (Move.step_bounds _)
    have k : Keeps B s₀ (s.setChan m { s.chan m with
        posA := PerMeter.get s.pins.phaseA m, posB := PerMeter.get s.pins.phaseB m, acc := q.1 }) := by
      refine h.setChan fun hv => ?_
      obtain ⟨h1, h2, h3, h4, h5, h6, h7, h8⟩ := hv m
      exact ⟨(hacc h1 h2).1, (hacc h1 h2).2, h3, h4, h5, h6, h7, h8⟩
    split
    · exact k
    · exact k.forwardCycle
    · exact k.reverseCycle

theorem acceptEdge {m : Meter} {ph : Phase} (h : Keeps B s₀ s) : Keeps B s₀ (s.acceptEdge m ph) := by
  unfold State.acceptEdge
  dsimp only
  have k : Keeps B s₀ (s.setChan m ((s.chan m).run ph)) := by
    refine h.setChan fun hv => ?_
    obtain ⟨h1, h2, h3, h4, h5, h6, h7, h8⟩ := hv m
    unfold Channel.run
    split
    · exact ⟨h1, h2, by dsimp only; omega, h4, h5, h6, h7, h8⟩
    · exact ⟨h1, h2, by simp, h4, h5, h6, h7, h8⟩
  exact decodeEdge (ite (fun _ => k.meterFault) fun _ => k)

theorem channelEdge {m : Meter} {ph : Phase} (h : Keeps B s₀ s) : Keeps B s₀ (s.channelEdge m ph) := by
  have inRange : ∀ {t}, ChannelsOk s → ((s.chan m).setEdge ph t).inRange := fun hv => by
    cases ph
    · exact hv m
    · exact hv m
  unfold State.channelEdge
  exact ite (fun _ => (h.addNoise inRange).noiseTest) fun _ => (h.setChan inRange).acceptEdge

theorem serveMeterClear {n : Nat} (h : Keeps B s₀ s) : Keeps B s₀ (s.serveMeterClear n) := by
  unfold State.serveMeterClear
  dsimp only
  split
  · exact h.handOver
  · next m _ =>
    refine ite (fun _ => h.handOver) fun _ => handOver ?_
    have k : Keeps B s₀ (s.setChan m (s.chan m).clearCounts) := by
      refine h.setChan fun hv => ?_
      obtain ⟨h1, h2, -, -, -, h6, h7, h8⟩ := hv m
      exact ⟨h1, h2, by simp [Channel.clearCounts], by simp [Channel.clearCounts], by simp [Channel.clearCounts],
        h6, h7, h8⟩
    split
    · exact k.raise.postStatus.testReadiness
    · exact k

/-! #### Modes and motors -/

theorem applyClock {c : Clock} (h : Keeps B s₀ s) : Keeps B s₀ (s.applyClock c) := by
  unfold State.applyClock
  have k := (h.setMode (m := { s.mode with clock := c, clockUnset := false })).raise (k := .clockSet) (o := 0)
    (d1 := .num s.mode.clock.toNat) (d2 := .num c.toNat) |>.newClock
  exact ite (fun _ => k.openNowTest) fun _ => k

theorem serveSetClock {w n : Nat} (h : Keeps B s₀ s) : Keeps B s₀ (s.serveSetClock w n) :=
  ite (fun _ => h.handOver) fun _ => h.applyClock.handOver

theorem acceptSchedule {x : Schedule} (h : Keeps B s₀ s) : Keeps B s₀ (s.acceptSchedule x) :=
  h.setMode.requestSnapshot.askStatus.handOver

theorem serveSchedule {r : ScheduleReq} (h : Keeps B s₀ s) : Keeps B s₀ (s.serveSchedule r) := by
  unfold State.serveSchedule
  split
  · exact h.acceptSchedule
  · split
    · exact h.handOver
    · exact h.acceptSchedule
  · exact h.handOver

theorem serveOpen (h : Keeps B s₀ s) : Keeps B s₀ s.serveOpen := by
  unfold State.serveOpen
  dsimp only
  split
  · next hm => exact (h.beginOpening fun hv => (h.mode hv).ready_of_mode hm).handOver
  all_goals exact h.handOver

theorem serveClose (h : Keeps B s₀ s) : Keeps B s₀ s.serveClose := by
  unfold State.serveClose
  dsimp only
  split
  · exact h.handOver
  · next hm => exact (h.returnToClosed fun hv => (h.mode hv).ready_of_mode hm).handOver
  · next hm => exact (h.beginClosing fun hv => (h.mode hv).ready_of_mode hm).handOver
  all_goals exact h.handOver

theorem graceEnds (h : Keeps B s₀ s) : Keeps B s₀ (s.graceEnds sd) := by
  unfold State.graceEnds
  split
  · exact h.toEnding
  · exact h.toEnding
  · exact h.toEnding
  · exact h.toEnding
  · exact h

theorem pressureArrives (h : Keeps B s₀ s) : Keeps B s₀ (s.pressureArrives p) := by
  unfold State.pressureArrives
  dsimp only
  split
  · next hs => exact ((h.confirmStart hs).arbiterTest).afterMotors
  · exact h.setMotorAs rfl rfl
  · exact h.setMotorAs rfl rfl
  · exact h

theorem pressureGoes (h : Keeps B s₀ s) : Keeps B s₀ (s.pressureGoes p) := by
  unfold State.pressureGoes
  dsimp only
  split
  · exact h.setMotorAs rfl rfl
  · exact h.setMotorAs rfl rfl
  · exact h

theorem rundownEnds (h : Keeps B s₀ s) : Keeps B s₀ (s.rundownEnds p) := by
  unfold State.rundownEnds
  refine (h.setMotorTo ?_ ?_).postStatus
  · exact fun _ => rfl
  · simp

theorem serveMotorRetry {n : Nat} (h : Keeps B s₀ s) : Keeps B s₀ (s.serveMotorRetry n) := by
  unfold State.serveMotorRetry
  dsimp only
  split
  · exact h.handOver
  · exact ite (fun hs => (h.motorRecovers hs).handOver) fun _ => h.handOver

/-! #### Prices -/

theorem serveGrades {r : GradesReq} (h : Keeps B s₀ s) : Keeps B s₀ (s.serveGrades r) := by
  unfold State.serveGrades
  dsimp only
  refine ite (fun _ => h.handOver) fun _ => ?_
  split
  · exact h.handOver
  · split
    · exact h.handOver
    · exact (updatePriceView (recomposeBoth (h.trans {}))).requestSnapshot.handOver

theorem acceptStaging {b : Staged} (h : Keeps B s₀ s) : Keeps B s₀ (s.acceptStaging b) := by
  unfold State.acceptStaging
  have k : Keeps B s₀ (match s.prices.staged with
      | some old => s.raise .priceSuperseded 0 (.num old.tag.toNat) (.num b.tag.toNat)
      | none => s) := by
    split
    · exact h.raise
    · exact h
  exact ite (fun _ => swapTest (postPriceView (k.trans {}))) fun _ => tellWaiting (postPriceView (k.trans {}))

theorem serveStaging {r : StagingReq} (h : Keeps B s₀ s) : Keeps B s₀ (s.serveStaging r) := by
  unfold State.serveStaging
  dsimp only
  split
  · exact h.handOver
  · split
    · exact h.handOver
    · split
      · exact h.handOver
      · exact ite (fun _ => h.handOver) fun _ => h.acceptStaging.handOver

/-! #### Readers -/

theorem tripIfComing (h : Keeps B s₀ s) : Keeps B s₀ (s.tripIfComing sd) := by
  unfold State.tripIfComing
  dsimp only
  split
  · exact h.gateTrip
  · exact h.gateTrip
  · exact h

theorem dropAbsent (h : Keeps B s₀ s) : Keeps B s₀ (s.dropAbsent sd) := by
  unfold State.dropAbsent
  dsimp only
  split
  · exact ite (fun _ => h.pollFrom) fun _ => h
  · exact h

theorem startExpires (h : Keeps B s₀ s) : Keeps B s₀ (s.startExpires sd) := h.setGate.tripIfComing.dropAbsent

theorem setTamper {b : Bool} (h : Keeps B s₀ s) : Keeps B s₀ (s.setTamper sd b) := by
  unfold State.setTamper
  exact ite (fun _ => h.trans {}) fun _ => setGate (h.trans {})

theorem serveReaderClear {n : Nat} (h : Keeps B s₀ s) : Keeps B s₀ (s.serveReaderClear n) := by
  unfold State.serveReaderClear
  dsimp only
  split
  · exact h.handOver
  · exact ite (fun _ => h.handOver) fun _ => ite (fun _ => h.handOver) fun _ => ite (fun _ => h.handOver) fun _ =>
      h.gateStart.handOver

theorem serveReaderRestart {n : Nat} (h : Keeps B s₀ s) : Keeps B s₀ (s.serveReaderRestart n) := by
  unfold State.serveReaderRestart
  dsimp only
  split
  · exact h.handOver
  · exact ite (fun _ => (onGate h.gateRestart).handOver) fun _ => h.handOver

theorem serveAdmission {r : AdmissionReq} (h : Keeps B s₀ s) : Keeps B s₀ (s.serveAdmission r) := by
  unfold State.serveAdmission
  exact (requestSnapshot (h.trans {})).handOver

theorem serveDownlink {r : DownlinkReq} (h : Keeps B s₀ s) : Keeps B s₀ (s.serveDownlink sd r) := by
  unfold State.serveDownlink
  dsimp only
  split
  · exact h.handOver
  · split
    · exact h.handOver
    · exact h.setGate

/-! #### Sides -/

theorem setNozzle {n : Fin 4} {b : Bool} (h : Keeps B s₀ s) : Keeps B s₀ (s.setNozzle sd n b) :=
  h.setSide (by exact fun hv => hv sd)

theorem lift (h : Keeps B s₀ s) : Keeps B s₀ (s.lift sd) := by
  unfold State.lift
  dsimp only
  split
  · next hs =>
    refine ite (fun _ => h.putSide fun hv => ?_) fun _ => h
    exact SideCtl.valvesOk_of_idle (hv sd) (by rw [hs]; rfl) rfl
  · refine (h.setSide ?_).testReadiness
    exact fun hv => hv sd
  · exact h

theorem hangEnded {n : Fin 4} (h : Keeps B s₀ s) (hs : (s.side sd).state = .ended) :
    Keeps B s₀ (s.hangEnded sd n) := by
  unfold State.hangEnded
  refine ite (fun _ => h.putSide fun hv => ?_) fun _ => h
  exact SideCtl.valvesOk_of_idle (hv sd) (by rw [hs]; rfl) rfl

theorem startAuth (h : Keeps B s₀ s) : Keeps B s₀ (s.startAuth sd) :=
  ite (fun _ => h) fun _ => h.setSide (by exact fun hv => hv sd)

theorem hang {n : Fin 4} (h : Keeps B s₀ s) : Keeps B s₀ (s.hang sd n) := by
  unfold State.hang
  dsimp only
  split
  · exact h
  · next hs =>
    refine ite (fun _ => h) fun _ => h.putSide fun hv => ?_
    exact SideCtl.valvesOk_of_idle (hv sd) (by rw [hs]; rfl) rfl
  · exact h.startAuth.testReadiness
  · exact ite (fun _ => h.finishSale) fun _ => h
  · exact ite (fun _ => h.toEnding) fun _ => h
  · exact ite (fun _ => h.toEnding) fun _ => h
  · exact ite (fun _ => h.toEnding) fun _ => h
  · exact h
  · next hs => exact h.hangEnded hs

theorem answerOrder {x : SideCtl} {r : Result} {d : Word32} (h : Keeps B s₀ s) (hB : B (Folio.order sd)) :
    Keeps B s₀ (s.answerOrder sd x r d) := (h.writeBody hB).handOver

theorem openSale {r : SaleRecord} {m : BitVec 6} (h : Keeps B s₀ s)
    (hs : (s.side sd).state = .idle ∨ (s.side sd).state = .calling) : Keeps B s₀ (s.openSale sd r m) := by
  unfold State.openSale
  have k : Keeps B s₀ (s.advanceNumber.putSide sd { s.advanceNumber.side sd with
      state := .authorized
      sale := some ⟨r, m, none⟩
      authT := if (s.advanceNumber.side sd).anyLifted then none
        else some (s.advanceNumber.now + seconds s.advanceNumber.cfg.authTimeout) }) := by
    refine h.advanceNumber.putSide fun hv => ?_
    refine SideCtl.valvesOk_of_idle (hv sd) ?_ rfl
    show (s.side sd).state.slowMayOpen = false
    rcases hs with hs | hs <;> rw [hs] <;> rfl
  exact ite (fun _ => k.testReadiness) fun _ => k

theorem serveAuthorize {r : AuthReq} (h : Keeps B s₀ s) (hB : B (Folio.order sd)) :
    Keeps B s₀ (s.serveAuthorize sd r) := by
  unfold State.serveAuthorize
  dsimp only
  split
  · next hr _ _ =>
    refine (h.openSale ?_).answerOrder hB
    unfold State.authRefusal at hr
    dsimp only at hr
    split at hr
    · cases hr
    · next hn => exact (Classical.not_and_iff_not_or_not.1 hn).imp Classical.not_not.1 Classical.not_not.1
  all_goals exact h.answerOrder hB

theorem slowToFlowing {c : Composition} (h : Keeps B s₀ s) : Keeps B s₀ (s.slowToFlowing sd c) :=
  h.putSide fun _ => SideCtl.valvesOk_of_flowing rfl

theorem judgeLimit (h : Keeps B s₀ s) : Keeps B s₀ (s.judgeLimit sd) := by
  unfold State.judgeLimit
  dsimp only
  split
  · exact h
  · split
    · exact h
    · refine ite (fun _ => h.toEnding) fun _ => ?_
      split
      · exact ite (fun _ => h.toSlow) fun _ => h
      · exact ite (fun _ => h) fun _ => h.slowToFlowing
      · exact h

theorem applyLimit {k : LimitKind} {n : Nat} (h : Keeps B s₀ s) : Keeps B s₀ (s.applyLimit sd k n) := by
  unfold State.applyLimit
  dsimp only
  split
  · exact h
  · next o _ =>
    have k : Keeps B s₀ (s.setSide sd { s.side sd with sale := some (o.withLimit k n) }) :=
      h.setSide fun hv => hv sd
    exact ite (fun _ => ite (fun _ => k.testReadiness) fun _ => k) fun _ => k.judgeLimit

theorem serveChangeLimit {r : LimitReq} (h : Keeps B s₀ s) (hB : B (Folio.order sd)) :
    Keeps B s₀ (s.serveChangeLimit sd r) := by
  unfold State.serveChangeLimit
  dsimp only
  split
  · exact h.answerOrder hB
  · exact h.answerOrder hB
  · exact h.answerOrder hB
  · exact h.answerOrder hB
  · split
    · exact h.applyLimit.answerOrder hB
    · exact h.answerOrder hB

theorem suspend (h : Keeps B s₀ s) : Keeps B s₀ (s.suspend sd) :=
  h.putSide fun _ => startSlowClose_valvesOk _ (closeMains_main _) (.inl rfl)

theorem serveStop (h : Keeps B s₀ s) (hB : B (Folio.order sd)) : Keeps B s₀ (s.serveStop sd) :=
  ite (fun _ => h.suspend.answerOrder hB) fun _ => h.answerOrder hB

theorem resume (h : Keeps B s₀ s) : Keeps B s₀ (s.resume sd) := by
  unfold State.resume
  dsimp only
  split
  · exact h
  · split
    · exact h
    · have k : Keeps B s₀ (s.setSide sd { s.side sd with suspendT := none }) := h.setSide fun hv => hv sd
      exact ite (fun _ => k.enterFlowing) fun _ => k.enterSlow

theorem serveResume (h : Keeps B s₀ s) (hB : B (Folio.order sd)) : Keeps B s₀ (s.serveResume sd) :=
  ite (fun _ => h.answerOrder hB) fun _ => ite (fun _ => h.answerOrder hB) fun _ => h.resume.answerOrder hB

theorem serveEnd (h : Keeps B s₀ s) (hB : B (Folio.order sd)) : Keeps B s₀ (s.serveEnd sd) := by
  unfold State.serveEnd
  dsimp only
  split
  · exact h.answerOrder hB
  · exact h.answerOrder hB
  · exact h.answerOrder hB
  · exact h.answerOrder hB
  · exact h.finishSale.answerOrder hB
  all_goals exact h.toEnding.answerOrder hB

theorem openMains (h : Keeps B s₀ s) (hs : (s.side sd).state = .flowing) : Keeps B s₀ (s.openMains sd) := by
  unfold State.openMains
  dsimp only
  split
  · exact h.setSide fun _ => SideCtl.valvesOk_of_flowing hs
  · exact h.setSide (by exact fun hv => hv sd)

theorem slowsClose (h : Keeps B s₀ s) : Keeps B s₀ (s.slowsClose sd) := by
  have closed : ValvesOk s →
      SideCtl.valvesOk { s.side sd with valves := closeSlows (s.side sd).valves, slowClose := none } := fun hv p => by
    refine ⟨fun hs => ?_, fun _ => closeSlows_slow _ _, fun _ hk => ?_⟩
    · rw [closeSlows_main]; exact (hv sd p).1 hs
    · rw [closeSlows_slow] at hk; cases hk
  unfold State.slowsClose
  refine h.setSide fun hv => ?_
  dsimp only
  split
  · exact startSettle_valvesOk _ (closed hv)
  · exact closed hv

/-! #### Records -/

theorem reportBack (h : Keeps B s₀ s) (hB : B (Folio.report sd)) : Keeps B s₀ (s.reportBack sd) :=
  h.setRecords.reportFlow hB

theorem serveWatch {r : Vector WatchReq 4} (h : Keeps B s₀ s) : Keeps B s₀ (s.serveWatch r) := by
  unfold State.serveWatch
  dsimp only
  split
  · exact h.handOver
  · exact (updateTotalsWatches (h.trans {})).handOver

end Keeps
end Sys2Proof.Machine
end

/-! ### What a write's end and the recoveries keep -/
section
-- Elaborated one after another: in parallel the threads' stacks pass the memory limit.
set_option Elab.async false
namespace Sys2Proof.Machine

/-- What every operation keeps, those of a recovery too: the time, the queue and every invariant, and, but for a cold start
(`K`), the bytes outside the bodies of the folios `B`. -/
structure Sound (B : Folio → Prop) (K : Prop) (s t : State) : Prop where
  now : t.now = s.now := by rfl
  pending : t.pending = s.pending := by rfl
  bytes : ¬ K → ∀ a, (∀ f, B f → ¬ inBody f a) → Memory.read t.exch.mem a = Memory.read s.exch.mem a := by
    exact fun _ _ _ => rfl
  memory : MemoryOk s → MemoryOk t := by exact fun h => h
  valves : ValvesOk s → ValvesOk t := by exact fun h => h
  motors : MotorsOk s → MotorsOk t := by exact fun h => h
  channels : ChannelsOk s → ChannelsOk t := by exact fun h => h
  mode : ModeOk s → ModeOk t := by exact fun h => h

theorem Keeps.sound {B : Folio → Prop} {K : Prop} {s t : State} (h : Keeps B s t) : Sound B K s t :=
  { now := h.now, pending := h.pending, bytes := fun _ => h.bytes, memory := h.memory, valves := h.valves
    motors := h.motors, channels := h.channels, mode := h.mode }

/-- What an operation of the part keeps after a change of mode has been entered. -/
theorem changeMode_keeps (B : Folio → Prop) (s : State) (m : Mode) (st : Option Stage) (d : Detail) :
    Keeps B (s.setMode { s.mode with mode := m, stage := st }) (s.changeMode m st d) := by
  have k := (Keeps.refl B (s.setMode { s.mode with mode := m, stage := st })).raise (k := .mode) (o := m.code)
    (d1 := .num s.mode.mode.code) (d2 := d)
  unfold State.changeMode
  refine (Keeps.recomposeBoth ?_).postStatus
  unfold State.clearNight
  split
  · exact k.trans {}
  · exact k

namespace Keeps
variable {B : Folio → Prop} {s₀ s : State} {sd : Side}

theorem raisePassed {l : List (Fin 16)} (h : Keeps B s₀ s) : Keeps B s₀ (s.raisePassed l) := by
  induction l generalizing s with
  | nil => exact h
  | cons i rest ih => exact ih h.raise

theorem loseSale {q : Snapshot} (h : Keeps B s₀ s) : Keeps B s₀ (s.loseSale q sd) := by
  unfold State.loseSale
  split
  · exact h.takeRecord
  · exact h

theorem advanceBy {n : Nat} (h : Keeps B s₀ s) : Keeps B s₀ { s with store := { s.store with counter := n } } :=
  h.trans {}

theorem toPhase {p : JPhase} (h : Keeps B s₀ s) : Keeps B s₀ (s.toPhase p) := h.trans {}

theorem clearRequest (h : Keeps B s₀ s) : Keeps B s₀ s.clearRequest := h.trans {}

theorem settleWrite {w : Write} {q : Slot} (h : Keeps B s₀ s) : Keeps B s₀ (s.settleWrite w q) := by
  unfold State.settleWrite
  exact ite (fun _ => h.trans {}) fun _ => h.trans {}

theorem serveWaits {a b : WriteWait} (h : Keeps B s₀ s) : Keeps B s₀ (s.serveWaits a b) := by
  unfold State.serveWaits
  have k := ite (c := a = .inWrite) (fun _ => h.handOver (f := Folio.calibration) (r := .done)
    (d := detailNum (s.journal.metrology.getD 0))) fun _ => h
  exact ite (fun _ => k.handOver) fun _ => k

theorem writeDone {w : Write} {q : Slot} (h : Keeps B s₀ s) (hB : ∀ sd, B (Folio.report sd)) :
    Keeps B s₀ (s.writeDone w q) := by
  unfold State.writeDone
  have k := (h.settleWrite (w := w) (q := q)).updateTotals (i := w.slot) (n := w.seq) (q := w.snap)
    |>.recordMarked (i := w.slot) hB
  have k' := serveWaits (a := s.journal.calWait) (b := s.journal.initWait)
    (ite (c := (s.anyMarked || w.forInit) = true) (fun _ => k.setFresh (f := Folio.totals)) fun _ => k)
  exact ite (fun _ => k'.postStatus) fun _ => k'

theorem writeFailed {w : Write} {q : Slot} (h : Keeps B s₀ s) : Keeps B s₀ (s.writeFailed w q) := h.settleWrite.raise

theorem nextWrite (h : Keeps B s₀ s) : Keeps B s₀ s.nextWrite := ite (fun _ => h.beginWrite) fun _ => h

theorem nextAfterWrite (h : Keeps B s₀ s) : Keeps B s₀ s.nextAfterWrite :=
  ite (fun _ => h.beginWrite) fun _ => h.nextWrite

theorem normalDone {w : WriteWait} (h : Keeps B s₀ s) : Keeps B s₀ (s.normalDone w) := by
  unfold State.normalDone
  exact ite (fun hc => h.nextAfterWrite.night fun hv => (h.nextAfterWrite.mode hv).ready_of_stage hc.2)
    fun _ => h.nextAfterWrite

/-- READY has become 1 and the mode CLOSED: what follows a recovery. -/
theorem afterLeaving (h : Keeps B s₀ s) (hB : ∀ sd, B (Folio.report sd)) :
    Keeps B s₀
      (let s := s.bothSides fun s sd => if (s.gate sd).tamper then s.gateTamper sd 0 else s
       let s := s.swapTest.postPriceView.setFresh Folio.totals
       let s := ((s.reportFlow .a).reportFlow .b).postStatus
       if s.mode.clockUnset then s else s.openNowTest) := by
  have k := h.bothSides (f := fun s sd => if (s.gate sd).tamper then s.gateTamper sd 0 else s)
    fun _ _ k => ite (fun _ => k.gateTamper) fun _ => k
  have k' := (k.swapTest.postPriceView.setFresh (f := Folio.totals)).reportFlow (hB .a) |>.reportFlow (hB .b)
    |>.postStatus
  exact ite (fun _ => k') fun _ => k'.openNowTest

end Keeps

theorem Channel.reset_inRange : Channel.reset.inRange := by
  refine ⟨?_, ?_, ?_, ?_, ?_, ?_, nofun, nofun⟩ <;> decide

/-- The channels of a recovery are in range. -/
theorem Channel.recovered_inRange (cf : Option Nat) (f : Option FaultCause) : (Channel.recovered cf f).inRange :=
  Channel.reset_inRange

/-- A channel that reads its inputs afresh stays in range. -/
theorem Channel.placed_inRange {c : Channel} (a b : Bool) (h : c.inRange) :
    Channel.inRange { c with posA := a, posB := b, acc := 0, edgeA := none, edgeB := none } := by
  obtain ⟨-, -, h3⟩ := h
  exact ⟨by simp, by simp, h3⟩

namespace Sound
variable {B : Folio → Prop} {K : Prop} {s₀ s t u : State} {sd : Side}

theorem refl (B : Folio → Prop) (K : Prop) (s : State) : Sound B K s s := {}

theorem trans (h : Sound B K s t) (k : Sound B K t u) : Sound B K s u where
  now := k.now.trans h.now
  pending := k.pending.trans h.pending
  bytes := fun hK a ha => (k.bytes hK a ha).trans (h.bytes hK a ha)
  memory := fun m => k.memory (h.memory m)
  valves := fun v => k.valves (h.valves v)
  motors := fun m => k.motors (h.motors m)
  channels := fun c => k.channels (h.channels c)
  mode := fun m => k.mode (h.mode m)

theorem keeps (h : Sound B K s t) (k : Keeps B t u) : Sound B K s u := h.trans k.sound

/-- The motors after a reset stand at rest. -/
theorem motorsReset (h : Sound B K s₀ s) : Sound B K s₀ s.motorsReset :=
  h.trans
    { motors := fun _ => by
        have hm : ∀ p, s.motorsReset.motor p = s.motorAtReset := fun p => by cases p <;> rfl
        refine ⟨fun p => ?_, fun p q hp _ => ?_⟩
        · rw [hm]; rfl
        · rw [hm] at hp; cases hp }

theorem recoverMotors {b : Bool} (h : Sound B K s₀ s) : Sound B K s₀ (s.recoverMotors b) := by
  unfold State.recoverMotors
  split
  · exact h
  · exact h.motorsReset

theorem leaveCold (h : Sound B K s₀ s) (hB : ∀ sd, B (Folio.report sd)) : Sound B K s₀ s.leaveCold := by
  unfold State.leaveCold
  refine Sound.keeps (Sound.keeps ?_ (changeMode_keeps B _ .closed none _)) ((Keeps.refl B _).afterLeaving hB)
  refine h.trans { valves := fun hv sd => ?_, channels := fun hv m => ?_, mode := fun _ => ⟨rfl, nofun⟩ }
  · cases sd
    · exact hv .a
    · exact hv .b
  · have hm := hv m
    obtain ⟨sd, p⟩ := m
    cases sd <;> cases p <;> exact Channel.placed_inRange _ _ hm

theorem gateEmpty (h : Sound B K s₀ s) : Sound B K s₀ (s.gateEmpty sd) := h.keeps (Keeps.refl B s).gateToReset

theorem recoverEmpty {b : Bool} (h : Sound B K s₀ s) (hB : ∀ sd, B (Folio.report sd)) :
    Sound B K s₀ (s.recoverEmpty b) := by
  have k : Sound B K s₀ (s.bothSides State.gateEmpty) := (h.gateEmpty (sd := .a)).gateEmpty (sd := .b)
  unfold State.recoverEmpty
  dsimp only
  generalize State.bothSides s State.gateEmpty = u at k
  refine leaveCold ?_ hB
  refine keeps ?_ (Keeps.refl B _).bump
  refine recoverMotors (k.trans { channels := fun _ m => ?_ })
  have : PerMeter.get (PerMeter.same Channel.reset) m = Channel.reset := by
    obtain ⟨sd, p⟩ := m
    cases sd <;> cases p <;> rfl
  simp only [State.chan, this]
  exact Channel.reset_inRange

theorem restore {q : Snapshot} {b : Bool} (h : Sound B K s₀ s) : Sound B K s₀ (s.restore q b) := by
  unfold State.restore
  refine recoverMotors (h.trans { channels := fun _ m => ?_ })
  obtain ⟨sd, p⟩ := m
  cases sd <;> cases p <;> exact Channel.recovered_inRange _ _

theorem recoverFrom {f : Found} {b : Bool} (h : Sound B K s₀ s) (hB : ∀ sd, B (Folio.report sd)) :
    Sound B K s₀ (s.recoverFrom f b) := by
  obtain ⟨i, seq, snap⟩ := f
  unfold State.recoverFrom
  have k := (h.restore (q := snap) (b := b)).keeps (Keeps.refl B _ |>.raisePassed (l := passedOver s.journal.slots 15 i))
  dsimp only
  generalize State.raisePassed _ _ = u at k
  refine keeps k ?_
  refine (Keeps.updateTotals (Keeps.reportFlow (Keeps.reportFlow ?_ (hB .a)) (hB .b))).updatePriceView.rewriteStatus.beginWrite
  refine Keeps.ite (fun _ => ?_) fun _ => Keeps.advanceBy ?_
  · refine Keeps.loseSale (Keeps.loseSale ?_)
    exact {}
  · refine Keeps.loseSale (Keeps.loseSale ?_)
    exact {}

theorem recover {b : Bool} (h : Sound B K s₀ s) (hB : ∀ sd, B (Folio.report sd)) : Sound B K s₀ (s.recover b) := by
  unfold State.recover
  split
  · exact h.recoverFrom hB
  · exact h.recoverEmpty hB

end Sound

/-- SCRATCH as a cold start keeps it. -/
theorem read_scratchOf (m : Memory) (a : Nat) :
    Memory.read (scratchOf m) a = if 6912 ≤ a then Memory.read m a else 0 := by
  unfold scratchOf
  induction m with
  | nil => simp [Memory.read]
  | cons c rest ih =>
    obtain ⟨x, w⟩ := c
    simp only [List.filter_cons]
    split
    · next hx =>
      simp only [decide_eq_true_eq] at hx
      simp only [Memory.read, ih]
      by_cases ha : a = x
      · simp [ha]; omega
      · simp [ha]
    · next hx =>
      simp only [decide_eq_true_eq] at hx
      rw [ih]
      simp only [Memory.read]
      by_cases ha : a = x
      · rw [if_neg (by omega), if_neg (by omega)]
      · simp [ha]

theorem scratchOf_ok {m : Memory} (h : Memory.wf m = true ∧ ∀ c ∈ m, c.1 < 8192) :
    Memory.wf (scratchOf m) = true ∧ ∀ c ∈ scratchOf m, c.1 < 8192 :=
  ⟨scratchOf_wf m h.1, fun c hc => h.2 c (List.mem_filter.1 hc).1⟩

/-- The state of a cold start before recovery meets every invariant that does not speak of its memory. -/
theorem coldState_ok (s : State) (pins : Pins) (slots : Vector Slot 16) (scratch : Memory) :
    ValvesOk (s.coldState pins slots scratch) ∧ MotorsOk (s.coldState pins slots scratch) ∧
      ChannelsOk (s.coldState pins slots scratch) ∧ ModeOk (s.coldState pins slots scratch) := by
  refine ⟨fun sd p => ?_, ⟨fun p => ?_, fun p q hp _ => ?_⟩, fun m => ?_, rfl, nofun⟩
  · cases sd <;> cases p <;> exact ⟨fun _ => rfl, fun _ => rfl, nofun⟩
  · cases p <;> rfl
  · cases p <;> cases hp
  · obtain ⟨sd, p⟩ := m
    cases sd <;> cases p <;> exact Channel.reset_inRange

namespace Sound
variable {B : Folio → Prop} {K : Prop} {s₀ s t u : State} {sd : Side}

theorem coldStart (h : Sound B K s₀ s) (hK : K) (hB : ∀ sd, B (Folio.report sd)) : Sound B K s₀ s.coldStart := by
  unfold State.coldStart
  obtain ⟨hv, hm, hc, ho⟩ := coldState_ok s s.pins s.journal.slots (scratchOf s.exch.mem)
  refine recover (h.trans ?_) hB
  exact
    { bytes := fun hn => absurd hK hn, memory := fun h => scratchOf_ok h, valves := fun _ => hv, motors := fun _ => hm
      channels := fun _ => hc, mode := fun _ => ho }

theorem holdupTest (h : Sound B K s₀ s) (hB : ∀ sd, B (Folio.report sd))
    (hK : s.mode.mode = .holdup → s.mode.cleared = true → s.journal.phase = .done → K) :
    Sound B K s₀ s.holdupTest := by
  unfold State.holdupTest
  split
  · next hc => exact h.coldStart (hK hc.1 hc.2.1 hc.2.2) hB
  · exact h

theorem beginReset (h : Sound B K s₀ s) (hB : ∀ sd, B (Folio.report sd)) : Sound B K s₀ s.beginReset := by
  unfold State.beginReset
  split
  · exact (h.keeps (Keeps.refl B _).clearRequest).recover hB
  · exact h.keeps (Keeps.refl B _).toPhase.beginWrite

theorem beginFinal (h : Sound B K s₀ s) (hB : ∀ sd, B (Folio.report sd))
    (hK : s.mode.mode = .holdup → s.mode.cleared = true → s.journal.empty = true → K) :
    Sound B K s₀ s.beginFinal := by
  unfold State.beginFinal
  split
  · next he => exact (h.keeps (Keeps.refl B _).clearRequest.toPhase).holdupTest hB fun hm hc _ => hK hm hc he
  · exact h.keeps (Keeps.refl B _).toPhase.beginWrite

theorem afterDone {p : JPhase} {w : WriteWait} (h : Sound B K s₀ s) (hB : ∀ sd, B (Folio.report sd))
    (hK : s.mode.mode = .holdup → s.mode.cleared = true →
      p = .finalWriting ∨ p = .coldWait ∨ (p = .finalWait ∧ s.journal.empty = true) → K) :
    Sound B K s₀ (s.afterDone p w) := by
  unfold State.afterDone
  split
  · exact h.keeps (Keeps.refl B _).normalDone
  · exact ((h.keeps (Keeps.refl B _).toPhase).leaveCold hB).keeps (Keeps.refl B _).nextWrite
  · exact h.beginReset hB
  · exact (h.keeps (Keeps.refl B _).clearRequest).recover hB
  · exact h.beginFinal hB fun hm hc he => hK hm hc (.inr (.inr ⟨rfl, he⟩))
  · exact (h.keeps (Keeps.refl B _).toPhase).holdupTest hB fun hm hc _ => hK hm hc (.inl rfl)
  · exact (h.keeps (Keeps.refl B _).toPhase).holdupTest hB fun hm hc _ => hK hm hc (.inr (.inl rfl))
  · exact h

theorem afterFailed {p : JPhase} (h : Sound B K s₀ s) (hB : ∀ sd, B (Folio.report sd))
    (hK : s.mode.mode = .holdup → s.mode.cleared = true →
      p = .finalWriting ∨ p = .coldWait ∨ (p = .finalWait ∧ s.journal.empty = true) → K) :
    Sound B K s₀ (s.afterFailed p) := by
  unfold State.afterFailed
  split
  · exact h.keeps (Keeps.refl B _).beginWrite
  · exact h.keeps (Keeps.refl B _).beginWrite
  · exact h.beginReset hB
  · exact h.keeps (Keeps.refl B _).beginWrite
  · exact h.beginFinal hB fun hm hc he => hK hm hc (.inr (.inr ⟨rfl, he⟩))
  · exact (h.keeps (Keeps.refl B _).toPhase).holdupTest hB fun hm hc _ => hK hm hc (.inl rfl)
  · exact (h.keeps (Keeps.refl B _).toPhase).holdupTest hB fun hm hc _ => hK hm hc (.inr (.inl rfl))
  · exact h

end Sound

/-- A slot that reads back VALID clears JOURNAL_EMPTY, and one that does not leaves it. -/
theorem settleWrite_empty (s : State) (w : Write) (q : Slot) :
    (s.settleWrite w q).journal.empty = (if q.kind = .valid then false else s.journal.empty) := by
  unfold State.settleWrite
  dsimp only
  split <;> rfl

end Sys2Proof.Machine
end

/-! ### What a write's end, a host reset and the warning keep -/
section
namespace Sys2Proof.Machine

/-- A completed write's reports leave the journal as the write's outcome set it. -/
theorem writeDone_journal (s : State) (w : Write) (q : Slot) : (s.writeDone w q).journal = (s.settleWrite w q).journal := by
  unfold State.writeDone State.recordMarked
  dsimp only
  repeat' split
  all_goals simp

theorem settleWrite_mode (s : State) (w : Write) (q : Slot) : (s.settleWrite w q).mode = s.mode := by
  unfold State.settleWrite
  dsimp only
  split <;> rfl

/-- The mode as the part enters HOLDUP (R175). -/
def State.holdupEntry (s : State) : State :=
  { s with
    journal := { s.journal with phase := .finalWait }
    mode := { s.mode.noStage with mode := .holdup, stage := none, warning := true, clearT := none, cleared := false }
    exch := { s.exch with ready := false } }

/-- The mode as a host reset makes it COLD (R155). -/
def State.resetEntry (s : State) : State :=
  { s with
    mode := { s.mode.noStage with
      mode := .cold, stage := none, outcome := Outcome.clear, warning := s.pins.warning }
    exch := { s.exch with ready := false } }

theorem holdupEntry_modeOk (s : State) : ModeOk s.holdupEntry := ⟨rfl, nofun⟩

theorem resetEntry_modeOk (s : State) : ModeOk s.resetEntry := ⟨rfl, nofun⟩

theorem ModeStands.cutSale {s₀ s : State} {sd : Side} {r : EndReason} (h : ModeStands s₀ s) :
    ModeStands s₀ (s.cutSale sd r) := by
  unfold State.cutSale
  exact ModeStands.of_eq (ModeStands.ite (c := (s.side sd).sale.isSome = true)
    (fun _ => h.closeSale (sd := sd) (r := some r) (b := false) (next := fun _ _ => .idle)) fun _ => h) (by simp)

namespace Keeps
variable {B : Folio → Prop} {s₀ s : State} {sd : Side}

theorem setJournal {j : Journal} (h : Keeps B s₀ s) : Keeps B s₀ { s with journal := j } := h.trans {}

theorem gateReset (h : Keeps B s₀ s) : Keeps B s₀ (s.gateReset sd) := h.gateToReset

theorem beginFinal (h : Keeps B s₀ s) (hc : s.mode.cleared = false) : Keeps B s₀ s.beginFinal := by
  unfold State.beginFinal State.holdupTest
  refine ite (fun _ => ?_) fun _ => h.toPhase.beginWrite
  rw [if_neg]
  · exact h.clearRequest.toPhase
  · simp [State.toPhase, State.clearRequest, hc]

theorem journalWarning {p : JPhase} (h : Keeps B s₀ s) (hc : s.mode.cleared = false) :
    Keeps B s₀ (s.journalWarning p) := by
  unfold State.journalWarning
  dsimp only
  split
  · exact ite (fun _ => h) fun _ => h.beginFinal hc
  · exact ite (fun _ => h.toPhase) fun _ => h
  · exact h.toPhase
  · exact h.toPhase
  · exact h.toPhase

/-- A motor on the power-fail warning is at rest. -/
theorem motorsHoldup (h : Keeps B s₀ s) : Keeps B s₀ s.motorsHoldup :=
  h.trans
    { motors := fun hv => by
        have hm : ∀ p, s.motorsHoldup.motor p = s.heldUp (s.motor p) := fun p => by cases p <;> rfl
        refine ⟨fun p => ?_, fun p q hp _ => ?_⟩
        · rw [hm]
          unfold State.heldUp
          dsimp only
          split
          · rfl
          · next hn => exact Bool.eq_false_iff.2 hn
        · rw [hm] at hp
          simp [State.heldUp] at hp }

end Keeps

/-- What the entry to HOLDUP keeps of the state in which the mode is HOLDUP and READY 0. -/
theorem enterHoldup_keeps (B : Folio → Prop) (s : State) : Keeps B s.holdupEntry s.enterHoldup := by
  let a : State := { (s.toPhase .finalWait).setMode
    { (s.toPhase .finalWait).mode.noStage with warning := true, clearT := none, cleared := false } with
      exch := { s.exch with ready := false } }
  have hm : ModeStands s.holdupEntry ((a.changeMode .holdup none (.modeCause .warning)).raise .powerWarning 0 .unstated
      .unstated) := by
    refine ModeStands.of_eq (ModeStands.refl _) ?_
    rw [State.raise_frame _ _ _ _ _ |>.2.2.2.2.2.2.2.2.2.1, State.changeMode_mode]
    rfl
  have hs := (hm.cutSale (sd := .a) (r := .powerLost)).cutSale (sd := .b) (r := .powerLost)
  have k := (changeMode_keeps B a .holdup none (.modeCause .warning)).raise (k := .powerWarning) (o := 0)
    (d1 := .unstated) (d2 := .unstated) |>.cutSale (sd := .a) (r := .powerLost) |>.cutSale (sd := .b) (r := .powerLost)
    |>.motorsHoldup.gateClaim (sd := .a) |>.gateClaim (sd := .b) |>.displaysHoldup
  unfold State.enterHoldup
  refine Keeps.journalWarning (Keeps.postStatus ?_) ?_
  · exact k.setJournal
  · simp only [State.postStatus_frame, State.displaysHoldup_frame, State.gateClaim_frame, State.motorsHoldup_frame]
    exact congrArg ModeCtl.cleared hs

/-- What a host reset keeps of the state in which the mode is COLD and READY 0, up to the mode's notices. -/
theorem modeReset_keeps (B : Folio → Prop) (s : State) :
    Keeps B s.resetEntry ({ s with exch := { s.exch with ready := false } }).modeReset := by
  let a : State := { s with exch := { s.exch with ready := false } }
  exact changeMode_keeps B (a.setMode { s.mode.noStage with outcome := Outcome.clear, warning := s.pins.warning })
    .cold none (.modeCause .reset)

namespace Sound
variable {B : Folio → Prop} {K : Prop} {s₀ s t u : State} {sd : Side}

theorem holdupEntry (h : Sound B K s₀ s) : Sound B K s₀ s.holdupEntry :=
  h.trans { mode := fun _ => holdupEntry_modeOk s }

theorem enterHoldup (h : Sound B K s₀ s) : Sound B K s₀ s.enterHoldup := h.holdupEntry.keeps (enterHoldup_keeps B s)

theorem startCold (h : Sound B K s₀ s) (hB : ∀ sd, B (Folio.report sd)) : Sound B K s₀ s.startCold := by
  unfold State.startCold
  split
  · exact h.motorsReset.enterHoldup
  · exact h.recover hB

theorem resetFolio {f : Folio} (h : Sound B K s₀ s) : Sound B K s₀ (s.resetFolio f) := by
  unfold State.resetFolio
  repeat' split
  · exact h
  · exact h.keeps (Keeps.refl B s).handOver
  · exact h
  · exact h.trans {}

theorem resetFolios {l : List Folio} (h : Sound B K s₀ s) : Sound B K s₀ (s.resetFolios l) := by
  induction l generalizing s with
  | nil => exact h
  | cons f rest ih => exact ih h.resetFolio

theorem hostReset (h : Sound B K s₀ s) (hB : ∀ sd, B (Folio.report sd)) : Sound B K s₀ s.hostReset := by
  unfold State.hostReset
  split
  · have k : Sound B K s₀ s.resetEntry := h.trans { mode := fun _ => resetEntry_modeOk s }
    have k' := k.keeps ((modeReset_keeps B s).toPhase (p := .resetWait) |>.cutSale (sd := .a) (r := .reset)
      |>.cutSale (sd := .b) (r := .reset) |>.downlinkResult (sd := .a) (r := .reset)
      |>.downlinkResult (sd := .b) (r := .reset)) |>.motorsReset
    have k'' := (k'.keeps ((Keeps.refl B _).gateReset (sd := .a) |>.gateReset (sd := .b)).displaysReset).resetFolios
      (l := List.finRange 27)
    dsimp only [State.bothSides]
    generalize State.resetFolios _ _ = v at k''
    have last : Sound B K s₀ (State.postStatus { v with
        sides := v.sides.map SideCtl.hostReset
        pfe := { v.pfe with
          channels := v.pfe.channels.map (PerProduct.map Channel.hostReset), stray := Both.same ⟨0, false⟩ }
        journal := { v.journal with calWait := .idle, initWait := .idle, closeWait := .idle } }) := by
      refine keeps (k''.trans ?_) (Keeps.refl B _).postStatus
      refine { valves := fun hv sd => ?_, channels := fun _ m => ?_ }
      · cases sd
        · exact hv .a
        · exact hv .b
      · obtain ⟨sd, p⟩ := m
        cases sd <;> cases p <;> exact Channel.reset_inRange
    split
    · exact last
    · exact last.beginReset hB
  · exact h

/-- The end of a write (R150), which brings a cold start only in HOLDUP, with the warning cleared. -/
theorem writeEnds {l : List Byte} (h : Sound B K s₀ s) (hB : ∀ sd, B (Folio.report sd))
    (hK : ∀ w, s.journal.inFlight = some w → s.mode.mode = .holdup → s.mode.cleared = true →
      (s.journal.phase = .finalWriting ∨ s.journal.phase = .coldWait ∨
        (s.journal.phase = .finalWait ∧ s.journal.empty = true ∧ (w.readBack l).kind ≠ .valid)) → K) :
    Sound B K s₀ (s.writeEnds l) := by
  unfold State.writeEnds
  split
  · exact h
  · next w hw =>
    dsimp only
    split
    · next hq =>
      refine (h.keeps ((Keeps.refl B s).writeDone hB)).afterDone hB fun hm hc hp => hK w hw ?_ ?_ ?_
      · rwa [State.writeDone_frame _ _ _ |>.2.2.2.2.2.2.2.1] at hm
      · rwa [State.writeDone_frame _ _ _ |>.2.2.2.2.2.2.2.1] at hc
      · rcases hp with hp | hp | ⟨-, he⟩
        · exact .inl hp
        · exact .inr (.inl hp)
        · rw [writeDone_journal, settleWrite_empty, if_pos hq] at he
          cases he
    · next hq =>
      refine (h.keeps (Keeps.refl B s).writeFailed).afterFailed hB fun hm hc hp => hK w hw ?_ ?_ ?_
      · simpa [State.writeFailed, settleWrite_mode] using hm
      · simpa [State.writeFailed, settleWrite_mode] using hc
      · rcases hp with hp | hp | ⟨hp, he⟩
        · exact .inl hp
        · exact .inr (.inl hp)
        · refine .inr (.inr ⟨hp, ?_, hq⟩)
          simpa [State.writeFailed, settleWrite_empty, if_neg hq] using he

end Sound
end Sys2Proof.Machine
end

/-! ### What each command keeps -/
section
namespace Sys2Proof.Machine

/-- The bodies of folio that a command may store to. -/
def Place (s : State) (c : Instr) (f : Folio) : Prop := ∀ a, inBody f a → mayStore s c a

/-- What a command that brings no recovery keeps: O3 to O9 in one statement. -/
structure Effect (c : Instr) (s t : State) : Prop where
  now : s.now ≤ t.now
  pending : t.pending = s.pending
  mask : (∀ dt v, c ≠ .freshMask dt v) → t.exch.mask = s.exch.mask
  config : (∀ dt ref b, c ≠ .config dt ref b) → (∀ dt v, c ≠ .touch dt v) → t.exch.config = s.exch.config
  ready : (∀ dt, c ≠ .powerWarning dt) → t.exch.ready = s.exch.ready
  spiOut : (∀ dt a n, c ≠ .readMemory dt a n) → (∀ dt a, c ≠ .readRegister dt a) → t.exch.spiOut = s.exch.spiOut
  staysStray : (∀ dt, c ≠ .stray dt) → s.exch.stray = true → t.exch.stray = true
  becomesStray : mayStray c = false → s.exch.stray = false → t.exch.stray = false
  fresh : ∀ f : Folio, ¬ mayClear c f → s.exch.fresh.getLsbD f.val = true → t.exch.fresh.getLsbD f.val = true
  bytes : ∀ a, ¬ mayStore s c a → Memory.read t.exch.mem a = Memory.read s.exch.mem a
  memory : MemoryOk s → MemoryOk t
  valves : ValvesOk s → ValvesOk t
  motors : MotorsOk s → MotorsOk t
  channels : ChannelsOk s → ChannelsOk t
  mode : ModeOk s → ModeOk t

namespace Effect
variable {c : Instr} {s t u : State} {dt : Nat}

theorem keeps (e : Effect c s t) (k : Keeps (Place s c) t u) : Effect c s u where
  now := by rw [k.now]; exact e.now
  pending := k.pending.trans e.pending
  mask := fun h => k.mask.trans (e.mask h)
  config := fun h h' => k.config.trans (e.config h h')
  ready := fun h => k.ready.trans (e.ready h)
  spiOut := fun h h' => k.spiOut.trans (e.spiOut h h')
  staysStray := fun h hs => k.stray.trans (e.staysStray h hs)
  becomesStray := fun h hs => k.stray.trans (e.becomesStray h hs)
  fresh := fun f hf hb => k.fresh f (e.fresh f hf hb)
  bytes := fun a ha => (k.bytes a fun _ hf hb => ha (hf a hb)).trans (e.bytes a ha)
  memory := fun m => k.memory (e.memory m)
  valves := fun v => k.valves (e.valves v)
  motors := fun m => k.motors (e.motors m)
  channels := fun x => k.channels (e.channels x)
  mode := fun m => k.mode (e.mode m)

/-- Time passes. -/
theorem elapse (c : Instr) (s : State) (dt : Nat) : Effect c s (s.elapse dt) where
  now := Nat.le_add_right _ _
  pending := rfl
  mask := fun _ => rfl
  config := fun _ _ => rfl
  ready := fun _ => rfl
  spiOut := fun _ _ => rfl
  staysStray := fun _ h => h
  becomesStray := fun _ h => h
  fresh := fun _ _ h => h
  bytes := fun _ _ => rfl
  memory := fun h => h
  valves := fun h => h
  motors := fun h => h
  channels := fun h => h
  mode := fun h => h

/-- The STRAY bit is set by a command that may. -/
theorem setStray (e : Effect c s t) (hc : mayStray c = true) : Effect c s t.setStray :=
  { e with
    staysStray := fun _ _ => rfl
    becomesStray := fun h => by rw [hc] at h; cases h }

/-- A touch takes a folio (R180). -/
theorem touched {f : Folio} (e : Effect c s t) (hc : mayClear c f) : Effect c s (t.touched f) :=
  { e with
    fresh := fun g hg hb => by
      have hne : f.val ≠ g.val := fun h => hg (Fin.ext h ▸ hc)
      have := e.fresh g hg hb
      have hlt := f.isLt
      simp only [State.touched, State.clearFresh, State.setHeader, BitVec.getLsbD_and, this, BitVec.getLsbD_not,
        BitVec.getLsbD_shiftLeft, Bool.true_and]
      have := g.isLt
      simp only [BitVec.getLsbD_one]
      rw [Bool.and_eq_true]
      refine ⟨by simp; omega, ?_⟩
      simp
      omega }

/-- The accepted CONFIG is replaced by CONFIG or by a touch of its folio (R184). -/
theorem setConfig {x : Settings} (e : Effect c s t)
    (hc : (∃ dt ref b, c = .config dt ref b) ∨ ∃ dt v, c = .touch dt v) :
    Effect c s { t with exch := { t.exch with config := x } } :=
  { e with
    config := fun h h' => by
      rcases hc with ⟨dt, ref, b, rfl⟩ | ⟨dt, v, rfl⟩
      · exact absurd rfl (h dt ref b)
      · exact absurd rfl (h' dt v) }

theorem serveConfig (e : Effect c s t)
    (hc : (∃ dt ref b, c = .config dt ref b) ∨ ∃ dt v, c = .touch dt v) : Effect c s t.serveConfig := by
  unfold State.serveConfig
  exact keeps (e.setConfig hc) (Keeps.refl _ _).requestSnapshot.handOver

end Effect

theorem mayStore_of_folioOf {s : State} {c : Instr} {f : Folio} (h : folioOf c = some f) : Place s c f := by
  intro a ha
  cases c <;> first | exact ⟨f, h, ha⟩ | cases h

theorem mayStray_of_folioOf {c : Instr} {f : Folio} (h : folioOf c = some f) : mayStray c = true := by
  cases c <;> first | rfl | cases h

theorem mayClear_of_folioOf {c : Instr} {f : Folio} (h : folioOf c = some f) : mayClear c f := by
  cases c <;> first | exact h | cases h

namespace Keeps
variable {B : Folio → Prop} {s₀ s : State}

theorem hostFill {f : Folio} {ref : Word32} {l : List Byte} (h : Keeps B s₀ s) (hB : B f) :
    Keeps B s₀ (s.hostFill f ref l) := by
  unfold State.hostFill
  exact ite (fun _ => (h.writeBody hB).setHeader) fun _ => h

theorem refuseLength {f : Folio} (h : Keeps B s₀ s) : Keeps B s₀ (s.refuseLength f) := h.setHeader.handOver

theorem togglePhase {m : Meter} {ph : Phase} (h : Keeps B s₀ s) : Keeps B s₀ (s.togglePhase m ph) := by
  cases ph
  · exact h.trans {}
  · exact h.trans {}

theorem writeHeader {f : Folio} {off : Nat} {v : Byte} (h : Keeps B s₀ s) : Keeps B s₀ (s.writeHeader f off v) := by
  unfold State.writeHeader
  exact ite (fun _ => h.setHeader) fun _ => ite (fun _ => h.setHeader) fun _ => h

theorem pinNozzle {sd : Side} {n : Fin 4} {b : Bool} (h : Keeps B s₀ s) : Keeps B s₀ (s.pinNozzle sd n b) := h.trans {}

theorem pinPressure {p : Product} {b : Bool} (h : Keeps B s₀ s) : Keeps B s₀ (s.pinPressure p b) := h.trans {}

end Keeps

namespace Effect
variable {c : Instr} {s t u : State} {dt : Nat}

/-- A touch of a folio (R180). -/
theorem touchWith {f : Folio} {serve : State → State} (e : Effect c s t) (hst : mayStray c = true) (hcl : mayClear c f)
    (hs : Effect c s (t.touched f) → Effect c s (serve (t.touched f))) : Effect c s (t.touchWith f serve) := by
  unfold State.touchWith
  split
  · split
    · exact (e.touched hcl).keeps (Keeps.refl _ _).refuseLength
    · exact hs (e.touched hcl)
  · exact e.setStray hst

/-- A command that is the host's touch of a folio it has filled with a request. -/
theorem request {f : Folio} {ref : Word32} {l : List Byte} {serve : State → State} (hf : folioOf c = some f)
    (hs : ∀ u, Effect c s u → Effect c s (serve u)) : Effect c s ((s.elapse dt).request f ref l serve) :=
  touchWith ((elapse c s dt).keeps ((Keeps.refl _ _).hostFill (mayStore_of_folioOf hf))) (mayStray_of_folioOf hf)
    (mayClear_of_folioOf hf) (hs _)

/-- The effect of a command whose run is known. -/
theorem of_next (hu : exec c s = .next u) (h : exec c s = .next t) (e : Effect c s u) : Effect c s t := by
  rw [hu] at h
  cases h
  exact e

/-- A command that keeps what every operation keeps, after its time. -/
theorem of_keeps (hu : exec c s = .next u) (h : exec c s = .next t) (k : Keeps (Place s c) (s.elapse dt) u) :
    Effect c s t := of_next hu h ((elapse c s dt).keeps k)

end Effect

/-! #### WRITE_MEMORY -/

theorem State.writeHeader_holder (s : State) (f g : Folio) (off : Nat) (v : Byte) :
    ((s.writeHeader f off v).header g).holder = (s.header g).holder := by
  have key : ∀ x : Header, x.holder = (s.header f).holder → ((s.setHeader f x).header g).holder = (s.header g).holder := by
    intro x hx
    rcases eq_or_ne g f with rfl | hne
    · rw [State.setHeader_header_self, hx]
    · rw [State.setHeader_header_ne _ _ hne]
  unfold State.writeHeader
  dsimp only
  repeat' split
  · exact key _ rfl
  · exact key _ rfl
  · rfl

theorem State.hostWrite_holder (s : State) (a : Nat) (v : Byte) (g : Folio) :
    ((s.hostWrite a v).header g).holder = (s.header g).holder := by
  unfold State.hostWrite
  dsimp only
  repeat' split
  · rfl
  · exact s.writeHeader_holder _ _ _ _
  · rfl
  · rfl

namespace Effect
variable {c : Instr} {s t u : State} {dt : Nat}

theorem storeByte {a : Nat} {v : Byte} (e : Effect c s t) (ha : mayStore s c a) (hlt : a < 8192) :
    Effect c s (t.storeByte a v) :=
  { e with
    bytes := fun b hb => (Memory.read_write_ne _ _ fun hba => hb (by rw [hba]; exact ha)).trans (e.bytes b hb)
    memory := fun hm => by
      refine ⟨Memory.write_wf _ _ _ (e.memory hm).1, fun d hd => ?_⟩
      rcases Memory.mem_write _ _ _ _ hd with rfl | hd
      · exact hlt
      · exact (e.memory hm).2 d hd }

/-- One byte of a host write (R179), at an address the command names. -/
theorem hostWrite {addr : BitVec 16} {data : List Byte} {i : Nat} {v : Byte} (e : Effect (.writeMemory dt addr data) s t)
    (hh : ∀ f, (t.header f).holder = (s.header f).holder) (hi : i < data.length) :
    Effect (.writeMemory dt addr data) s (t.hostWrite ((addr.toNat + i) % 8192) v) := by
  generalize ha : (addr.toNat + i) % 8192 = a
  have hlt : a < 8192 := by omega
  have named : ∃ i, i < data.length ∧ a = (addr.toNat + i) % 8192 := ⟨i, hi, ha.symm⟩
  unfold State.hostWrite
  split
  · next hf =>
    dsimp only
    split
    · exact e.setStray rfl
    · next hp =>
      simp only [Bool.or_eq_true, decide_eq_true_eq, not_or] at hp
      split
      · exact e.keeps (Keeps.refl _ _).writeHeader
      · refine e.storeByte ⟨named, .inr ⟨⟨a / 256, hf⟩, ?_, ?_, ?_⟩⟩ hlt
        · simpa using hp.1
        · rw [← hh]
          cases hx : (t.header ⟨a / 256, hf⟩).holder
          · rfl
          · exact absurd hx hp.2
        · unfold inBody Folio.body
          dsimp only
          omega
  · exact e.storeByte ⟨named, .inl (by omega)⟩ hlt

/-- The bytes of a host write in order. -/
theorem hostWrites {addr : BitVec 16} {data vs : List Byte} {i : Nat} (e : Effect (.writeMemory dt addr data) s t)
    (hh : ∀ f, (t.header f).holder = (s.header f).holder) (hi : i + vs.length = data.length) :
    Effect (.writeMemory dt addr data) s (t.hostWrites ((addr.toNat + i) % 8192) vs) := by
  induction vs generalizing t i with
  | nil => exact e
  | cons v vs ih =>
    simp only [List.length_cons] at hi
    have k := ih (t := t.hostWrite ((addr.toNat + i) % 8192) v) (i := i + 1) (e.hostWrite hh (by omega))
      (fun f => (t.hostWrite_holder _ _ _).trans (hh f)) (by omega)
    have hn : ((addr.toNat + i) % 8192 + 1) % memorySize = (addr.toNat + (i + 1)) % 8192 := by
      unfold memorySize
      omega
    unfold State.hostWrites
    rw [hn]
    exact k

theorem writeMemory {addr : BitVec 16} {data : List Byte} (ha : addr.toNat < memorySize) :
    Effect (.writeMemory dt addr data) s ((s.elapse dt).hostWrites addr.toNat data) := by
  have k := hostWrites (i := 0) (vs := data) (elapse (.writeMemory dt addr data) s dt) (fun _ => rfl) (by simp)
  rwa [Nat.add_zero, Nat.mod_eq_of_lt (by simpa [memorySize] using ha)] at k

end Effect

/-! #### TOUCH -/

namespace Keeps
variable {B : Folio → Prop} {s₀ s : State} {sd : Side}

theorem serveSiteOrder (h : Keeps B s₀ s) : Keeps B s₀ s.serveSiteOrder := by
  unfold State.serveSiteOrder
  dsimp only
  split
  · exact h.serveOpen
  · exact h.serveClose
  · exact h.serveSetClock
  · exact h.serveMeterClear
  · exact h.serveMotorRetry
  · exact h.serveRetest
  · exact h.serveReaderClear
  · exact h.serveReaderRestart
  · exact h.serveJournalInit
  · exact h.handOver

theorem serveOrder (h : Keeps B s₀ s) (hB : B (Folio.order sd)) : Keeps B s₀ (s.serveOrder sd) := by
  unfold State.serveOrder
  dsimp only
  split
  · exact h.serveAuthorize hB
  · exact h.serveChangeLimit hB
  · exact h.serveStop hB
  · exact h.serveResume hB
  · exact h.serveEnd hB
  · exact h.answerOrder hB

/-- The owning block of a folio other than CONFIG takes it (R180). -/
theorem serveFolio {f : Folio} (h : Keeps B s₀ s) (hf : f ≠ Folio.config) (hB : B f)
    (hU : ∀ sd i j, f = Folio.uplink sd i → B (Folio.uplink sd j)) : Keeps B s₀ (s.serveFolio f) := by
  have own : ∀ g : Folio, f.val = g.val → B g := fun g hg => Fin.ext hg ▸ hB
  unfold State.serveFolio
  dsimp only
  split
  · next hv => exact absurd (Fin.ext hv) hf
  · exact h.serveSchedule
  · exact h.serveGrades
  · exact h.serveStaging
  · exact h.serveCalibration
  · exact h.serveAdmission
  · exact h.serveWatch
  · exact h.serveSiteOrder
  · next hv => exact h.serveOrder (own _ hv)
  · next hv => exact h.serveOrder (own _ hv)
  · next hv => exact h.reportBack (own _ hv)
  · next hv => exact h.reportBack (own _ hv)
  · exact h.serveMessage
  · exact h.serveMessage
  · next hv => exact h.uplinkFlow fun j => hU .a 0 j (Fin.ext hv)
  · next hv => exact h.uplinkFlow fun j => hU .a 1 j (Fin.ext hv)
  · next hv => exact h.uplinkFlow fun j => hU .b 0 j (Fin.ext hv)
  · next hv => exact h.uplinkFlow fun j => hU .b 1 j (Fin.ext hv)
  · exact h.serveDownlink
  · exact h.serveDownlink
  · exact h

end Keeps

/-- What TOUCH keeps. -/
theorem Effect.touch {s t : State} {dt : Nat} {v : Word32} (h : exec (.touch dt v) s = .next t) :
    Effect (.touch dt v) s t := by
  refine Effect.of_next rfl h ?_
  split
  · next hv =>
    refine Effect.touchWith (Effect.elapse _ _ _) rfl (by exact rfl) fun e => ?_
    rcases eq_or_ne (⟨v.toNat % 256, hv⟩ : Folio) Folio.config with hc | hc
    · have : ∀ u : State, u.serveFolio ⟨v.toNat % 256, hv⟩ = u.serveConfig := fun u => by rw [hc]; rfl
      rw [this]
      exact e.serveConfig (.inr ⟨dt, v, rfl⟩)
    · refine e.keeps ((Keeps.refl _ _).serveFolio hc ?_ ?_)
      · exact fun a ha => ⟨_, rfl, .inl ha⟩
      · exact fun sd i j hu a ha => ⟨_, rfl, .inr ⟨sd, i, hu, j, ha⟩⟩
  · exact (Effect.elapse _ _ _).setStray rfl

/-- What the entry to HOLDUP by POWER_WARNING keeps, or its repetition in HOLDUP (R175). -/
theorem Effect.powerWarning {s t : State} {dt : Nat} (h : exec (.powerWarning dt) s = .next t) :
    Effect (.powerWarning dt) s t := by
  refine Effect.of_next rfl h ?_
  have e : Effect (.powerWarning dt) s ((s.elapse dt).pinWarning true) :=
    (Effect.elapse _ s dt).keeps ((Keeps.refl _ _).trans {})
  unfold State.warningAsserted
  split
  · exact e.keeps (Keeps.refl _ _).setMode
  · refine Effect.keeps ?_ (enterHoldup_keeps _ _)
    exact { e with
      ready := fun hr => absurd rfl (hr dt)
      mode := fun _ => holdupEntry_modeOk _ }

end Sys2Proof.Machine
end

/-! ### The invariants, and what a command leaves alone -/
section
namespace Sys2Proof.Machine

/-- What every command that brings no recovery keeps. -/
theorem exec_effect {c : Instr} {s t : State} (hr : mayRecover c = false) (h : exec c s = .next t) : Effect c s t := by
  have r : ∀ {u : State}, Keeps (Place s c) u u := Keeps.refl _ _
  cases c with
  | pulserEdge dt m ph =>
    exact .of_keeps (dt := dt) rfl h (Keeps.ite (fun _ => r.togglePhase) fun _ => r.togglePhase.channelEdge)
  | rateExpiry dt m =>
    refine .of_keeps (dt := dt) rfl h (Keeps.ite (fun _ => r.setChan fun hv => ?_) fun _ => r)
    obtain ⟨h1, h2, h3, h4, h5, -, h7⟩ := hv m
    exact ⟨h1, h2, h3, h4, h5, by simp, h7⟩
  | meterClear dt ref n => exact .of_next rfl h (.request rfl fun _ e => e.keeps r.serveMeterClear)
  | grades dt ref req => exact .of_next rfl h (.request rfl fun _ e => e.keeps r.serveGrades)
  | priceStaging dt ref req => exact .of_next rfl h (.request rfl fun _ e => e.keeps r.serveStaging)
  | priceSwap dt => exact .of_keeps (dt := dt) rfl h r.swapTest
  | nozzleLift dt sd n =>
    exact .of_keeps (dt := dt) rfl h (Keeps.ite (fun _ => r.pinNozzle) fun _ => r.pinNozzle.setNozzle.lift)
  | nozzleHang dt sd n =>
    exact .of_keeps (dt := dt) rfl h (Keeps.ite (fun _ => r.pinNozzle) fun _ => r.pinNozzle.setNozzle.hang)
  | authorize dt sd ref req =>
    exact .of_next rfl h (.request rfl fun _ e => e.keeps (r.serveAuthorize (mayStore_of_folioOf rfl)))
  | changeLimit dt sd ref req =>
    exact .of_next rfl h (.request rfl fun _ e => e.keeps (r.serveChangeLimit (mayStore_of_folioOf rfl)))
  | stop dt sd ref => exact .of_next rfl h (.request rfl fun _ e => e.keeps (r.serveStop (mayStore_of_folioOf rfl)))
  | resume dt sd ref => exact .of_next rfl h (.request rfl fun _ e => e.keeps (r.serveResume (mayStore_of_folioOf rfl)))
  | endSale dt sd ref => exact .of_next rfl h (.request rfl fun _ e => e.keeps (r.serveEnd (mayStore_of_folioOf rfl)))
  | authTimeout dt sd => exact .of_keeps (dt := dt) rfl h (Keeps.ite (fun _ => r.finishSale) fun _ => r)
  | valveStagger dt sd =>
    refine .of_keeps (dt := dt) rfl h (Keeps.ite (fun hc => r.openMains ?_) fun _ => r)
    exact of_decide_eq_true ((Bool.and_eq_true _ _ ▸ hc).1)
  | slowValveClose dt sd => exact .of_keeps (dt := dt) rfl h (Keeps.ite (fun _ => r.slowsClose) fun _ => r)
  | noflowTimeout dt sd => exact .of_keeps (dt := dt) rfl h (Keeps.ite (fun _ => r.toEnding) fun _ => r)
  | suspendTimeout dt sd => exact .of_keeps (dt := dt) rfl h (Keeps.ite (fun _ => r.toEnding) fun _ => r)
  | settleTime dt sd => exact .of_keeps (dt := dt) rfl h (Keeps.ite (fun _ => r.finishSale) fun _ => r)
  | startSlotGrant dt => exact .of_keeps (dt := dt) rfl h r.arbiterTest.afterMotors
  | motorGap dt => exact .of_keeps (dt := dt) rfl h r.arbiterTest.afterMotors
  | restartGap dt => exact .of_keeps (dt := dt) rfl h r.arbiterTest.afterMotors
  | pressureOkPresent dt p => exact .of_keeps (dt := dt) rfl h r.pinPressure.pressureArrives
  | pressureOkAbsent dt p => exact .of_keeps (dt := dt) rfl h r.pinPressure.pressureGoes
  | pressureTimeout dt p => exact .of_keeps (dt := dt) rfl h (Keeps.ite (fun _ => r.motorFails) fun _ => r)
  | pressureLost dt p => exact .of_keeps (dt := dt) rfl h (Keeps.ite (fun _ => r.motorFails) fun _ => r)
  | idleRun dt p => exact .of_keeps (dt := dt) rfl h (Keeps.ite (fun _ => r.rundownEnds) fun _ => r)
  | failHold dt p =>
    refine .of_keeps (dt := dt) rfl h (Keeps.ite (fun hc => r.motorRecovers ?_) fun _ => r)
    exact of_decide_eq_true ((Bool.and_eq_true _ _ ▸ hc).1)
  | motorRetry dt ref n => exact .of_next rfl h (.request rfl fun _ e => e.keeps r.serveMotorRetry)
  | transferEnd dt sd echo =>
    refine .of_keeps (dt := dt) rfl h ?_
    split
    · exact r
    · exact Keeps.ite (fun _ => r.setDisp) fun _ => (r.setDisp.judgeTransfer).nextTransfer
  | refreshStart dt sd => exact .of_keeps (dt := dt) rfl h (Keeps.ite (fun _ => r.startComposed) fun _ => r)
  | zeroCheckHold dt sd => exact .of_keeps (dt := dt) rfl h (Keeps.ite (fun _ => r.setDisp.startComposed) fun _ => r)
  | lampTestHold dt sd =>
    exact .of_keeps (dt := dt) rfl h (Keeps.ite (fun _ => Keeps.ite (fun _ => r.setDisp.startTransfer) fun _ =>
      Keeps.ite (fun _ => r.setDisp.startComposed) fun _ => r) fun _ => r)
  | displayRetest dt ref n => exact .of_next rfl h (.request rfl fun _ e => e.keeps r.serveRetest)
  | darkDelay dt => exact .of_keeps (dt := dt) rfl h (Keeps.ite (fun _ => r.darkExpire.darkReport) fun _ => r)
  | message dt sd ref text => exact .of_next rfl h (.request rfl fun _ e => e.keeps r.serveMessage)
  | temperatureSample dt reading => exact .of_keeps (dt := dt) rfl h (Keeps.ite (fun _ => r.takeReading) fun _ => r)
  | warmLimit dt => exact .of_keeps (dt := dt) rfl h (Keeps.ite (fun _ => Keeps.warmDone (r.trans {})) fun _ => r)
  | pollCycleStart dt sd => exact .of_keeps (dt := dt) rfl h (Keeps.ite (fun _ => r.setGate.pollFrom) fun _ => r)
  | answerFrame dt sd f =>
    have hB : ∀ i, Place s (.answerFrame dt sd f) (Folio.uplink sd i) := fun i a ha => ⟨i, ha⟩
    refine .of_keeps (dt := dt) rfl h ?_
    split
    · exact Keeps.ite (fun _ => r) fun _ => Keeps.onGate (Keeps.ite (fun _ => r.goodAnswer hB) fun _ => r.missAnswer)
    · exact r
  | answerTimeout dt sd =>
    refine .of_keeps (dt := dt) rfl h ?_
    split
    · exact Keeps.ite (fun _ => Keeps.onGate r.missAnswer) fun _ => r
    · exact r
  | receiveError dt sd =>
    refine .of_keeps (dt := dt) rfl h (Keeps.ite (fun _ => r) fun _ => ?_)
    split
    · exact Keeps.onGate r.setGate.missAnswer
    · exact r.setGate
  | breakOff dt sd =>
    refine .of_keeps (dt := dt) rfl h ?_
    split
    · exact Keeps.ite (fun _ => r) fun _ => Keeps.onGate r.missAnswer
    · exact r
  | resyncEnd dt sd => exact .of_keeps (dt := dt) rfl h (Keeps.ite (fun _ => r.setGate) fun _ => r)
  | readerStartTimeout dt sd =>
    exact .of_keeps (dt := dt) rfl h (Keeps.ite (fun _ => Keeps.onGate r.startExpires) fun _ => r)
  | offTime dt sd =>
    refine .of_keeps (dt := dt) rfl h (Keeps.ite (fun _ => ?_) fun _ => r)
    split
    · exact r.setGate
    · exact r
  | tamperInputOpen dt sd =>
    exact .of_keeps (dt := dt) rfl h (Keeps.ite (fun _ => r.setTamper) fun _ => Keeps.onGate r.setTamper.gateTamper)
  | readerClear dt ref n => exact .of_next rfl h (.request rfl fun _ e => e.keeps r.serveReaderClear)
  | readerRestart dt ref n => exact .of_next rfl h (.request rfl fun _ e => e.keeps r.serveReaderRestart)
  | admission dt ref req => exact .of_next rfl h (.request rfl fun _ e => e.keeps r.serveAdmission)
  | uplinkReturn dt sd which =>
    exact .of_next rfl h (.touchWith (.elapse _ _ dt) rfl rfl fun e => e.keeps (r.uplinkFlow fun i a ha => ⟨i, ha⟩))
  | downlink dt sd ref req => exact .of_next rfl h (.request rfl fun _ e => e.keeps r.serveDownlink)
  | reportReturn dt sd =>
    exact .of_next rfl h (.touchWith (.elapse _ _ dt) rfl rfl fun e => e.keeps (r.reportBack (mayStore_of_folioOf rfl)))
  | watchFolio dt ref req => exact .of_next rfl h (.request rfl fun _ e => e.keeps r.serveWatch)
  | periodicTimer dt => exact .of_keeps (dt := dt) rfl h (Keeps.ite (fun _ => r.requestSnapshot) fun _ => r)
  | metrologySwitchChange dt closed =>
    exact .of_keeps (dt := dt) rfl h (Keeps.ite (fun _ => r.trans {}) fun _ => Keeps.takeSwitch (r.trans {}))
  | calibration dt ref req => exact .of_next rfl h (.request rfl fun _ e => e.keeps r.serveCalibration)
  | journalInit dt ref => exact .of_next rfl h (.request rfl fun _ e => e.keeps r.serveJournalInit)
  | powerWarning dt => exact .powerWarning h
  | clockTick dt => exact .of_keeps (dt := dt) rfl h r.setMode.newClock
  | setClock dt ref weekday second => exact .of_next rfl h (.request rfl fun _ e => e.keeps r.serveSetClock)
  | schedule dt ref req => exact .of_next rfl h (.request rfl fun _ e => e.keeps r.serveSchedule)
  | openSite dt ref => exact .of_next rfl h (.request rfl fun _ e => e.keeps r.serveOpen)
  | closeSite dt ref => exact .of_next rfl h (.request rfl fun _ e => e.keeps r.serveClose)
  | wakeSettle dt =>
    refine .of_keeps (dt := dt) rfl h (Keeps.ite (fun hc => r.setMode.checkStage fun hv => ?_) fun _ => r)
    exact hv.2 .wake (of_decide_eq_true (Bool.and_eq_true _ _ ▸ hc).1)
  | closeGrace dt =>
    exact .of_keeps (dt := dt) rfl h (Keeps.ite (fun _ => r.setMode.bothSides fun _ _ k => k.graceEnds) fun _ => r)
  | motorSpacing dt =>
    refine .of_keeps (dt := dt) rfl h (Keeps.ite (fun hc => (r.spacingStep fun hv => ?_).afterMotors) fun _ => r)
    exact hv.2 .motorsOff (of_decide_eq_true (Bool.and_eq_true _ _ ▸ hc).1)
  | readMemory dt addr count =>
    have hx : exec (.readMemory dt addr count) s = if addr.toNat < memorySize then
      .next { s.elapse dt with exch := { s.exch with spiOut := (s.elapse dt).readBytes addr.toNat count } }
      else .fault (.addressOutside addr) := rfl
    rw [hx] at h
    split at h
    · cases h
      exact { Effect.elapse (.readMemory dt addr count) s dt with spiOut := fun hs => absurd rfl (hs dt addr count) }
    · cases h
  | writeMemory dt addr data =>
    have hx : exec (.writeMemory dt addr data) s = if addr.toNat < memorySize then
      .next ((s.elapse dt).hostWrites addr.toNat data) else .fault (.addressOutside addr) := rfl
    rw [hx] at h
    split at h
    · next ha => cases h; exact .writeMemory ha
    · cases h
  | readRegister dt addr =>
    refine .of_next rfl h ?_
    have e : ∀ l, Effect (.readRegister dt addr) s { s.elapse dt with exch := { s.exch with spiOut := l } } := fun l =>
      { Effect.elapse (.readRegister dt addr) s dt with spiOut := fun _ hs => absurd rfl (hs dt addr) }
    split
    · exact e _
    · exact (e _).setStray rfl
  | unknownCommand dt cmd =>
    refine .of_next rfl h ?_
    split
    · exact .elapse _ _ _
    · exact (Effect.elapse _ _ _).setStray rfl
  | touch dt value => exact .touch h
  | fresh dt value =>
    refine .of_next rfl h { Effect.elapse (.fresh dt value) s dt with fresh := fun f hf hb => ?_ }
    have hf : value.getLsbD f.val = false := Bool.eq_false_iff.2 hf
    have := f.isLt
    show (s.exch.fresh &&& ~~~value).getLsbD f.val = true
    simp only [BitVec.getLsbD_and, BitVec.getLsbD_not, hb, hf]
    simp
    omega
  | freshMask dt value =>
    exact .of_next rfl h { Effect.elapse (.freshMask dt value) s dt with mask := fun hm => absurd rfl (hm dt value) }
  | stray dt =>
    exact .of_next rfl h { Effect.elapse (.stray dt) s dt with
      staysStray := fun hs => absurd rfl (hs dt), becomesStray := fun _ _ => rfl }
  | strayRegisterWrite dt addr =>
    refine .of_next rfl h ?_
    split
    · exact (Effect.elapse _ _ _).setStray rfl
    · exact .elapse _ _ _
  | config dt ref body => exact .of_next rfl h (.request rfl fun _ e => e.serveConfig (.inl ⟨dt, ref, body, rfl⟩))
  | statusUpdate dt =>
    exact .of_keeps (dt := dt) rfl h (Keeps.ite (fun _ => r.rewriteStatus.trans {}) fun _ => r)
  | tamperInputClosed dt sd => exact .of_keeps (dt := dt) rfl h r.setTamper
  | warningInputInactive dt =>
    exact .of_keeps (dt := dt) rfl h (Keeps.ite (fun _ => Keeps.setMode (r.trans {})) fun _ => r.trans {})
  | journalWriteComplete dt damage => cases hr
  | powerOn dt pins taken decay => cases hr
  | hostReset dt => cases hr
  | warningCleared dt => cases hr

/-! #### The commands that may bring a recovery -/

/-- The REPORT folios. -/
def IsReport (f : Folio) : Prop := ∃ sd, f = Folio.report sd

theorem isReport_report (sd : Side) : IsReport (Folio.report sd) := ⟨sd, rfl⟩

theorem not_inBody_of_isReport {a : Nat} (ha : ¬ inReports a) (f : Folio) (hf : IsReport f) : ¬ inBody f a := by
  obtain ⟨sd, rfl⟩ := hf
  exact fun h => ha ⟨sd, h⟩

theorem Sound.of_next {B : Folio → Prop} {K : Prop} {c : Instr} {s₀ s t u : State} (hu : exec c s = .next u)
    (h : exec c s = .next t) (e : Sound B K s₀ u) : Sound B K s₀ t := by
  rw [hu] at h
  cases h
  exact e

theorem Sound.coldState {B : Folio → Prop} (s : State) (pins : Pins) (slots : Vector Slot 16) :
    Sound B True s (s.coldState pins slots []) := by
  obtain ⟨hv, hm, hc, ho⟩ := coldState_ok s pins slots []
  exact
    { bytes := fun h => absurd trivial h, memory := fun _ => ⟨rfl, nofun⟩, valves := fun _ => hv
      motors := fun _ => hm, channels := fun _ => hc, mode := fun _ => ho }

theorem Timer.due_iff (t : Timer) (now : Nat) : t.due now = true ↔ ∃ d, t = some d ∧ d ≤ now := by
  cases t <;> simp [Timer.due]

/-- What a command that may bring a recovery keeps: `POWER_ON` and a cold start leave no bytes. -/
theorem exec_sound {c : Instr} {s t : State} (hr : mayRecover c = true) (h : exec c s = .next t) :
    ∃ dt, Sound IsReport (coldStarts s c ∨ ∃ dt pins taken decay, c = .powerOn dt pins taken decay) (s.elapse dt) t := by
  cases c with
  | powerOn dt pins taken decay =>
    refine ⟨dt, Sound.of_next rfl h (Sound.startCold ?_ isReport_report)⟩
    exact { Sound.coldState (B := IsReport) (s.elapse dt) pins _ with
      bytes := fun hn => absurd (.inr ⟨dt, pins, taken, decay, rfl⟩) hn }
  | hostReset dt => exact ⟨dt, Sound.of_next rfl h ((Sound.refl _ _ _).hostReset isReport_report)⟩
  | journalWriteComplete dt damage =>
    refine ⟨dt, Sound.of_next rfl h ((Sound.refl _ _ _).writeEnds isReport_report fun w hw hm hc hp => ?_)⟩
    exact .inl ⟨hm, hc, w, hw, hp⟩
  | warningCleared dt =>
    refine ⟨dt, Sound.of_next rfl h ?_⟩
    dsimp only
    split
    · next hc =>
      simp only [Bool.and_eq_true, decide_eq_true_eq, Timer.due_iff] at hc
      obtain ⟨hm, d, hd, hle⟩ := hc
      refine Sound.holdupTest ((Sound.refl _ _ _).keeps (Keeps.refl _ _).setMode) isReport_report fun _ _ hp => ?_
      exact .inl ⟨hm, hp, d, hd, hle⟩
    · exact Sound.refl _ _ _
  | _ => cases hr

/-- Every command keeps every invariant. -/
theorem exec_invariants {c : Instr} {s t : State} (h : exec c s = .next t) :
    (MemoryOk s → MemoryOk t) ∧ (ValvesOk s → ValvesOk t) ∧ (MotorsOk s → MotorsOk t) ∧
      (ChannelsOk s → ChannelsOk t) ∧ (ModeOk s → ModeOk t) := by
  cases hr : mayRecover c
  · have e := exec_effect hr h
    exact ⟨e.memory, e.valves, e.motors, e.channels, e.mode⟩
  · obtain ⟨dt, e⟩ := exec_sound hr h
    exact ⟨e.memory, e.valves, e.motors, e.channels, e.mode⟩

/-- Every step keeps every invariant. -/
theorem step_invariants {s t : State} (h : step s = .next t) :
    (MemoryOk s → MemoryOk t) ∧ (ValvesOk s → ValvesOk t) ∧ (MotorsOk s → MotorsOk t) ∧
      (ChannelsOk s → ChannelsOk t) ∧ (ModeOk s → ModeOk t) := by
  unfold step at h
  split at h
  · next c rest _ => exact exec_invariants (s := { s with pending := rest }) h
  · cases h
    exact ⟨id, id, id, id, id⟩

/-! #### The cold start's bytes -/

/-- The bytes a cold start leaves (R186). -/
theorem coldStart_bytes (s : State) {a : Nat} (ha : ¬ inReports a) :
    Memory.read s.coldStart.exch.mem a = if 6912 ≤ a then Memory.read s.exch.mem a else 0 := by
  have k := (Sound.refl IsReport False (s.coldState s.pins s.journal.slots (scratchOf s.exch.mem))).recover
    (b := false) isReport_report
  exact (k.bytes not_false a (not_inBody_of_isReport ha)).trans (read_scratchOf _ _)

theorem holdupTest_bytes {s : State} (hm : s.mode.mode = .holdup) (hc : s.mode.cleared = true)
    (hp : s.journal.phase = .done) {a : Nat} (ha : ¬ inReports a) :
    Memory.read s.holdupTest.exch.mem a = if 6912 ≤ a then Memory.read s.exch.mem a else 0 := by
  unfold State.holdupTest
  rw [if_pos ⟨hm, hc, hp⟩]
  exact coldStart_bytes s ha

theorem afterDone_bytes {s : State} {p : JPhase} {w : WriteWait} (hm : s.mode.mode = .holdup)
    (hc : s.mode.cleared = true) (hp : p = .finalWriting ∨ p = .coldWait) {a : Nat} (ha : ¬ inReports a) :
    Memory.read (s.afterDone p w).exch.mem a = if 6912 ≤ a then Memory.read s.exch.mem a else 0 := by
  rcases hp with rfl | rfl
  · exact holdupTest_bytes (s := s.toPhase .done) hm hc rfl ha
  · exact holdupTest_bytes (s := s.toPhase .done) hm hc rfl ha

theorem afterFailed_bytes {s : State} {p : JPhase} (hm : s.mode.mode = .holdup) (hc : s.mode.cleared = true)
    (hp : p = .finalWriting ∨ p = .coldWait ∨ (p = .finalWait ∧ s.journal.empty = true)) {a : Nat}
    (ha : ¬ inReports a) :
    Memory.read (s.afterFailed p).exch.mem a = if 6912 ≤ a then Memory.read s.exch.mem a else 0 := by
  rcases hp with rfl | rfl | ⟨rfl, he⟩
  · exact holdupTest_bytes (s := s.toPhase .done) hm hc rfl ha
  · exact holdupTest_bytes (s := s.toPhase .done) hm hc rfl ha
  · show Memory.read s.beginFinal.exch.mem a = _
    unfold State.beginFinal
    rw [if_pos he]
    exact holdupTest_bytes (s := s.clearRequest.toPhase .done) hm hc rfl ha

theorem writeEnds_bytes {s : State} {l : List Byte} {w : Write} (hw : s.journal.inFlight = some w)
    (hm : s.mode.mode = .holdup) (hc : s.mode.cleared = true)
    (hp : s.journal.phase = .finalWriting ∨ s.journal.phase = .coldWait ∨
      (s.journal.phase = .finalWait ∧ s.journal.empty = true ∧ (w.readBack l).kind ≠ .valid))
    {a : Nat} (ha : ¬ inReports a) :
    Memory.read (s.writeEnds l).exch.mem a = if 6912 ≤ a then Memory.read s.exch.mem a else 0 := by
  unfold State.writeEnds
  rw [hw]
  dsimp only
  split
  · next hq =>
    have k := (Keeps.refl IsReport s).writeDone (w := w) (q := w.readBack l) isReport_report
    rw [afterDone_bytes (by simpa using hm) (by simpa using hc) ?_ ha, k.bytes a (not_inBody_of_isReport ha)]
    rcases hp with hp | hp | ⟨-, -, hn⟩
    · exact .inl hp
    · exact .inr hp
    · exact absurd hq hn
  · next hq =>
    have k := (Keeps.refl IsReport s).writeFailed (w := w) (q := w.readBack l)
    rw [afterFailed_bytes (by simpa [State.writeFailed, settleWrite_mode] using hm)
      (by simpa [State.writeFailed, settleWrite_mode] using hc) ?_ ha, k.bytes a (not_inBody_of_isReport ha)]
    refine hp.imp_right (Or.imp_right fun hp => ⟨hp.1, ?_⟩)
    simpa [State.writeFailed, settleWrite_empty, if_neg hq] using hp.2.1

theorem exec_coldStarts {c : Instr} {s t : State} (hk : coldStarts s c) (h : exec c s = .next t) {a : Nat}
    (ha : ¬ mayStore s c a) : Memory.read t.exch.mem a = if 6912 ≤ a then Memory.read s.exch.mem a else 0 := by
  cases c with
  | journalWriteComplete dt damage =>
    obtain ⟨hm, hc, w, hw, hp⟩ := hk
    cases h
    exact writeEnds_bytes (s := s.elapse dt) hw hm hc hp ha
  | warningCleared dt =>
    obtain ⟨hm, hp, d, hd, hle⟩ := hk
    have hx : exec (.warningCleared dt) s = .next
        ((s.elapse dt).setMode { s.mode with clearT := none, cleared := true }).holdupTest := by
      show Host.Outcome.next _ = _
      rw [if_pos]
      · rfl
      · simp only [Bool.and_eq_true, decide_eq_true_eq, Timer.due_iff]
        exact ⟨hm, d, hd, hle⟩
    rw [hx] at h
    cases h
    exact holdupTest_bytes (s := (s.elapse dt).setMode { s.mode with clearT := none, cleared := true }) hm rfl hp ha
  | _ => cases hk

theorem exec_powerOn_bytes {s t : State} {dt : Nat} {pins : Pins} {taken : Nat} {decay : List (Fin 16 × List Byte)}
    (h : exec (.powerOn dt pins taken decay) s = .next t) {a : Nat} (ha : ¬ inReports a) :
    Memory.read t.exch.mem a = 0 := by
  cases h
  exact ((Sound.refl IsReport False _).startCold isReport_report).bytes not_false a (not_inBody_of_isReport ha)

end Sys2Proof.Machine

open Sys2Proof Sys2Proof.Machine

/-- Settles O3: `exec_invariants`, whose memory part rests on the writes of bodies and of single bytes. -/
theorem stepKeepsMemory : Obligations.StepKeepsMemory := fun _ _ hs h => (step_invariants h).1 hs

/-- Settles O4: the valves' part of `exec_invariants`, which turns on `startSlowClose_valvesOk`. -/
theorem stepKeepsValves : Obligations.StepKeepsValves := fun _ _ hs h => (step_invariants h).2.1 hs

/-- Settles O5: the motors' part of `exec_invariants`, which turns on `Keeps.grant`. -/
theorem stepKeepsMotors : Obligations.StepKeepsMotors := fun _ _ hs h => (step_invariants h).2.2.1 hs

/-- Settles O6: the channels' part of `exec_invariants`. -/
theorem stepKeepsChannels : Obligations.StepKeepsChannels := fun _ _ hs h => (step_invariants h).2.2.2.1 hs

/-- Settles O7: the mode's part of `exec_invariants`. -/
theorem stepKeepsMode : Obligations.StepKeepsMode := fun _ _ hs h => (step_invariants h).2.2.2.2 hs

/-- Settles O8: `Effect.bytes` and `Sound.bytes`, and what a cold start and POWER_ON leave. -/
theorem commandsStoreInTheirPlace : Obligations.CommandsStoreInTheirPlace := by
  intro c s t h a ha
  refine ⟨fun hp hk => ?_, fun hk => exec_coldStarts hk h ha, fun dt pins taken decay hc => ?_⟩
  · cases hr : mayRecover c
    · exact (exec_effect hr h).bytes a ha
    · obtain ⟨dt, e⟩ := exec_sound hr h
      refine e.bytes ?_ a (not_inBody_of_isReport ?_)
      · rintro (k | ⟨dt, pins, taken, decay, rfl⟩)
        · exact hk k
        · exact hp dt pins taken decay rfl
      · cases c <;> first | exact ha | cases hr
  · subst hc
    exact exec_powerOn_bytes h ha

/-- Settles O9: `Effect` for the commands that bring no recovery, `Sound` for the time and the queue of the others. -/
theorem oneCommandChangesEachRegister : Obligations.OneCommandChangesEachRegister := by
  intro c s t h
  cases hr : mayRecover c
  · have e := exec_effect hr h
    exact ⟨e.pending, e.now, fun _ =>
      ⟨e.mask, e.config, e.ready, e.spiOut, e.staysStray, e.becomesStray, e.fresh⟩⟩
  · obtain ⟨dt, e⟩ := exec_sound hr h
    refine ⟨e.pending, ?_, nofun⟩
    rw [e.now]
    exact Nat.le_add_right _ _

/-- Settles O1: the definition of a step. -/
theorem stepTakesTheFront : Obligations.StepTakesTheFront := by
  refine ⟨fun s c rest h => ?_, fun s h => ?_⟩
  · unfold step
    rw [h]
  · unfold step
    rw [h]

/-- Settles O2: the reset state is a cold state, which meets every invariant. -/
theorem invariantsHoldAtReset : Obligations.InvariantsHoldAtReset := by
  refine ⟨⟨rfl, nofun⟩, fun sd p => ?_, ⟨fun p => ?_, fun p q hp _ => ?_⟩, fun m => ?_, rfl, nofun⟩
  · cases sd <;> cases p <;> exact ⟨fun _ => rfl, fun _ => rfl, nofun⟩
  · cases p <;> rfl
  · cases p <;> cases hp
  · obtain ⟨sd, p⟩ := m
    cases sd <;> cases p <;> exact Channel.reset_inRange
end


/-! ### What an operation does to the event ring and to the exchanged folios -/
section
set_option linter.unnecessarySeqFocus false
set_option linter.unusedTactic false
set_option linter.unreachableTactic false

namespace Sys2Proof.Machine

/-- The event ring, its counter, and the headers of the EVENTS folios. -/
def Exchange.log (x : Exchange) : Nat × Vector (Option Event) 56 × (Folio → Option Header) :=
  (x.nextEvent, x.ring, fun g => if 3 ≤ g.val ∧ g.val < 7 then some (x.headers.get g) else none)

/-- The headers of the exchanged folios (R180). -/
def Exchange.owned (x : Exchange) : Folio → Option Header :=
  fun g => if 7 ≤ g.val then some (x.headers.get g) else none

theorem header_eq_of_owned {s t : State} (h : t.exch.owned = s.exch.owned) {g : Folio} (hg : 7 ≤ g.val) :
    t.header g = s.header g := by
  have := congrFun h g
  simp only [Exchange.owned, if_pos hg, Option.some.injEq] at this
  exact this

theorem header_eq_of_log {s t : State} (h : t.exch.log = s.exch.log) {g : Folio} (hg : 3 ≤ g.val) (hg' : g.val < 7) :
    t.header g = s.header g := by
  have := congrFun (congrArg (fun l => l.2.2) h) g
  simp only [Exchange.log, if_pos (And.intro hg hg'), Option.some.injEq] at this
  exact this

theorem setHeader_owned (s : State) {f : Folio} (h : Header) (hf : f.val < 7) :
    (s.setHeader f h).exch.owned = s.exch.owned := by
  funext g
  by_cases hg : 7 ≤ g.val
  · have hne : g ≠ f := by rintro rfl; omega
    simp only [Exchange.owned, if_pos hg, Option.some.injEq]
    exact State.setHeader_header_ne s h hne
  · simp [Exchange.owned, hg]

theorem setHeader_log (s : State) {f : Folio} (h : Header) (hf : f.val < 3 ∨ 7 ≤ f.val) :
    (s.setHeader f h).exch.log = s.exch.log := by
  have heads : ∀ g : Folio, 3 ≤ g.val ∧ g.val < 7 → (s.setHeader f h).header g = s.header g := fun g hg =>
    State.setHeader_header_ne s h (by rintro rfl; omega)
  unfold Exchange.log
  refine Prod.ext rfl (Prod.ext rfl (funext fun g => ?_))
  by_cases hg : 3 ≤ g.val ∧ g.val < 7
  · simp only [if_pos hg, Option.some.injEq]
    exact heads g hg
  · simp only [if_neg hg]

theorem bump_log (s : State) {f : Folio} (hf : f.val < 3) : (s.bump f).exch.log = s.exch.log := setHeader_log _ _ (.inl hf)

theorem bump_owned (s : State) {f : Folio} (hf : f.val < 7) : (s.bump f).exch.owned = s.exch.owned :=
  setHeader_owned _ _ hf

theorem eventFolio_val (pos : Fin 56) : (eventFolio pos).val < 7 := by
  simp only [eventFolio]; omega

@[simp] theorem status_val : Folio.status.val = 0 := rfl
@[simp] theorem priceView_val : Folio.priceView.val = 1 := rfl
@[simp] theorem totals_val : Folio.totals.val = 2 := rfl

@[simp] theorem State.elapse_exch (s : State) (dt : Nat) : (s.elapse dt).exch = s.exch := rfl

@[simp] theorem State.setSide_exch (s : State) (sd : Side) (x : SideCtl) : (s.setSide sd x).exch = s.exch := rfl

@[simp] theorem State.setChan_exch (s : State) (m : Meter) (c : Channel) : (s.setChan m c).exch = s.exch := rfl

@[simp] theorem State.setMotor_exch (s : State) (p : Product) (m : Motor) : (s.setMotor p m).exch = s.exch := rfl

@[simp] theorem State.setFifo_exch (s : State) (f : List Product) : (s.setFifo f).exch = s.exch := rfl

@[simp] theorem State.setDisp_exch (s : State) (sd : Side) (d : DispSide) : (s.setDisp sd d).exch = s.exch := rfl

@[simp] theorem State.setGate_exch (s : State) (sd : Side) (g : GateCtl) : (s.setGate sd g).exch = s.exch := rfl

@[simp] theorem State.setRecords_exch (s : State) (sd : Side) (r : Records) : (s.setRecords sd r).exch = s.exch := rfl

@[simp] theorem State.setMode_exch (s : State) (m : ModeCtl) : (s.setMode m).exch = s.exch := rfl

@[simp] theorem State.recompose_exch (s : State) (sd : Side) : (s.recompose sd).exch = s.exch := by
  unfold State.recompose; (try dsimp only [State.bothSides]); (repeat' split) <;> simp

@[simp] theorem State.newFigures_exch (s : State) (sd : Side) : (s.newFigures sd).exch = s.exch := by
  unfold State.newFigures; (try dsimp only [State.bothSides]); (repeat' split) <;> simp

@[simp] theorem State.recomposeBoth_exch (s : State) : (s.recomposeBoth).exch = s.exch := by
  unfold State.recomposeBoth; (try dsimp only [State.bothSides]); (repeat' split) <;> simp

@[simp] theorem State.beginWrite_exch (s : State) : (s.beginWrite).exch = s.exch := rfl

@[simp] theorem State.setRequest_exch (s : State) : (s.setRequest).exch = s.exch := rfl

@[simp] theorem State.requestSnapshot_exch (s : State) : (s.requestSnapshot).exch = s.exch := by
  unfold State.requestSnapshot; (try dsimp only [State.bothSides]); (repeat' split) <;> simp

@[simp] theorem State.periodicCheck_exch (s : State) : (s.periodicCheck).exch = s.exch := by
  unfold State.periodicCheck; (try dsimp only [State.bothSides]); (repeat' split) <;> simp

@[simp] theorem State.periodicAdd_exch (s : State) (cf : Nat) : (s.periodicAdd cf).exch = s.exch := by
  unfold State.periodicAdd; (try dsimp only [State.bothSides]); (repeat' split) <;> simp

@[simp] theorem State.setTotals_exch (s : State) (t : Totals) : (s.setTotals t).exch = s.exch := rfl

@[simp] theorem State.addUnattributed_exch (s : State) (m : Meter) (cf : Nat) : (s.addUnattributed m cf).exch = s.exch := rfl

@[simp] theorem State.advanceNumber_exch (s : State) : (s.advanceNumber).exch = s.exch := rfl

@[simp] theorem State.reportRunning_exch (s : State) (u : User) (p : Product) : (s.reportRunning u p).exch = s.exch := by
  unfold State.reportRunning; (try dsimp only [State.bothSides]); (repeat' split) <;> simp

@[simp] theorem State.reportAll_exch (s : State) (u : Users) (p : Product) : (s.reportAll u p).exch = s.exch := by
  unfold State.reportAll; (try dsimp only [State.bothSides]); (repeat' split) <;> simp

@[simp] theorem State.dropFifo_exch (s : State) (p : Product) : (s.dropFifo p).exch = s.exch := by
  unfold State.dropFifo; (try dsimp only [State.bothSides]); (repeat' split) <;> simp

@[simp] theorem State.startTransfer_exch (s : State) (sd : Side) (frame : List Byte) (purpose : Purpose) : (s.startTransfer sd frame purpose).exch = s.exch := by
  unfold State.startTransfer; (try dsimp only [State.bothSides]); (repeat' split) <;> simp

@[simp] theorem State.startComposed_exch (s : State) (sd : Side) (purpose : Purpose) : (s.startComposed sd purpose).exch = s.exch := by
  unfold State.startComposed; (try dsimp only [State.bothSides]); (repeat' split) <;> simp

@[simp] theorem State.nextTransfer_exch (s : State) (sd : Side) : (s.nextTransfer sd).exch = s.exch := by
  unfold State.nextTransfer; (try dsimp only [State.bothSides]); (repeat' split) <;> simp

@[simp] theorem State.requestZero_exch (s : State) (sd : Side) (sale : Nat) : (s.requestZero sd sale).exch = s.exch := by
  unfold State.requestZero; (try dsimp only [State.bothSides]); (repeat' split) <;> simp

@[simp] theorem State.abandonZero_exch (s : State) (sd : Side) : (s.abandonZero sd).exch = s.exch := by
  unfold State.abandonZero; (try dsimp only [State.bothSides]); (repeat' split) <;> simp

@[simp] theorem State.supplyOn_exch (s : State) : (s.supplyOn).exch = s.exch := rfl

@[simp] theorem State.address_exch (s : State) (sd : Side) (i : ModuleId) : (s.address sd i).exch = s.exch := rfl

@[simp] theorem State.pollFrom_exch (s : State) (sd : Side) (l : List ModuleId) : (s.pollFrom sd l).exch = s.exch := by
  induction l with
  | nil => rfl
  | cons i rest ih => unfold State.pollFrom; split <;> simp [ih]

@[simp] theorem State.endExchange_exch (s : State) (sd : Side) (i : ModuleId) : (s.endExchange sd i).exch = s.exch := by
  unfold State.endExchange; (try dsimp only [State.bothSides]); (repeat' split) <;> simp

@[simp] theorem State.updateVolume_exch (s : State) (sd : Side) : (s.updateVolume sd).exch = s.exch := by
  unfold State.updateVolume; (try dsimp only [State.bothSides]); (repeat' split) <;> simp

@[simp] theorem State.restartNoflow_exch (s : State) (sd : Side) : (s.restartNoflow sd).exch = s.exch := by
  unfold State.restartNoflow; (try dsimp only [State.bothSides]); (repeat' split) <;> simp

@[simp] theorem State.newStrayPeriod_exch (s : State) (sd : Side) : (s.newStrayPeriod sd).exch = s.exch := rfl

@[simp] theorem State.attachMeters_exch (s : State) (sd : Side) (comp : Composition) (sale : Nat) : (s.attachMeters sd comp sale).exch = s.exch := by
  unfold State.attachMeters; (try dsimp only [State.bothSides]); (repeat' split) <;> simp

@[simp] theorem State.detachMeters_exch (s : State) (sd : Side) : (s.detachMeters sd).exch = s.exch := by
  unfold State.detachMeters; (try dsimp only [State.bothSides]); (repeat' split) <;> simp

@[simp] theorem State.clearNight_exch (s : State) (m : Mode) : (s.clearNight m).exch = s.exch := by
  unfold State.clearNight; (try dsimp only [State.bothSides]); (repeat' split) <;> simp

@[simp] theorem State.primeFailed_exch (s : State) (p : Product) : (s.primeFailed p).exch = s.exch := by
  unfold State.primeFailed; (try dsimp only [State.bothSides]); (repeat' split) <;> simp

@[simp] theorem State.settleReader_exch (s : State) (sd : Side) : (s.settleReader sd).exch = s.exch := by
  unfold State.settleReader; (try dsimp only [State.bothSides]); (repeat' split) <;> simp

@[simp] theorem State.setFresh_quiet (s : State) (f : Folio) :
    (s.setFresh f).exch.log = s.exch.log ∧ (s.setFresh f).exch.owned = s.exch.owned := by
  exact ⟨rfl, rfl⟩

@[simp] theorem State.clearFresh_quiet (s : State) (f : Folio) :
    (s.clearFresh f).exch.log = s.exch.log ∧ (s.clearFresh f).exch.owned = s.exch.owned := by
  exact ⟨rfl, rfl⟩

@[simp] theorem State.setStray_quiet (s : State) :
    (s.setStray).exch.log = s.exch.log ∧ (s.setStray).exch.owned = s.exch.owned := by
  exact ⟨rfl, rfl⟩

@[simp] theorem State.rewriteStatus_quiet (s : State) :
    (s.rewriteStatus).exch.log = s.exch.log ∧ (s.rewriteStatus).exch.owned = s.exch.owned := by
  exact ⟨bump_log _ (by decide), bump_owned _ (by decide)⟩

@[simp] theorem State.askStatus_quiet (s : State) :
    (s.askStatus).exch.log = s.exch.log ∧ (s.askStatus).exch.owned = s.exch.owned := by
  exact ⟨rfl, rfl⟩

@[simp] theorem State.postStatus_quiet (s : State) :
    (s.postStatus).exch.log = s.exch.log ∧ (s.postStatus).exch.owned = s.exch.owned := by
  unfold State.postStatus; (try dsimp only); (repeat' split) <;> simp

@[simp] theorem State.updatePriceView_quiet (s : State) :
    (s.updatePriceView).exch.log = s.exch.log ∧ (s.updatePriceView).exch.owned = s.exch.owned := by
  exact ⟨bump_log _ (by decide), bump_owned _ (by decide)⟩

@[simp] theorem State.postPriceView_quiet (s : State) :
    (s.postPriceView).exch.log = s.exch.log ∧ (s.postPriceView).exch.owned = s.exch.owned := by
  unfold State.postPriceView; (try dsimp only); (repeat' split) <;> simp

@[simp] theorem State.updateTotals_quiet (s : State) (slot : Fin 16) (seq : Nat) (snap : Snapshot) :
    (s.updateTotals slot seq snap).exch.log = s.exch.log ∧ (s.updateTotals slot seq snap).exch.owned = s.exch.owned := by
  exact ⟨bump_log _ (by decide), bump_owned _ (by decide)⟩

@[simp] theorem State.updateTotalsWatches_quiet (s : State) :
    (s.updateTotalsWatches).exch.log = s.exch.log ∧ (s.updateTotalsWatches).exch.owned = s.exch.owned := by
  exact ⟨bump_log _ (by decide), bump_owned _ (by decide)⟩

@[simp] theorem State.rundown_quiet (s : State) (p : Product) (m : Motor) :
    (s.rundown p m).exch.log = s.exch.log ∧ (s.rundown p m).exch.owned = s.exch.owned := by
  unfold State.rundown; (try dsimp only); (repeat' split) <;> simp

@[simp] theorem State.unfailMotor_quiet (s : State) (p : Product) :
    (s.unfailMotor p).exch.log = s.exch.log ∧ (s.unfailMotor p).exch.owned = s.exch.owned := by
  unfold State.unfailMotor; (try dsimp only); (repeat' split) <;> simp

@[simp] theorem State.beginLamp_quiet (s : State) (sd : Side) (order : Bool) :
    (s.beginLamp sd order).exch.log = s.exch.log ∧ (s.beginLamp sd order).exch.owned = s.exch.owned := by
  unfold State.beginLamp; (try dsimp only); (repeat' split) <;> simp

@[simp] theorem State.putSide_quiet (s : State) (sd : Side) (x : SideCtl) :
    (s.putSide sd x).exch.log = s.exch.log ∧ (s.putSide sd x).exch.owned = s.exch.owned := by
  unfold State.putSide; (try dsimp only); (repeat' split) <;> simp

@[simp] theorem State.toEnding_quiet (s : State) (sd : Side) (reason : EndReason) :
    (s.toEnding sd reason).exch.log = s.exch.log ∧ (s.toEnding sd reason).exch.owned = s.exch.owned := by
  unfold State.toEnding; (try dsimp only); (repeat' split) <;> simp

@[simp] theorem State.toSlow_quiet (s : State) (sd : Side) :
    (s.toSlow sd).exch.log = s.exch.log ∧ (s.toSlow sd).exch.owned = s.exch.owned := by
  unfold State.toSlow; (try dsimp only); (repeat' split) <;> simp

@[simp] theorem State.blendControl_quiet (s : State) (sd : Side) (c : Captured) (v : Nat) :
    (s.blendControl sd c v).exch.log = s.exch.log ∧ (s.blendControl sd c v).exch.owned = s.exch.owned := by
  unfold State.blendControl; (try dsimp only); (repeat' split) <;> simp

@[simp] theorem State.noticeCycle_quiet (s : State) (sd : Side) :
    (s.noticeCycle sd).exch.log = s.exch.log ∧ (s.noticeCycle sd).exch.owned = s.exch.owned := by
  unfold State.noticeCycle; (try dsimp only); (repeat' split) <;> simp

@[simp] theorem State.enterSlow_quiet (s : State) (sd : Side) (comp : Composition) :
    (s.enterSlow sd comp).exch.log = s.exch.log ∧ (s.enterSlow sd comp).exch.owned = s.exch.owned := by
  unfold State.enterSlow; (try dsimp only); (repeat' split) <;> simp

@[simp] theorem State.enterFlowing_quiet (s : State) (sd : Side) (comp : Composition) :
    (s.enterFlowing sd comp).exch.log = s.exch.log ∧ (s.enterFlowing sd comp).exch.owned = s.exch.owned := by
  unfold State.enterFlowing; (try dsimp only); (repeat' split) <;> simp

@[simp] theorem State.startingTest_quiet (s : State) (sd : Side) :
    (s.startingTest sd).exch.log = s.exch.log ∧ (s.startingTest sd).exch.owned = s.exch.owned := by
  unfold State.startingTest; (try dsimp only); (repeat' split) <;> simp

@[simp] theorem State.showTest_quiet (s : State) (sd : Side) (waiting : Bool) (lamp : Bool) (noPump : Bool) :
    (s.showTest sd waiting lamp noPump).exch.log = s.exch.log ∧ (s.showTest sd waiting lamp noPump).exch.owned = s.exch.owned := by
  unfold State.showTest; (try dsimp only); (repeat' split) <;> simp

@[simp] theorem State.toStage_quiet (s : State) (st : Stage) :
    (s.toStage st).exch.log = s.exch.log ∧ (s.toStage st).exch.owned = s.exch.owned := by
  unfold State.toStage; (try dsimp only); (repeat' split) <;> simp

@[simp] theorem State.callIfLifted_quiet (s : State) (sd : Side) :
    (s.callIfLifted sd).exch.log = s.exch.log ∧ (s.callIfLifted sd).exch.owned = s.exch.owned := by
  unfold State.callIfLifted; (try dsimp only); (repeat' split) <;> simp

@[simp] theorem State.raise_owned (s : State) (kind : EventKind) (object : Nat) (d1 : Detail) (d2 : Detail) :
    (s.raise kind object d1 d2).exch.owned = s.exch.owned := by
  exact bump_owned _ (eventFolio_val _)

@[simp] theorem State.testWatch_owned (s : State) (t : TotalId) (old : Nat) (new : Nat) (i : Fin 4) :
    (s.testWatch t old new i).exch.owned = s.exch.owned := by
  unfold State.testWatch; (try dsimp only [State.bothSides]); (repeat' split) <;> simp

@[simp] theorem State.testWatches_owned (s : State) (t : TotalId) (old : Nat) (new : Nat) :
    (s.testWatches t old new).exch.owned = s.exch.owned := by
  unfold State.testWatches; (try dsimp only [State.bothSides]); (repeat' split) <;> simp

@[simp] theorem State.addMeterTotal_owned (s : State) (m : Meter) (cf : Nat) :
    (s.addMeterTotal m cf).exch.owned = s.exch.owned := by
  unfold State.addMeterTotal; (try dsimp only [State.bothSides]); (repeat' split) <;> simp

@[simp] theorem State.addGradeTotals_owned (s : State) (g : Fin 6) (volume : Nat) (money : Nat) :
    (s.addGradeTotals g volume money).exch.owned = s.exch.owned := by
  unfold State.addGradeTotals; (try dsimp only [State.bothSides]); (repeat' split) <;> simp

@[simp] theorem State.countRecord_owned (s : State) (r : SaleRecord) :
    (s.countRecord r).exch.owned = s.exch.owned := by
  unfold State.countRecord; (try dsimp only [State.bothSides]); (repeat' split) <;> simp

@[simp] theorem State.takeRecord_owned (s : State) (r : SaleRecord) :
    (s.takeRecord r).exch.owned = s.exch.owned := by
  unfold State.takeRecord; (try dsimp only [State.bothSides]); (repeat' split) <;> simp

@[simp] theorem State.confirmStart_owned (s : State) (p : Product) :
    (s.confirmStart p).exch.owned = s.exch.owned := by
  unfold State.confirmStart; (try dsimp only [State.bothSides]); (repeat' split) <;> simp

@[simp] theorem State.grant_owned (s : State) (p : Product) (rest : List Product) :
    (s.grant p rest).exch.owned = s.exch.owned := by
  unfold State.grant; (try dsimp only [State.bothSides]); (repeat' split) <;> simp

@[simp] theorem State.arbiterTest_owned (s : State) :
    (s.arbiterTest).exch.owned = s.exch.owned := by
  unfold State.arbiterTest; (try dsimp only [State.bothSides]); (repeat' split) <;> simp

@[simp] theorem State.joinFifo_owned (s : State) (p : Product) :
    (s.joinFifo p).exch.owned = s.exch.owned := by
  unfold State.joinFifo; (try dsimp only [State.bothSides]); (repeat' split) <;> simp

@[simp] theorem State.newHeadTest_owned (s : State) (b : Option Product) :
    (s.newHeadTest b).exch.owned = s.exch.owned := by
  unfold State.newHeadTest; (try dsimp only [State.bothSides]); (repeat' split) <;> simp

@[simp] theorem State.register_owned (s : State) (u : User) (p : Product) :
    (s.register u p).exch.owned = s.exch.owned := by
  unfold State.register; (try dsimp only [State.bothSides]); (repeat' split) <;> simp

@[simp] theorem State.release_owned (s : State) (u : User) (p : Product) :
    (s.release u p).exch.owned = s.exch.owned := by
  unfold State.release; (try dsimp only [State.bothSides]); (repeat' split) <;> simp

@[simp] theorem State.releaseAll_owned (s : State) (u : User) :
    (s.releaseAll u).exch.owned = s.exch.owned := by
  unfold State.releaseAll; (try dsimp only [State.bothSides]); (repeat' split) <;> simp

@[simp] theorem State.failMotor_owned (s : State) (p : Product) (cause : MotorCause) :
    (s.failMotor p cause).exch.owned = s.exch.owned := by
  unfold State.failMotor; (try dsimp only [State.bothSides]); (repeat' split) <;> simp

@[simp] theorem State.rejoin_owned (s : State) (p : Product) :
    (s.rejoin p).exch.owned = s.exch.owned := by
  unfold State.rejoin; (try dsimp only [State.bothSides]); (repeat' split) <;> simp

@[simp] theorem State.stopMotor_owned (s : State) (p : Product) :
    (s.stopMotor p).exch.owned = s.exch.owned := by
  unfold State.stopMotor; (try dsimp only [State.bothSides]); (repeat' split) <;> simp

@[simp] theorem State.displayFault_owned (s : State) (sd : Side) (cause : DispCause) (index : Nat) :
    (s.displayFault sd cause index).exch.owned = s.exch.owned := by
  unfold State.displayFault; (try dsimp only [State.bothSides]); (repeat' split) <;> simp

@[simp] theorem State.closeSale_owned (s : State) (sd : Side) (reason : Option EndReason) (releases : Bool) (next : SideCtl → Sale → SideState) :
    (s.closeSale sd reason releases next).exch.owned = s.exch.owned := by
  unfold State.closeSale; (try dsimp only [State.bothSides]); (repeat' split) <;> simp

@[simp] theorem State.completeSale_owned (s : State) (sd : Side) (reason : Option EndReason) :
    (s.completeSale sd reason).exch.owned = s.exch.owned := by
  unfold State.completeSale; (try dsimp only [State.bothSides]); (repeat' split) <;> simp

@[simp] theorem State.registerSide_owned (s : State) (sd : Side) (comp : Composition) :
    (s.registerSide sd comp).exch.owned = s.exch.owned := by
  unfold State.registerSide; (try dsimp only [State.bothSides]); (repeat' split) <;> simp

@[simp] theorem State.afterCapture_owned (s : State) (sd : Side) (comp : Composition) (sale : Nat) :
    (s.afterCapture sd comp sale).exch.owned = s.exch.owned := by
  unfold State.afterCapture; (try dsimp only [State.bothSides]); (repeat' split) <;> simp

@[simp] theorem State.capture1_owned (s : State) (sd : Side) (o : Sale) (n : Fin 4) (g : Fin 6) :
    (s.capture1 sd o n g).exch.owned = s.exch.owned := by
  unfold State.capture1; (try dsimp only [State.bothSides]); (repeat' split) <;> simp

@[simp] theorem State.testReadiness_owned (s : State) (sd : Side) :
    (s.testReadiness sd).exch.owned = s.exch.owned := by
  unfold State.testReadiness; (try dsimp only [State.bothSides]); (repeat' split) <;> simp

@[simp] theorem State.tellWaiting_owned (s : State) :
    (s.tellWaiting).exch.owned = s.exch.owned := by
  unfold State.tellWaiting; (try dsimp only [State.bothSides]); (repeat' split) <;> simp

@[simp] theorem State.doSwap_owned (s : State) (b : Staged) :
    (s.doSwap b).exch.owned = s.exch.owned := by
  unfold State.doSwap; (try dsimp only [State.bothSides]); (repeat' split) <;> simp

@[simp] theorem State.swapTest_owned (s : State) :
    (s.swapTest).exch.owned = s.exch.owned := by
  unfold State.swapTest; (try dsimp only [State.bothSides]); (repeat' split) <;> simp

@[simp] theorem State.setDue_owned (s : State) :
    (s.setDue).exch.owned = s.exch.owned := by
  unfold State.setDue; (try dsimp only [State.bothSides]); (repeat' split) <;> simp

@[simp] theorem State.clockForPrices_owned (s : State) :
    (s.clockForPrices).exch.owned = s.exch.owned := by
  unfold State.clockForPrices; (try dsimp only [State.bothSides]); (repeat' split) <;> simp

@[simp] theorem State.changeMode_owned (s : State) (m : Mode) (st : Option Stage) (d2 : Detail) :
    (s.changeMode m st d2).exch.owned = s.exch.owned := by
  unfold State.changeMode; (try dsimp only [State.bothSides]); (repeat' split) <;> simp

@[simp] theorem State.snapshotStage_owned (s : State) :
    (s.snapshotStage).exch.owned = s.exch.owned := by
  unfold State.snapshotStage; (try dsimp only [State.bothSides]); (repeat' split) <;> simp

@[simp] theorem State.darkReport_owned (s : State) :
    (s.darkReport).exch.owned = s.exch.owned := by
  unfold State.darkReport; (try dsimp only [State.bothSides]); (repeat' split) <;> simp


@[simp] theorem State.handOver_reads (s : State) (f : Folio) (r : Result) (detail : Word32) :
    (∀ i, (s.handOver f r detail).side i = s.side i) ∧
      (∀ i, (s.handOver f r detail).chan i = s.chan i) ∧
      (∀ i, (s.handOver f r detail).motor i = s.motor i) ∧
      (∀ i, (s.handOver f r detail).disp i = s.disp i) ∧
      (∀ i, (s.handOver f r detail).gate i = s.gate i) ∧
      (∀ i, (s.handOver f r detail).records i = s.records i) := by
  simp [State.side, State.chan, State.motor, State.disp, State.gate, State.records]

@[simp] theorem State.raise_reads (s : State) (kind : EventKind) (object : Nat) (d1 : Detail) (d2 : Detail) :
    (∀ i, (s.raise kind object d1 d2).side i = s.side i) ∧
      (∀ i, (s.raise kind object d1 d2).chan i = s.chan i) ∧
      (∀ i, (s.raise kind object d1 d2).motor i = s.motor i) ∧
      (∀ i, (s.raise kind object d1 d2).disp i = s.disp i) ∧
      (∀ i, (s.raise kind object d1 d2).gate i = s.gate i) ∧
      (∀ i, (s.raise kind object d1 d2).records i = s.records i) := by
  simp [State.side, State.chan, State.motor, State.disp, State.gate, State.records]

@[simp] theorem State.postStatus_reads (s : State) :
    (∀ i, (s.postStatus).side i = s.side i) ∧
      (∀ i, (s.postStatus).chan i = s.chan i) ∧
      (∀ i, (s.postStatus).motor i = s.motor i) ∧
      (∀ i, (s.postStatus).disp i = s.disp i) ∧
      (∀ i, (s.postStatus).gate i = s.gate i) ∧
      (∀ i, (s.postStatus).records i = s.records i) := by
  simp [State.side, State.chan, State.motor, State.disp, State.gate, State.records]

@[simp] theorem State.rewriteStatus_reads (s : State) :
    (∀ i, (s.rewriteStatus).side i = s.side i) ∧
      (∀ i, (s.rewriteStatus).chan i = s.chan i) ∧
      (∀ i, (s.rewriteStatus).motor i = s.motor i) ∧
      (∀ i, (s.rewriteStatus).disp i = s.disp i) ∧
      (∀ i, (s.rewriteStatus).gate i = s.gate i) ∧
      (∀ i, (s.rewriteStatus).records i = s.records i) := by
  simp [State.side, State.chan, State.motor, State.disp, State.gate, State.records]

@[simp] theorem State.askStatus_reads (s : State) :
    (∀ i, (s.askStatus).side i = s.side i) ∧
      (∀ i, (s.askStatus).chan i = s.chan i) ∧
      (∀ i, (s.askStatus).motor i = s.motor i) ∧
      (∀ i, (s.askStatus).disp i = s.disp i) ∧
      (∀ i, (s.askStatus).gate i = s.gate i) ∧
      (∀ i, (s.askStatus).records i = s.records i) := by
  simp [State.side, State.chan, State.motor, State.disp, State.gate, State.records]

@[simp] theorem State.updatePriceView_reads (s : State) :
    (∀ i, (s.updatePriceView).side i = s.side i) ∧
      (∀ i, (s.updatePriceView).chan i = s.chan i) ∧
      (∀ i, (s.updatePriceView).motor i = s.motor i) ∧
      (∀ i, (s.updatePriceView).disp i = s.disp i) ∧
      (∀ i, (s.updatePriceView).gate i = s.gate i) ∧
      (∀ i, (s.updatePriceView).records i = s.records i) := by
  simp [State.side, State.chan, State.motor, State.disp, State.gate, State.records]

@[simp] theorem State.postPriceView_reads (s : State) :
    (∀ i, (s.postPriceView).side i = s.side i) ∧
      (∀ i, (s.postPriceView).chan i = s.chan i) ∧
      (∀ i, (s.postPriceView).motor i = s.motor i) ∧
      (∀ i, (s.postPriceView).disp i = s.disp i) ∧
      (∀ i, (s.postPriceView).gate i = s.gate i) ∧
      (∀ i, (s.postPriceView).records i = s.records i) := by
  simp [State.side, State.chan, State.motor, State.disp, State.gate, State.records]

@[simp] theorem State.updateTotalsWatches_reads (s : State) :
    (∀ i, (s.updateTotalsWatches).side i = s.side i) ∧
      (∀ i, (s.updateTotalsWatches).chan i = s.chan i) ∧
      (∀ i, (s.updateTotalsWatches).motor i = s.motor i) ∧
      (∀ i, (s.updateTotalsWatches).disp i = s.disp i) ∧
      (∀ i, (s.updateTotalsWatches).gate i = s.gate i) ∧
      (∀ i, (s.updateTotalsWatches).records i = s.records i) := by
  simp [State.side, State.chan, State.motor, State.disp, State.gate, State.records]

@[simp] theorem State.writeBody_reads (s : State) (f : Folio) (bytes : List Byte) :
    (∀ i, (s.writeBody f bytes).side i = s.side i) ∧
      (∀ i, (s.writeBody f bytes).chan i = s.chan i) ∧
      (∀ i, (s.writeBody f bytes).motor i = s.motor i) ∧
      (∀ i, (s.writeBody f bytes).disp i = s.disp i) ∧
      (∀ i, (s.writeBody f bytes).gate i = s.gate i) ∧
      (∀ i, (s.writeBody f bytes).records i = s.records i) := by
  simp [State.side, State.chan, State.motor, State.disp, State.gate, State.records]

@[simp] theorem State.setMode_reads (s : State) (m : ModeCtl) :
    (∀ i, (s.setMode m).side i = s.side i) ∧
      (∀ i, (s.setMode m).chan i = s.chan i) ∧
      (∀ i, (s.setMode m).motor i = s.motor i) ∧
      (∀ i, (s.setMode m).disp i = s.disp i) ∧
      (∀ i, (s.setMode m).gate i = s.gate i) ∧
      (∀ i, (s.setMode m).records i = s.records i) := by
  simp [State.side, State.chan, State.motor, State.disp, State.gate, State.records]

@[simp] theorem State.toStage_reads (s : State) (st : Stage) :
    (∀ i, (s.toStage st).side i = s.side i) ∧
      (∀ i, (s.toStage st).chan i = s.chan i) ∧
      (∀ i, (s.toStage st).motor i = s.motor i) ∧
      (∀ i, (s.toStage st).disp i = s.disp i) ∧
      (∀ i, (s.toStage st).gate i = s.gate i) ∧
      (∀ i, (s.toStage st).records i = s.records i) := by
  simp [State.side, State.chan, State.motor, State.disp, State.gate, State.records]

@[simp] theorem State.recompose_reads (s : State) (sd : Side) :
    (∀ i, (s.recompose sd).side i = s.side i) ∧
      (∀ i, (s.recompose sd).chan i = s.chan i) ∧
      (∀ i, (s.recompose sd).motor i = s.motor i) ∧
      (∀ i, (s.recompose sd).gate i = s.gate i) ∧
      (∀ i, (s.recompose sd).records i = s.records i) := by
  simp [State.side, State.chan, State.motor, State.gate, State.records]

@[simp] theorem State.newFigures_reads (s : State) (sd : Side) :
    (∀ i, (s.newFigures sd).side i = s.side i) ∧
      (∀ i, (s.newFigures sd).chan i = s.chan i) ∧
      (∀ i, (s.newFigures sd).motor i = s.motor i) ∧
      (∀ i, (s.newFigures sd).gate i = s.gate i) ∧
      (∀ i, (s.newFigures sd).records i = s.records i) := by
  simp [State.side, State.chan, State.motor, State.gate, State.records]

@[simp] theorem State.recomposeBoth_reads (s : State) :
    (∀ i, (s.recomposeBoth).side i = s.side i) ∧
      (∀ i, (s.recomposeBoth).chan i = s.chan i) ∧
      (∀ i, (s.recomposeBoth).motor i = s.motor i) ∧
      (∀ i, (s.recomposeBoth).gate i = s.gate i) ∧
      (∀ i, (s.recomposeBoth).records i = s.records i) := by
  simp [State.side, State.chan, State.motor, State.gate, State.records]

@[simp] theorem State.requestSnapshot_reads (s : State) :
    (∀ i, (s.requestSnapshot).side i = s.side i) ∧
      (∀ i, (s.requestSnapshot).chan i = s.chan i) ∧
      (∀ i, (s.requestSnapshot).motor i = s.motor i) ∧
      (∀ i, (s.requestSnapshot).disp i = s.disp i) ∧
      (∀ i, (s.requestSnapshot).gate i = s.gate i) := by
  simp [State.side, State.chan, State.motor, State.disp, State.gate]

@[simp] theorem State.beginWrite_reads (s : State) :
    (∀ i, (s.beginWrite).side i = s.side i) ∧
      (∀ i, (s.beginWrite).chan i = s.chan i) ∧
      (∀ i, (s.beginWrite).motor i = s.motor i) ∧
      (∀ i, (s.beginWrite).disp i = s.disp i) ∧
      (∀ i, (s.beginWrite).gate i = s.gate i) := by
  simp [State.side, State.chan, State.motor, State.disp, State.gate]

@[simp] theorem State.periodicCheck_reads (s : State) :
    (∀ i, (s.periodicCheck).side i = s.side i) ∧
      (∀ i, (s.periodicCheck).chan i = s.chan i) ∧
      (∀ i, (s.periodicCheck).motor i = s.motor i) ∧
      (∀ i, (s.periodicCheck).disp i = s.disp i) ∧
      (∀ i, (s.periodicCheck).gate i = s.gate i) ∧
      (∀ i, (s.periodicCheck).records i = s.records i) := by
  simp [State.side, State.chan, State.motor, State.disp, State.gate, State.records]


end Sys2Proof.Machine
end


/-! ### Requests: a touch of a folio the host has filled -/
section
namespace Sys2Proof.Machine

variable {s t u : State} {f : Folio} {ref : Word32} {bytes : List Byte} {dt : Nat}

/-- A folio is exchanged, not posted. -/
theorem posted_eq_false (h : 7 ≤ f.val) : f.posted = false := by
  simp only [Folio.posted, decide_eq_false_iff_not]; omega

@[simp] theorem order_ge (sd : Side) : 7 ≤ (Folio.order sd).val := by cases sd <;> decide
@[simp] theorem message_ge (sd : Side) : 7 ≤ (Folio.message sd).val := by cases sd <;> decide
@[simp] theorem downlink_ge (sd : Side) : 7 ≤ (Folio.downlink sd).val := by cases sd <;> decide
@[simp] theorem report_ge (sd : Side) : 7 ≤ (Folio.report sd).val := by cases sd <;> decide
@[simp] theorem uplink_ge (sd : Side) (i : Fin 2) : 7 ≤ (Folio.uplink sd i).val := by
  cases sd <;> fin_cases i <;> decide
@[simp] theorem siteOrder_ge : 7 ≤ Folio.siteOrder.val := by decide
@[simp] theorem gradesFolio_ge : 7 ≤ Folio.grades.val := by decide
@[simp] theorem priceStaging_ge : 7 ≤ Folio.priceStaging.val := by decide
@[simp] theorem calibrationFolio_ge : 7 ≤ Folio.calibration.val := by decide
@[simp] theorem admissionFolio_ge : 7 ≤ Folio.admission.val := by decide
@[simp] theorem watchFolio_ge : 7 ≤ Folio.watch.val := by decide
@[simp] theorem scheduleFolio_ge : 7 ≤ Folio.schedule.val := by decide
@[simp] theorem configFolio_ge : 7 ≤ Folio.config.val := by decide

/-- The state in which the owner of a folio takes the host's request: `dt` microseconds later, the folio filled and part-held. -/
def State.taken (s : State) (dt : Nat) (f : Folio) (ref : Word32) (bytes : List Byte) : State :=
  ((s.elapse dt).hostFill f ref bytes).touched f

@[simp] theorem State.taken_frame (s : State) (dt : Nat) (f : Folio) (ref : Word32) (bytes : List Byte) :
    (s.taken dt f ref bytes).now = s.now + dt ∧ (s.taken dt f ref bytes).pfe = s.pfe ∧
      (s.taken dt f ref bytes).sides = s.sides ∧ (s.taken dt f ref bytes).prices = s.prices ∧
      (s.taken dt f ref bytes).motors = s.motors ∧ (s.taken dt f ref bytes).display = s.display ∧
      (s.taken dt f ref bytes).gates = s.gates ∧ (s.taken dt f ref bytes).store = s.store ∧
      (s.taken dt f ref bytes).journal = s.journal ∧ (s.taken dt f ref bytes).mode = s.mode ∧
      (s.taken dt f ref bytes).exch.config = s.exch.config ∧ (s.taken dt f ref bytes).exch.mask = s.exch.mask ∧
      (s.taken dt f ref bytes).exch.ready = s.exch.ready ∧ (s.taken dt f ref bytes).pins = s.pins ∧
      (s.taken dt f ref bytes).pending = s.pending := by
  simp [State.taken]

@[simp] theorem State.taken_reads (s : State) (dt : Nat) (f : Folio) (ref : Word32) (bytes : List Byte) :
    (∀ i, (s.taken dt f ref bytes).side i = s.side i) ∧ (∀ i, (s.taken dt f ref bytes).chan i = s.chan i) ∧
      (∀ i, (s.taken dt f ref bytes).motor i = s.motor i) ∧ (∀ i, (s.taken dt f ref bytes).disp i = s.disp i) ∧
      (∀ i, (s.taken dt f ref bytes).gate i = s.gate i) ∧ (∀ i, (s.taken dt f ref bytes).records i = s.records i) := by
  simp [State.side, State.chan, State.motor, State.disp, State.gate, State.records]

theorem get_set_self (v : Vector Header 27) (f : Folio) (h : Header) : (v.set f.val h).get f = h :=
  Vector.getElem_set_self _

theorem get_set_ne (v : Vector Header 27) {f g : Folio} (h : Header) (hne : g ≠ f) : (v.set f.val h).get g = v.get g :=
  Vector.getElem_set_ne _ _ fun e => hne (Fin.ext e.symm)

theorem State.hostFill_of_host (s : State) (bytes : List Byte) (h : (s.header f).holder = .host) :
    s.hostFill f ref bytes = (s.writeBody f bytes).setHeader f { (s.writeBody f bytes).header f with ref := ref } := by
  simp only [State.hostFill, if_pos h]

/-- What the taking of a request does to the Exchange Controller: the header, the body and the fresh bit of its folio. -/
theorem State.taken_exch (s : State) (dt : Nat) (bytes : List Byte) (h : (s.header f).holder = .host) :
    (s.taken dt f ref bytes).exch = { s.exch with
      headers := s.exch.headers.set f.val { s.header f with
        ref := ref, len := BitVec.ofNat 8 (bytes.take 240).length, holder := .part }
      mem := Memory.writeAll s.exch.mem f.body (bytes.take 240)
      fresh := s.exch.fresh &&& ~~~(1#32 <<< f.val) } := by
  have hu : ((s.elapse dt).header f).holder = .host := h
  unfold State.taken State.touched
  rw [State.hostFill_of_host _ _ hu]
  simp [State.writeBody, State.setHeader, State.header, State.clearFresh, State.elapse, get_set_self]

theorem State.taken_header (s : State) (dt : Nat) (bytes : List Byte) (h : (s.header f).holder = .host) :
    (s.taken dt f ref bytes).header f = { s.header f with
        ref := ref, len := BitVec.ofNat 8 (bytes.take 240).length, holder := .part } ∧
      ∀ g, g ≠ f → (s.taken dt f ref bytes).header g = s.header g := by
  have he := congrArg Exchange.headers (s.taken_exch dt bytes (ref := ref) h)
  constructor
  · rw [State.header, he]; exact get_set_self _ _ _
  · intro g hne
    rw [State.header, he]; exact get_set_ne _ _ hne

theorem bit_or_self (w : Word32) (f : Folio) : (w ||| (1#32 <<< f.val)).getLsbD f.val = true := by
  have hf : f.val < 32 := by omega
  simp [hf]

theorem handOver_fresh (u : State) (r : Result) (d : Word32) : (u.handOver f r d).exch.fresh.getLsbD f.val = true :=
  bit_or_self _ _

theorem handOver_log (u : State) (r : Result) (d : Word32) (hf : 7 ≤ f.val) :
    (u.handOver f r d).exch.log = u.exch.log :=
  ((State.setFresh_quiet _ f).1).trans (setHeader_log _ _ (.inr hf))

theorem taken_log (h : CanTouch s f) (hf : 7 ≤ f.val) : (s.taken dt f ref bytes).exch.log = s.exch.log := by
  have he := s.taken_exch dt bytes (ref := ref) h.2
  have hh := s.taken_header dt bytes (ref := ref) h.2
  rw [Exchange.log, Exchange.log]
  refine Prod.ext (by rw [he]) (Prod.ext (by rw [he]) (funext fun g => ?_))
  by_cases hg : 3 ≤ g.val ∧ g.val < 7
  · simp only [if_pos hg, Option.some.injEq]
    exact hh.2 g (by rintro rfl; omega)
  · simp only [if_neg hg]

theorem events_of_log (h : t.exch.log = s.exch.log) :
    t.exch.ring = s.exch.ring ∧ t.exch.nextEvent = s.exch.nextEvent :=
  ⟨congrArg (fun l => l.2.1) h, congrArg (fun l => l.1) h⟩

/-- The request of a folio that can be touched is taken (R180). -/
theorem State.request_eq (h : CanTouch s f) (hf : 7 ≤ f.val) (serve : State → State) :
    (s.elapse dt).request f ref bytes serve = serve (s.taken dt f ref bytes) := by
  obtain ⟨hready, hhost⟩ := h
  have hu : ((s.elapse dt).header f).holder = .host := hhost
  have hheader : ((s.elapse dt).hostFill f ref bytes).header f
      = { s.header f with ref := ref, len := BitVec.ofNat 8 (bytes.take 240).length } := by
    rw [State.hostFill_of_host _ _ hu]
    simp [State.writeBody, State.setHeader, State.header, State.elapse, get_set_self]
  have htouch : ((s.elapse dt).hostFill f ref bytes).touchable f = true := by
    simp [State.touchable, hheader, hready, hhost, posted_eq_false hf]
  have hlen : ¬ 240 < (BitVec.ofNat 8 (bytes.take 240).length).toNat := by
    rw [BitVec.toNat_ofNat, List.length_take]; omega
  unfold State.request State.touchWith
  rw [if_pos htouch, hheader, if_neg hlen]
  rfl

/-- A folio handed over by a state that has left the other exchanged folios alone is answered (R181). -/
theorem answered_handOver (h : CanTouch s f) (hf : 7 ≤ f.val) (hu : u.exch.owned = (s.taken dt f ref bytes).exch.owned)
    (r : Result) (d : Word32) : Answered s (u.handOver f r d) f ref r d := by
  have hown : ∀ g : Folio, 7 ≤ g.val → u.header g = (s.taken dt f ref bytes).header g := fun _ => header_eq_of_owned hu
  have hhead := s.taken_header dt bytes (ref := ref) h.2
  refine ⟨?_, fun g hne hg => ?_, handOver_fresh u r d⟩
  · rw [(u.handOver_header f r d).1, hown f hf, hhead.1]
    simp
  · rw [(u.handOver_header f r d).2 g hne, hown g hg, hhead.2 g hne]

theorem keepsBut_iff (bs : List Block) (s t : State) : KeepsBut bs s t ↔
    (.pfe ∈ bs ∨ t.pfe = s.pfe) ∧ (.sides ∈ bs ∨ t.sides = s.sides) ∧ (.prices ∈ bs ∨ t.prices = s.prices) ∧
      (.motors ∈ bs ∨ t.motors = s.motors) ∧ (.display ∈ bs ∨ t.display = s.display) ∧
      (.gates ∈ bs ∨ t.gates = s.gates) ∧ (.store ∈ bs ∨ t.store = s.store) ∧
      (.journal ∈ bs ∨ t.journal = s.journal) ∧ (.mode ∈ bs ∨ t.mode = s.mode) ∧ (.exch ∈ bs ∨ t.exch = s.exch) ∧
      (.pins ∈ bs ∨ t.pins = s.pins) ∧ (.pending ∈ bs ∨ t.pending = s.pending) := by
  have one : ∀ b : Block, (b ∉ bs → b.same s t) ↔ (b ∈ bs ∨ b.same s t) := fun b => by
    by_cases hb : b ∈ bs <;> simp [hb]
  constructor
  · intro h
    exact ⟨(one _).1 (h _), (one _).1 (h _), (one _).1 (h _), (one _).1 (h _), (one _).1 (h _), (one _).1 (h _),
      (one _).1 (h _), (one _).1 (h _), (one _).1 (h _), (one _).1 (h _), (one _).1 (h _), (one _).1 (h _)⟩
  · rintro ⟨h1, h2, h3, h4, h5, h6, h7, h8, h9, h10, h11, h12⟩ b
    cases b
    exacts [(one .pfe).2 h1, (one .sides).2 h2, (one .prices).2 h3, (one .motors).2 h4, (one .display).2 h5,
      (one .gates).2 h6, (one .store).2 h7, (one .journal).2 h8, (one .mode).2 h9, (one .exch).2 h10,
      (one .pins).2 h11, (one .pending).2 h12]

/-- A frame block by block, for `simp` with the frames of the operations. -/
theorem lands_iff (dt : Nat) (bs : List Block) (s t : State) : Lands dt bs s t ↔ t.now = s.now + dt ∧
    (.pfe ∈ bs ∨ t.pfe = s.pfe) ∧ (.sides ∈ bs ∨ t.sides = s.sides) ∧ (.prices ∈ bs ∨ t.prices = s.prices) ∧
      (.motors ∈ bs ∨ t.motors = s.motors) ∧ (.display ∈ bs ∨ t.display = s.display) ∧
      (.gates ∈ bs ∨ t.gates = s.gates) ∧ (.store ∈ bs ∨ t.store = s.store) ∧
      (.journal ∈ bs ∨ t.journal = s.journal) ∧ (.mode ∈ bs ∨ t.mode = s.mode) ∧ (.exch ∈ bs ∨ t.exch = s.exch) ∧
      (.pins ∈ bs ∨ t.pins = s.pins) ∧ (.pending ∈ bs ∨ t.pending = s.pending) := by
  rw [Lands, keepsBut_iff]

/-- A folio handed over as it was taken is refused: nothing but its own folio changes (R181). -/
theorem refused_handOver (h : CanTouch s f) (hf : 7 ≤ f.val) (r : Result) (d : Word32) :
    Refused dt s ((s.taken dt f ref bytes).handOver f r d) f ref r d := by
  refine ⟨?_, answered_handOver h hf rfl r d, ?_⟩
  · simp [lands_iff]
  · have he := s.taken_exch dt bytes (ref := ref) h.2
    have hfresh : (s.exch.fresh &&& ~~~(1#32 <<< f.val)) ||| (1#32 <<< f.val) = s.exch.fresh ||| (1#32 <<< f.val) := by
      ext i; simp only [BitVec.getElem_or, BitVec.getElem_and, BitVec.getElem_not]
      cases (1#32 <<< f.val)[i] <;> simp
    simp [State.handOver, State.setFresh, State.setHeader, State.header, he, get_set_self, hfresh]

theorem refused_of {r : Result} {d : Word32} (h : CanTouch s f) (hf : 7 ≤ f.val)
    (he : t = (s.taken dt f ref bytes).handOver f r d) : Refused dt s t f ref r d :=
  he ▸ refused_handOver h hf r d

/-- One event, and nothing else that touches the ring (R185). -/
theorem raised_of {B : Folio → Prop} {k : EventKind} {o : Nat} {d1 d2 : Detail} (hlog : u.exch.log = s.exch.log)
    (hclock : u.mode.clock = s.mode.clock) (ht : t.exch.log = (u.raise k o d1 d2).exch.log)
    (hfresh : Keeps B (u.raise k o d1 d2) t) : Raised s t k o d1 d2 := by
  have hn : u.exch.nextEvent = s.exch.nextEvent := congrArg (fun l => l.1) hlog
  have hr : u.exch.ring = s.exch.ring := congrArg (fun l => l.2.1) hlog
  have hn' : t.exch.nextEvent = (u.raise k o d1 d2).exch.nextEvent := congrArg (fun l => l.1) ht
  have hr' : t.exch.ring = (u.raise k o d1 d2).exch.ring := congrArg (fun l => l.2.1) ht
  obtain ⟨hring, hnext, -⟩ := u.raise_ring k o d1 d2
  have hge : 3 ≤ (eventFolio (ringPos s.exch.nextEvent)).val := by simp only [eventFolio]; omega
  have hlt := eventFolio_val (ringPos s.exch.nextEvent)
  refine ⟨?_, ?_, ?_, ?_⟩
  · rw [hn', hnext, hn]
  · simp only [hr', hring, hr, hn, hclock]
  · rw [header_eq_of_log ht hge hlt, ← header_eq_of_log hlog hge hlt, ← hn]
    exact congrArg Header.count (State.setHeader_header_self _ _ _)
  · refine hfresh.fresh _ ?_
    rw [← hn]
    exact bit_or_self _ _

theorem postStatus_fresh (s : State) : s.postStatus.exch.fresh.getLsbD Folio.status.val = true := bit_or_self _ _

end Sys2Proof.Machine
end


/-! ### Requests to the Price Table and the Pulse Front End -/
section
namespace Sys2Proof.Machine

theorem exec_grades {s : State} (dt : Nat) (ref : Word32) (r : GradesReq) (h : CanTouch s Folio.grades) :
    exec (.grades dt ref r) s = .next ((s.taken dt Folio.grades ref r.bytes).serveGrades r) :=
  congrArg _ (State.request_eq h gradesFolio_ge _)

end Sys2Proof.Machine

open Sys2Proof Sys2Proof.Machine

/-- Settles O16: each check of R24 in its order, on the folio as it was taken. -/
theorem gradesAreReplaced : Obligations.GradesAreReplaced := by
  unfold Obligations.GradesAreReplaced
  intro dt ref r s hs
  rw [exec_grades dt ref r hs]
  refine ⟨fun hm => ⟨_, rfl, refused_of (bytes := r.bytes) hs gradesFolio_ge (by simp [State.serveGrades, hm])⟩,
    fun d hm hd => ⟨_, rfl, refused_of (bytes := r.bytes) hs gradesFolio_ge (by simp [State.serveGrades, hm, hd])⟩,
    fun g hm hd hg => ⟨_, rfl, ?_⟩, fun hm hd hg => ⟨_, rfl, ?_⟩⟩
  · have hg' : (s.taken dt Folio.grades ref r.bytes).unpricedUnder r = some g := by
      simpa [State.unpricedUnder] using hg
    exact refused_of (bytes := r.bytes) hs gradesFolio_ge (by simp [State.serveGrades, hm, hd, hg'])
  · have hg' : (s.taken dt Folio.grades ref r.bytes).unpricedUnder r = none := by
      simpa [State.unpricedUnder] using hg
    simp only [State.serveGrades, hd, hg', State.taken_frame, hm, ne_eq, not_true, if_false]
    exact ⟨by simp [lands_iff], by simp,
      answered_handOver (dt := dt) (bytes := r.bytes) hs gradesFolio_ge (by simp) _ _⟩
end


/-! ### The Pulse Front End: edges, rates and clears -/
section
namespace Sys2Proof.Machine

@[simp] theorem State.togglePhase_frame (s : State) (m : Meter) (ph : Phase) :
    (s.togglePhase m ph).now = s.now ∧ (s.togglePhase m ph).pfe = s.pfe ∧ (s.togglePhase m ph).sides = s.sides ∧
      (s.togglePhase m ph).prices = s.prices ∧ (s.togglePhase m ph).motors = s.motors ∧
      (s.togglePhase m ph).display = s.display ∧ (s.togglePhase m ph).gates = s.gates ∧
      (s.togglePhase m ph).store = s.store ∧ (s.togglePhase m ph).journal = s.journal ∧
      (s.togglePhase m ph).mode = s.mode ∧ (s.togglePhase m ph).exch = s.exch ∧
      (s.togglePhase m ph).pending = s.pending := by
  cases ph <;> simp [State.togglePhase]

theorem capture_of_now {u : State} {n : Nat} (h : u.now = n) : u.capture = BitVec.ofNat 32 n := by
  rw [State.capture, h]

/-- The channel's own noise test is idle unless the count has just reached 65 on an attached meter (R19). -/
theorem State.noiseTest_of_not {s : State} {m : Meter} (h : (s.chan m).attached = none ∨ (s.chan m).noise ≠ 65) :
    s.noiseTest m = s := by
  refine if_neg fun hn => ?_
  rcases h with h | h
  · simp [h] at hn
  · exact h hn.2

/-- An ignored edge leaves its time and its noise, and is tested for the NOISE fault (R2, R19). -/
theorem exec_pulserEdge_of_ignored {s : State} {dt : Nat} {m : Meter} {ph : Phase} (hawake : s.dormant = false)
    (h : (s.chan m).ignores ph (BitVec.ofNat 32 (s.now + dt)) = true) :
    exec (.pulserEdge dt m ph) s = .next ((((s.elapse dt).togglePhase m ph).setChan m
      ((s.chan m).setEdge ph (BitVec.ofNat 32 (s.now + dt))).addNoise).noiseTest m) := by
  have hcap : ((s.elapse dt).togglePhase m ph).capture = BitVec.ofNat 32 (s.now + dt) := capture_of_now (by simp)
  simp [exec, execPulserEdge, hawake, State.channelEdge, hcap, h]

@[simp] theorem Channel.setEdge_attached (c : Channel) (ph : Phase) (t : Word32) :
    (c.setEdge ph t).attached = c.attached ∧ (c.setEdge ph t).noise = c.noise ∧ (c.setEdge ph t).fault = c.fault ∧
      (c.setEdge ph t).cf = c.cf ∧ (c.setEdge ph t).window = c.window ∧ (c.setEdge ph t).stamp = c.stamp := by
  cases ph <;> simp [Channel.setEdge]

/-- A side tests its readiness in AUTHORIZED alone (R50). -/
theorem State.testReadiness_of_not {s : State} {sd : Side} (h : (s.side sd).state ≠ .authorized) :
    s.testReadiness sd = s := if_neg h

theorem exec_meterClear {s : State} (dt : Nat) (ref : Word32) (n : Nat) (h : CanTouch s Folio.siteOrder) :
    exec (.meterClear dt ref n) s
      = .next ((s.taken dt Folio.siteOrder ref (meterClearBytes n)).serveMeterClear n) :=
  congrArg _ (State.request_eq h siteOrder_ge _)

end Sys2Proof.Machine

open Sys2Proof Sys2Proof.Machine

/-- Settles O13: an ignored edge adds to the noise count alone, and an expired stamp empties the window. -/
theorem edgesAndRatesAreTimed : Obligations.EdgesAndRatesAreTimed := by
  unfold Obligations.EdgesAndRatesAreTimed
  intro dt m s hawake
  refine ⟨fun ph e he ht hn => ?_, fun t0 ht0 ht => ?_⟩
  · have hign : (s.chan m).ignores ph (BitVec.ofNat 32 (s.now + dt)) = true := by
      simpa [Channel.ignores, he] using ht
    have hquiet : ((s.chan m).setEdge ph (BitVec.ofNat 32 (s.now + dt))).addNoise.attached = none ∨
        ((s.chan m).setEdge ph (BitVec.ofNat 32 (s.now + dt))).addNoise.noise ≠ 65 := by
      simp only [Channel.addNoise, Channel.setEdge_attached]
      exact hn.imp id fun h => by omega
    rw [exec_pulserEdge_of_ignored hawake hign, State.noiseTest_of_not (by simpa using hquiet)]
    exact ⟨_, rfl, by simp [lands_iff], fun m' hne => by simp [State.setChan_chan_ne _ _ hne],
      by simp [Channel.addNoise]⟩
  · have hexp : (s.chan m).expires (BitVec.ofNat 32 (s.now + dt)) = true := by simpa [Channel.expires, ht0] using ht
    have he : exec (.rateExpiry dt m) s
        = .next ((s.elapse dt).setChan m { s.chan m with window := [], stamp := none }) := by
      simp [exec, execRateExpiry, hawake, State.capture, hexp]
    rw [he]
    exact ⟨_, rfl, by simp [lands_iff], by simp [State.meterRate, rateOf], by simp,
      fun m' hne => by simp [State.setChan_chan_ne _ _ hne]⟩

/-- Settles O14: METER_CLEAR's checks, and the channel and event of a clear. -/
theorem meterClears : Obligations.MeterClears := by
  unfold Obligations.MeterClears
  intro dt ref n s hs
  rw [exec_meterClear dt ref n hs]
  have hlog : (s.taken dt Folio.siteOrder ref (meterClearBytes n)).exch.log = s.exch.log := taken_log hs siteOrder_ge
  refine ⟨fun hn => ⟨_, rfl, refused_of (bytes := meterClearBytes n) hs siteOrder_ge
      (by simp [State.serveMeterClear, hn])⟩,
    fun m hn hm => ⟨_, rfl, refused_of (bytes := meterClearBytes n) hs siteOrder_ge
      (by simp [State.serveMeterClear, hn, hm])⟩,
    fun m hn hm => ?_⟩
  have hauth : (s.side m.side).state ≠ .authorized := fun h => by simp [h, SideState.holdsSale] at hm
  have hchan := fun m' hne => State.setChan_chan_ne (s.taken dt Folio.siteOrder ref (meterClearBytes n)) (m := m)
    (m' := m') (s.chan m).clearCounts hne
  cases hf : (s.chan m).fault with
  | none =>
    have he : (s.taken dt Folio.siteOrder ref (meterClearBytes n)).serveMeterClear n =
        ((s.taken dt Folio.siteOrder ref (meterClearBytes n)).setChan m (s.chan m).clearCounts).handOver
          Folio.siteOrder .done := by simp [State.serveMeterClear, hn, hm, hf]
    rw [he]
    refine ⟨_, rfl, by simp [lands_iff], answered_handOver hs siteOrder_ge rfl _ _,
      fun m' hne => by simpa using hchan m' hne, by simp [Channel.clearCounts], fun _ => events_of_log ?_,
      fun cause hc => by simp at hc⟩
    rw [handOver_log _ _ _ siteOrder_ge]
    exact hlog
  | some cause =>
    have he : (s.taken dt Folio.siteOrder ref (meterClearBytes n)).serveMeterClear n =
        ((((s.taken dt Folio.siteOrder ref (meterClearBytes n)).setChan m (s.chan m).clearCounts).raise .meterCleared
          m.number (.faultCause cause) .unstated).postStatus).handOver Folio.siteOrder .done := by
      simp only [State.serveMeterClear, hn, State.taken_reads, hm, hf]
      rw [State.testReadiness_of_not (by simpa [State.side] using hauth)]
      rfl
    rw [he]
    refine ⟨_, rfl, by simp [lands_iff], answered_handOver (dt := dt) (bytes := meterClearBytes n) hs siteOrder_ge
        (by simp) _ _, fun m' hne => by simpa using hchan m' hne, by simp [Channel.clearCounts],
      fun hc => by simp at hc, fun cause' hc => ⟨?_, .unstated, ?_⟩⟩
    · exact (Keeps.refl (fun _ => False) _).handOver.fresh _ (postStatus_fresh _)
    · obtain rfl : cause = cause' := by simpa using hc
      refine raised_of (B := fun _ => False) (u := (s.taken dt Folio.siteOrder ref (meterClearBytes n)).setChan m
        (s.chan m).clearCounts) hlog (by simp) ?_ (Keeps.refl _ _).postStatus.handOver
      rw [handOver_log _ _ _ siteOrder_ge]
      simp
end


/-! ### What an operation on a side does to the two sides -/
section
namespace Sys2Proof.Machine

variable (s : State) (sd : Side)

@[simp] theorem State.putSide_side_self (x : SideCtl) :
    (s.putSide sd x).side sd = { x with noPumpEnd := x.noPumpEnd && decide (x.state ≠ .idle) } := by
  simp [State.putSide]

@[simp] theorem State.putSide_side_other (x : SideCtl) : (s.putSide sd x).side sd.other = s.side sd.other := by
  simp [State.putSide]

@[simp] theorem State.putSide_reads (x : SideCtl) :
    (∀ i, (s.putSide sd x).chan i = s.chan i) ∧ (∀ i, (s.putSide sd x).motor i = s.motor i) ∧
      (∀ i, (s.putSide sd x).gate i = s.gate i) ∧ (∀ i, (s.putSide sd x).records i = s.records i) := by
  simp [State.chan, State.motor, State.gate, State.records]

@[simp] theorem State.abandonZero_reads :
    (∀ i, (s.abandonZero sd).side i = s.side i) ∧ (∀ i, (s.abandonZero sd).chan i = s.chan i) := by
  simp [State.side, State.chan]

/-- The MAIN valves are no part of the SLOW valves' closing moment. -/
@[simp] theorem State.startSlowClose_frame (x : SideCtl) :
    (s.startSlowClose x).state = x.state ∧ (s.startSlowClose x).sale = x.sale ∧
      (s.startSlowClose x).noflowT = x.noflowT ∧ (s.startSlowClose x).suspendT = x.suspendT ∧
      (s.startSlowClose x).staggerT = x.staggerT ∧ (s.startSlowClose x).last = x.last ∧
      (s.startSlowClose x).waiting = x.waiting ∧ (s.startSlowClose x).nozzles = x.nozzles ∧
      (s.startSlowClose x).noPumpEnd = x.noPumpEnd := by
  unfold State.startSlowClose
  repeat' split
  all_goals simp

@[simp] theorem State.startSettle_frame (x : SideCtl) :
    (s.startSettle x).state = x.state ∧ (s.startSettle x).sale = x.sale ∧
      (s.startSettle x).noflowT = x.noflowT ∧ (s.startSettle x).suspendT = x.suspendT ∧
      (s.startSettle x).staggerT = x.staggerT ∧ (s.startSettle x).last = x.last ∧
      (s.startSettle x).waiting = x.waiting ∧ (s.startSettle x).nozzles = x.nozzles ∧
      (s.startSettle x).valves = x.valves ∧ (s.startSettle x).noPumpEnd = x.noPumpEnd := by
  unfold State.startSettle
  split <;> simp

@[simp] theorem State.toEnding_side_other (reason : EndReason) :
    (s.toEnding sd reason).side sd.other = s.side sd.other := by
  unfold State.toEnding
  dsimp only
  split <;> simp

/-- An open sale goes to ENDING with its reason (R65). -/
theorem State.toEnding_endsWith {o : Sale} (h : (s.side sd).sale = some o) (reason : EndReason) :
    EndsWith s (s.toEnding sd reason) sd reason ∧ ((s.toEnding sd reason).side sd).last = (s.side sd).last := by
  have he : s.toEnding sd reason = (s.abandonZero sd).putSide sd (s.startSettle (s.startSlowClose { s.side sd with
      state := .ending, sale := some { o with record := { o.record with reason := some reason } }, needZero := false
      needMotors := PerProduct.same false, valves := closeMains (s.side sd).valves, throttle := .none, devRun := none
      noflowT := none, suspendT := none, staggerT := none, noPumpEnd := decide (reason = .noPump) })) := by
    simp only [State.toEnding, h]
  refine ⟨⟨⟨?_, ?_, fun p => ?_, ?_, ?_, ?_⟩, State.toEnding_side_other s sd reason⟩, ?_⟩
  all_goals rw [he, State.putSide_side_self]
  case refine_3 => simp [startSlowClose_main, closeMains_main]
  all_goals simp [h]

@[simp] theorem State.updateVolume_side_other : (s.updateVolume sd).side sd.other = s.side sd.other := by
  unfold State.updateVolume
  dsimp only
  repeat' split
  all_goals simp

@[simp] theorem State.toSlow_side_other : (s.toSlow sd).side sd.other = s.side sd.other := by
  simp [State.toSlow]

@[simp] theorem State.restartNoflow_side_other : (s.restartNoflow sd).side sd.other = s.side sd.other := by
  simp [State.restartNoflow]

@[simp] theorem State.blendControl_side_other (c : Captured) (v : Nat) :
    (s.blendControl sd c v).side sd.other = s.side sd.other := by
  unfold State.blendControl
  dsimp only
  repeat' split
  all_goals simp

@[simp] theorem State.noticeCycle_side_other : (s.noticeCycle sd).side sd.other = s.side sd.other := by
  unfold State.noticeCycle
  dsimp only
  repeat' split
  all_goals simp

/-- A side with an open sale goes to ENDING, and one without stands (R65). -/
theorem State.toEnding_state (reason : EndReason) : ((s.toEnding sd reason).side sd).state =
      (if (s.side sd).sale.isSome then .ending else (s.side sd).state) ∧
    ((s.toEnding sd reason).side sd).sale.isSome = (s.side sd).sale.isSome := by
  cases h : (s.side sd).sale with
  | none => simp [State.toEnding, h]
  | some o =>
    obtain ⟨⟨⟨hstate, hsale, -⟩, -⟩, -⟩ := s.toEnding_endsWith sd h reason
    simp [hstate, hsale, h]

@[simp] theorem State.updateVolume_state : ((s.updateVolume sd).side sd).state = (s.side sd).state ∧
    ((s.updateVolume sd).side sd).sale.isSome = (s.side sd).sale.isSome := by
  unfold State.updateVolume
  dsimp only
  repeat' split
  all_goals simp_all

/-- The states a counted cycle may take a side to: ENDING with its sale, SLOW from FLOWING, or the state it was in (R54). -/
def CycleMoves (x y : SideCtl) : Prop :=
  (y.state = x.state ∨ (y.state = .ending ∧ x.sale.isSome = true) ∨ (x.state = .flowing ∧ y.state = .slow)) ∧
    y.sale.isSome = x.sale.isSome

theorem CycleMoves.toEnding (reason : EndReason) : CycleMoves (s.side sd) ((s.toEnding sd reason).side sd) := by
  obtain ⟨hstate, hsale⟩ := s.toEnding_state sd reason
  refine ⟨?_, hsale⟩
  rw [hstate]
  split <;> simp_all

theorem CycleMoves.of_eq {x x' y : SideCtl} (h : CycleMoves x' y) (hstate : x'.state = x.state)
    (hsale : x'.sale.isSome = x.sale.isSome) : CycleMoves x y := by
  rw [CycleMoves, hstate, hsale] at h
  exact h

/-- The throttle that the high share asks for (R57). -/
def State.throttleNow (c : Captured) : Throttle :=
  throttleFor (highShare (fineOf (s.fines sd) .low) (fineOf (s.fines sd) .high)) (s.compOf c).share c.band

/-- A side whose throttle and, outside the stagger, whose MAIN valves follow the high share (R57). -/
def State.blended (c : Captured) : SideCtl :=
  { s.side sd with
    throttle := s.throttleNow sd c
    valves := if (s.side sd).staggerT ≠ none ∨ s.throttleNow sd c = (s.side sd).throttle then (s.side sd).valves
      else valvesFor (s.compOf c) (mainAllowed (s.compOf c) (s.throttleNow sd c)) }

/-- The deviation run after a blend evaluation, and whether it ends the sale (R58). -/
def State.deviationNow (c : Captured) (v : Nat) : Option Nat × Bool :=
  deviation (s.side sd).devRun
    (blendDeviates (highShare (fineOf (s.fines sd) .low) (fineOf (s.fines sd) .high)) (s.compOf c).share c.band) v

theorem State.blendControl_eq (c : Captured) (v : Nat) : s.blendControl sd c v =
    if (s.compOf c).trueBlend ∧ 100 ≤ v then
      if 500 ≤ v then
        if (s.deviationNow sd c v).2 then
          (s.setSide sd { s.blended sd c with devRun := (s.deviationNow sd c v).1 }).toEnding sd .blendFault
        else s.setSide sd { s.blended sd c with devRun := (s.deviationNow sd c v).1 }
      else s.setSide sd (s.blended sd c)
    else s := by
  have hv : (match (s.side sd).staggerT with
      | some _ => (s.side sd).valves
      | none => if s.throttleNow sd c = (s.side sd).throttle then (s.side sd).valves
        else valvesFor (s.compOf c) (mainAllowed (s.compOf c) (s.throttleNow sd c))) = (s.blended sd c).valves := by
    cases h : (s.side sd).staggerT <;> simp [State.blended, h]
  unfold State.blended at hv ⊢
  dsimp only at hv
  rw [← hv]
  rfl

theorem CycleMoves.blendControl (c : Captured) (v : Nat) :
    CycleMoves (s.side sd) ((s.blendControl sd c v).side sd) := by
  rw [State.blendControl_eq]
  repeat' split
  case isTrue.isTrue.isTrue =>
    exact (CycleMoves.toEnding _ sd .blendFault).of_eq (by simp [State.blended]) (by simp [State.blended])
  all_goals simp [CycleMoves, State.blended]

theorem CycleMoves.noticeCycle : CycleMoves (s.side sd) ((s.noticeCycle sd).side sd) := by
  have hup : CycleMoves (s.side sd) ((s.updateVolume sd).side sd) := by simp [CycleMoves]
  obtain ⟨hstate, hsale⟩ := s.updateVolume_state sd
  unfold State.noticeCycle
  dsimp only
  split
  · exact hup
  · split
    · exact hup
    · split
      case h_1 hf =>
        split
        · exact (CycleMoves.toEnding _ sd _).of_eq (by simp [State.restartNoflow]) (by simp [State.restartNoflow])
        · split
          · refine ⟨.inr (.inr ⟨hstate ▸ hf, by simp [State.toSlow]⟩), by simp [State.toSlow, State.restartNoflow]⟩
          · exact (CycleMoves.blendControl _ sd _ _).of_eq (by simp [State.restartNoflow])
              (by simp [State.restartNoflow])
      case h_2 =>
        split
        · exact (CycleMoves.toEnding _ sd _).of_eq (by simp [State.restartNoflow]) (by simp [State.restartNoflow])
        · simp [CycleMoves, State.restartNoflow]
      case h_3 =>
        split
        · exact (CycleMoves.toEnding _ sd _).of_eq hstate hsale
        · exact hup
      case h_4 => exact hup

end Sys2Proof.Machine
end


/-! ### Counted cycles -/
section
namespace Sys2Proof.Machine

/-- The watches are no part of the totals, the records or the sale-number counter. -/
@[simp] theorem State.testWatch_store (s : State) (t : TotalId) (old new : Nat) (i : Fin 4) :
    (s.testWatch t old new i).store.totals = s.store.totals ∧
      (s.testWatch t old new i).store.records = s.store.records ∧
      (s.testWatch t old new i).store.counter = s.store.counter := by
  unfold State.testWatch
  dsimp only
  split <;> simp

@[simp] theorem State.testWatches_store (s : State) (t : TotalId) (old new : Nat) :
    (s.testWatches t old new).store.totals = s.store.totals ∧
      (s.testWatches t old new).store.records = s.store.records ∧
      (s.testWatches t old new).store.counter = s.store.counter := by
  simp [State.testWatches]

@[simp] theorem State.addMeterTotal_store (s : State) (m : Meter) (cf : Nat) :
    (s.addMeterTotal m cf).store.totals = { s.store.totals with
        meter := PerMeter.set s.store.totals.meter m (satAdd64 (PerMeter.get s.store.totals.meter m) cf) } ∧
      (s.addMeterTotal m cf).store.records = s.store.records ∧
      (s.addMeterTotal m cf).store.counter = s.store.counter := by
  simp [State.addMeterTotal, State.setTotals]

@[simp] theorem State.addUnattributed_store (s : State) (m : Meter) (cf : Nat) :
    (s.addUnattributed m cf).store = { s.store with totals := { s.store.totals with
      unattributed := PerMeter.set s.store.totals.unattributed m
        (satAdd64 (PerMeter.get s.store.totals.unattributed m) cf) } } := rfl

@[simp] theorem State.beginWrite_store (s : State) : s.beginWrite.store = { s.store with
    records := s.store.records.map Records.mark } := rfl

/-- A request for a snapshot may mark the pending records, and leaves the rest of the Sale Store (R135, R150). -/
@[simp] theorem State.requestSnapshot_store (s : State) :
    s.requestSnapshot.store.totals = s.store.totals ∧ s.requestSnapshot.store.counter = s.store.counter ∧
      s.requestSnapshot.store.watches = s.store.watches := by
  unfold State.requestSnapshot
  repeat' split
  all_goals simp [State.setRequest]

@[simp] theorem State.periodicAdd_store (s : State) (cf : Nat) :
    (s.periodicAdd cf).store.totals = s.store.totals := by
  unfold State.periodicAdd
  dsimp only
  split <;> simp

@[simp] theorem State.periodicAdd_sides (s : State) (cf : Nat) (sd : Side) : (s.periodicAdd cf).side sd = s.side sd := by
  simp [State.side]

/-- Where an unattributed cycle is noted: the stray sum, the night flag and their events (R12, R13). -/
@[simp] theorem State.unattributedFlow_frame (s : State) (m : Meter) (cf : Nat) :
    (s.unattributedFlow m cf).now = s.now ∧ (s.unattributedFlow m cf).pfe.channels = s.pfe.channels ∧
      (s.unattributedFlow m cf).sides = s.sides ∧ (s.unattributedFlow m cf).prices = s.prices ∧
      (s.unattributedFlow m cf).motors = s.motors ∧ (s.unattributedFlow m cf).display = s.display ∧
      (s.unattributedFlow m cf).gates = s.gates ∧ (s.unattributedFlow m cf).store = s.store ∧
      (s.unattributedFlow m cf).journal = s.journal ∧ (s.unattributedFlow m cf).mode = s.mode ∧
      (s.unattributedFlow m cf).exch.config = s.exch.config ∧ (s.unattributedFlow m cf).pins = s.pins ∧
      (s.unattributedFlow m cf).pending = s.pending := by
  unfold State.unattributedFlow State.strayFlow State.nightFlow
  dsimp only
  repeat' split
  all_goals simp

/-- The channel a counted cycle leaves, but for its attachment's accumulator (R9). -/
@[simp] theorem State.attribute_frame (s : State) (m : Meter) (cf : Nat) :
    (s.attribute m cf).now = s.now ∧ (s.attribute m cf).prices = s.prices ∧ (s.attribute m cf).motors = s.motors ∧
      (s.attribute m cf).gates = s.gates ∧ (s.attribute m cf).mode = s.mode ∧
      (s.attribute m cf).exch.config = s.exch.config ∧ (s.attribute m cf).pins = s.pins ∧
      (s.attribute m cf).pending = s.pending := by
  unfold State.attribute
  dsimp only
  split <;> simp

/-- The channel of a meter once a counted cycle has gone to its sale, or to none (R9). -/
def Channel.counted (c : Channel) (cf : Nat) : Channel :=
  { c with attached := c.attached.map fun a => { a with fine := satAdd64 a.fine cf } }

theorem Channel.counted_of_none {c : Channel} (h : c.attached = none) (cf : Nat) : c.counted cf = c := by
  cases c
  simp_all [Channel.counted]

@[simp] theorem Channel.counted_frame (c : Channel) (cf : Nat) :
    (c.counted cf).window = c.window ∧ (c.counted cf).stamp = c.stamp ∧ (c.counted cf).cf = c.cf ∧
      (c.counted cf).fault = c.fault :=
  ⟨rfl, rfl, rfl, rfl⟩

@[simp] theorem PerMeter.set_get_self (t : PerMeter Channel) (m : Meter) : PerMeter.set t m (PerMeter.get t m) = t := by
  obtain ⟨sd, p⟩ := m
  cases sd <;> cases p <;> rfl

theorem State.attribute_channels (s : State) (m : Meter) (cf : Nat) :
    (s.attribute m cf).pfe.channels = PerMeter.set s.pfe.channels m ((s.chan m).counted cf) := by
  unfold State.attribute
  dsimp only
  cases ha : (s.chan m).attached with
  | none =>
    rw [Channel.counted_of_none ha]
    simp [State.chan, State.addUnattributed, State.setTotals]
  | some a => simp [Channel.counted, ha, State.setChan]

theorem State.attribute_chan_self (s : State) (m : Meter) (cf : Nat) :
    (s.attribute m cf).chan m = (s.chan m).counted cf := by
  rw [State.chan, State.attribute_channels, PerMeter.get_set_self]

theorem State.attribute_chan_ne (s : State) {m m' : Meter} (cf : Nat) (h : m' ≠ m) :
    (s.attribute m cf).chan m' = s.chan m' := by
  rw [State.chan, State.attribute_channels, PerMeter.get_set_ne _ _ h]; rfl

@[simp] theorem State.addMeterTotal_reads (s : State) (m : Meter) (cf : Nat) :
    (∀ i, (s.addMeterTotal m cf).side i = s.side i) ∧ (∀ i, (s.addMeterTotal m cf).chan i = s.chan i) ∧
      (∀ i, (s.addMeterTotal m cf).disp i = s.disp i) := by
  simp [State.side, State.chan, State.disp]

@[simp] theorem Channel.stampCycle_frame (c : Channel) (t : Word32) :
    (c.stampCycle t).cf = c.cf ∧ (c.stampCycle t).fault = c.fault ∧ (c.stampCycle t).attached = c.attached ∧
      (c.stampCycle t).stamp = some t := by
  unfold Channel.stampCycle
  split <;> simp

/-- The window after a cycle is that of the window and the stamp before it (R15). -/
theorem Channel.stampCycle_window {c d : Channel} (t : Word32) (hw : c.window = d.window) (hs : c.stamp = d.stamp) :
    (c.stampCycle t).window = (d.stampCycle t).window := by
  unfold Channel.stampCycle
  rw [hw, hs]
  split <;> rfl

/-- The state in which a counted cycle is compared with the maximum flow (R18). -/
def State.cycleCounted (s : State) (m : Meter) : State :=
  ((s.addMeterTotal m (s.chan m).cf).attribute m (s.chan m).cf).setChan m
    (((s.chan m).counted (s.chan m).cf).stampCycle s.capture)

theorem State.countCycle_eq (s : State) (m : Meter) : s.countCycle m = (s.cycleCounted m).overspeedTest m := by
  have hcap : ((s.addMeterTotal m (s.chan m).cf).attribute m (s.chan m).cf).capture = s.capture := by
    simp [State.capture]
  rw [State.countCycle, State.cycleCounted, hcap, State.attribute_chan_self, (State.addMeterTotal_reads s m _).2.1]

/-- The overspeed comparison finds nothing: a meter in FAULT, a window not full, or a rate not above the maximum (R18). -/
theorem State.overspeedTest_of_keeps {s : State} {m : Meter} (h : (s.chan m).fault.isSome = true ∨
    (s.chan m).window.length < 16 ∨ rateOf (s.chan m).window (s.chan m).cf ≤ PerMeter.get s.exch.config.maxFlow m) :
    s.overspeedTest m = s := by
  unfold State.overspeedTest
  dsimp only
  split
  case isFalse => rfl
  case isTrue hc =>
    obtain ⟨hlen, hrate⟩ := hc
    rcases h with h | h | h
    · obtain ⟨q, hq⟩ := Option.isSome_iff_exists.mp h
      simp [State.meterFault, hq]
    · omega
    · exact absurd hrate (Nat.not_lt.mpr h)

@[simp] theorem decodedCycle_frame (s : State) (dt : Nat) (m : Meter) (ph : Phase) :
    (decodedCycle s dt m ph).now = s.now + dt ∧ (decodedCycle s dt m ph).sides = s.sides ∧
      (decodedCycle s dt m ph).prices = s.prices ∧ (decodedCycle s dt m ph).motors = s.motors ∧
      (decodedCycle s dt m ph).display = s.display ∧ (decodedCycle s dt m ph).gates = s.gates ∧
      (decodedCycle s dt m ph).store = s.store ∧ (decodedCycle s dt m ph).journal = s.journal ∧
      (decodedCycle s dt m ph).mode = s.mode ∧ (decodedCycle s dt m ph).exch = s.exch ∧
      (decodedCycle s dt m ph).pending = s.pending ∧ (decodedCycle s dt m ph).pfe.stray = s.pfe.stray ∧
      (decodedCycle s dt m ph).pfe.nightFlag = s.pfe.nightFlag := by
  simp [decodedCycle, State.setChan]

theorem decodedCycle_sides (s : State) (dt : Nat) (m : Meter) (ph : Phase) (sd : Side) :
    (decodedCycle s dt m ph).side sd = s.side sd := by
  simp [State.side]

theorem decodedCycle_chan_ne (s : State) (dt : Nat) {m m' : Meter} (ph : Phase) (h : m' ≠ m) :
    (decodedCycle s dt m ph).chan m' = s.chan m' := by
  rw [decodedCycle, State.setChan_chan_ne _ _ h]; simp

@[simp] theorem Channel.run_counts (c : Channel) (ph : Phase) :
    (c.run ph).attached = c.attached ∧ (c.run ph).noise = c.noise ∧ (c.run ph).fault = c.fault ∧
      (c.run ph).cf = c.cf ∧ (c.run ph).window = c.window ∧ (c.run ph).stamp = c.stamp := by
  unfold Channel.run
  split <;> simp

/-- The decoder leaves a channel's counts, attachment and rate to the cycle. -/
theorem decodedCycle_counts (s : State) (dt : Nat) (m : Meter) (ph : Phase) :
    ((decodedCycle s dt m ph).chan m).attached = (s.chan m).attached ∧
      ((decodedCycle s dt m ph).chan m).fault = (s.chan m).fault ∧
      ((decodedCycle s dt m ph).chan m).cf = (s.chan m).cf ∧
      ((decodedCycle s dt m ph).chan m).window = (s.chan m).window ∧
      ((decodedCycle s dt m ph).chan m).stamp = (s.chan m).stamp := by
  simp [decodedCycle]

/-- A forward cycle that finds no back count is counted (R7). -/
theorem exec_pulserEdge_of_counted {s : State} {dt : Nat} {m : Meter} {ph : Phase} (h : CompletesForward s dt m ph)
    (hback : (s.chan m).back = 0) :
    exec (.pulserEdge dt m ph) s = .next (((decodedCycle s dt m ph).cycleCounted m).overspeedTest m) := by
  rw [exec_pulserEdge_of_completesForward h, State.forwardCycle_of_eq_zero (by rw [decodedCycle_back, hback]),
    State.countCycle_eq]

/-- The window, the stamp and the attachment of a meter whose cycle has been counted (R9, R15). -/
theorem cycleCounted_chan (s : State) (dt : Nat) (m : Meter) (ph : Phase) :
    let t := (decodedCycle s dt m ph).cycleCounted m
    (t.chan m).window = ((s.chan m).stampCycle (BitVec.ofNat 32 (s.now + dt))).window ∧
      (t.chan m).stamp = some (BitVec.ofNat 32 (s.now + dt)) ∧ (t.chan m).cf = (s.chan m).cf ∧
      (t.chan m).fault = (s.chan m).fault ∧
      (t.chan m).attached = (s.chan m).attached.map fun a => { a with fine := satAdd64 a.fine (s.chan m).cf } := by
  obtain ⟨hatt, hfault, hcf, hwin, hstamp⟩ := decodedCycle_counts s dt m ph
  have hcap : (decodedCycle s dt m ph).capture = BitVec.ofNat 32 (s.now + dt) := capture_of_now (by simp)
  intro t
  have ht : t.chan m = (((decodedCycle s dt m ph).chan m).counted (s.chan m).cf).stampCycle
      (BitVec.ofNat 32 (s.now + dt)) := by
    simp only [t, State.cycleCounted, State.setChan_chan_self, hcap, hcf]
  rw [ht]
  refine ⟨Channel.stampCycle_window _ (by simp [hwin]) (by simp [hstamp]), ?_, ?_, ?_, ?_⟩
  all_goals simp [Channel.counted, hcf, hfault, hatt]

theorem cycleCounted_chan_ne (s : State) (dt : Nat) {m m' : Meter} (ph : Phase) (h : m' ≠ m) :
    ((decodedCycle s dt m ph).cycleCounted m).chan m' = s.chan m' := by
  rw [State.cycleCounted, State.setChan_chan_ne _ _ h, State.attribute_chan_ne _ _ h,
    (State.addMeterTotal_reads _ _ _).2.1, decodedCycle_chan_ne _ _ _ h]

/-- A counted cycle that keeps its speed ends there (R18). -/
theorem exec_pulserEdge_of_keepsSpeed {s : State} {dt : Nat} {m : Meter} {ph : Phase} (h : CompletesForward s dt m ph)
    (hback : (s.chan m).back = 0) (hspeed : KeepsSpeed s dt m) :
    exec (.pulserEdge dt m ph) s = .next ((decodedCycle s dt m ph).cycleCounted m) := by
  obtain ⟨hwin, -, hcf, hfault, -⟩ := cycleCounted_chan s dt m ph
  rw [exec_pulserEdge_of_counted h hback, State.overspeedTest_of_keeps]
  rw [hwin, hcf, hfault]
  simpa [KeepsSpeed, State.cycleCounted] using hspeed

end Sys2Proof.Machine

open Sys2Proof Sys2Proof.Machine

/-- Settles O12: the cycle's total, and its one other place. -/
theorem countedCyclesGoToOnePlace : Obligations.CountedCyclesGoToOnePlace := by
  unfold Obligations.CountedCyclesGoToOnePlace
  intro dt m ph s hforward hback hspeed
  rw [exec_pulserEdge_of_keepsSpeed hforward hback hspeed]
  obtain ⟨hwin, hstamp, -, -, hatt⟩ := cycleCounted_chan s dt m ph
  obtain ⟨hatt', -, hcf, -, -⟩ := decodedCycle_counts s dt m ph
  refine ⟨fun hnone => ⟨_, rfl, ?_, ?_, ?_, ?_, hwin, hstamp, fun _ => cycleCounted_chan_ne s dt ph⟩,
    fun a ha _ => ⟨_, rfl, ?_, ?_, ?_, hwin, hstamp, ?_, fun _ => cycleCounted_chan_ne s dt ph⟩⟩
  · simp [lands_iff, State.cycleCounted, State.attribute, hatt', hnone, hcf]
  · simp [State.cycleCounted, State.attribute, hatt', hnone, hcf]
  · simp [State.cycleCounted, State.attribute, hatt', hnone, hcf]
  · simp [State.cycleCounted, State.attribute, hatt', hnone, hcf]
  · simp [lands_iff, State.cycleCounted]
  · rw [hatt, ha]; rfl
  · simp [State.cycleCounted, State.attribute, hatt', ha, hcf]
  · simp [State.cycleCounted, State.attribute, hatt', ha, hcf, decodedCycle_sides]
end


/-! ### Meter faults -/
section
namespace Sys2Proof.Machine

variable {s v t : State} {dt : Nat} {m : Meter}

/-- The notice of a meter's fault to a side before or after its sale flows (R69). -/
theorem State.noticeMeterFault_eq (hauth : (v.side m.side).state ≠ .authorized)
    (hstart : (v.side m.side).state ≠ .starting) : v.noticeMeterFault m =
      if (v.chan m).attached.isSome = true ∧ ((v.side m.side).state.delivers = true ∨ (v.side m.side).state = .suspended)
        then v.toEnding m.side .meterFault else v := by
  unfold State.noticeMeterFault
  dsimp only
  cases h : (v.side m.side).state <;> cases ha : (v.chan m).attached <;> simp_all [SideState.delivers]

/-- The blocks that the fault of a meter may change. -/
def faultFrame : List Block := [.pfe, .sides, .display, .journal, .exch, .pins]

/-- The edge has changed the meter's channel and the pins, and the time. -/
structure EdgeTaken (s v : State) (dt : Nat) (m : Meter) : Prop where
  now : v.now = s.now + dt
  sides : v.sides = s.sides
  prices : v.prices = s.prices
  motors : v.motors = s.motors
  display : v.display = s.display
  gates : v.gates = s.gates
  store : v.store = s.store
  journal : v.journal = s.journal
  mode : v.mode = s.mode
  exch : v.exch = s.exch
  pending : v.pending = s.pending
  others : ∀ m', m' ≠ m → v.chan m' = s.chan m'
  attached : (v.chan m).attached = (s.chan m).attached
  fault : (v.chan m).fault = (s.chan m).fault

theorem EdgeTaken.lands (h : EdgeTaken s v dt m) : Lands dt [.pfe, .pins] s v := by
  obtain ⟨hnow, hsides, hprices, hmotors, hdisplay, hgates, hstore, hjournal, hmode, hexch, hpending, -, -, -⟩ := h
  simp [lands_iff, hnow, hsides, hprices, hmotors, hdisplay, hgates, hstore, hjournal, hmode, hexch, hpending]

theorem EdgeTaken.setChan (h : EdgeTaken s v dt m) {c : Channel} (hatt : c.attached = (s.chan m).attached)
    (hfault : c.fault = (s.chan m).fault) : EdgeTaken s (v.setChan m c) dt m :=
  { h with
    others := fun m' hne => (State.setChan_chan_ne v c hne).trans (h.others m' hne)
    attached := by rw [State.setChan_chan_self, hatt]
    fault := by rw [State.setChan_chan_self, hfault] }

theorem EdgeTaken.togglePhase (s : State) (dt : Nat) (m : Meter) (ph : Phase) :
    EdgeTaken s ((s.elapse dt).togglePhase m ph) dt m := by
  constructor
  all_goals simp

/-- The state in which the side is told of its meter's fault: the fault, its event and STATUS stand (R4). -/
def State.faulted (v : State) (m : Meter) (cause : FaultCause) (n : Nat) : State :=
  ((v.setChan m { v.chan m with fault := some cause }).raise .meterFault m.number (.faultCause cause) (.num n)).postStatus

@[simp] theorem State.faulted_reads (v : State) (m : Meter) (cause : FaultCause) (n : Nat) :
    (∀ i, (v.faulted m cause n).side i = v.side i) ∧
      (v.faulted m cause n).chan m = { v.chan m with fault := some cause } := by
  simp [State.faulted]

theorem State.meterFault_of_ok (hfault : (v.chan m).fault = none) (cause : FaultCause) (n : Nat) :
    v.meterFault m cause n = (v.faulted m cause n).noticeMeterFault m := by
  simp only [State.meterFault, hfault, State.faulted]

theorem State.meterFault_of_fault {cause : FaultCause} (hfault : (v.chan m).fault = some cause) (c : FaultCause)
    (n : Nat) : v.meterFault m c n = v := by
  simp only [State.meterFault, hfault]

/-- The fault of a meter tells a side whose sale has it and flows, is slow or is suspended, and no other (R69). -/
theorem State.meterFault_eq (hfault : (v.chan m).fault = none) (hauth : (v.side m.side).state ≠ .authorized)
    (hstart : (v.side m.side).state ≠ .starting) (cause : FaultCause) (n : Nat) : v.meterFault m cause n =
      if (v.chan m).attached.isSome = true ∧ ((v.side m.side).state.delivers = true ∨ (v.side m.side).state = .suspended)
        then (v.faulted m cause n).toEnding m.side .meterFault else v.faulted m cause n := by
  rw [State.meterFault_of_ok hfault, State.noticeMeterFault_eq (by simpa using hauth) (by simpa using hstart)]
  simp

/-- What follows a fault leaves it, its event and STATUS as they stand (R4). -/
theorem entersFault_of_faulted {cause : FaultCause} {n : Nat} (hlog : v.exch.log = s.exch.log)
    (hclock : v.mode.clock = s.mode.clock) (others : ∀ m', m' ≠ m → v.chan m' = s.chan m')
    (hkeep : Keeps (fun _ => False) (v.faulted m cause n) t) (ht : t.exch.log = (v.faulted m cause n).exch.log)
    (hpfe : t.pfe = (v.faulted m cause n).pfe) :
    EntersFault s t m cause n ∧ t.chan m = { v.chan m with fault := some cause } := by
  have hchan : ∀ i, t.chan i = (v.faulted m cause n).chan i := fun i =>
    congrArg (fun p : Pfe => PerMeter.get p.channels i) hpfe
  refine ⟨⟨by simp [hchan], ?_, hkeep.fresh _ (postStatus_fresh _), fun m' hne => ?_⟩, by simp [hchan]⟩
  · refine raised_of (u := v.setChan m { v.chan m with fault := some cause }) (by simpa using hlog) hclock ?_
      ((Keeps.refl _ _).postStatus.trans hkeep)
    rw [ht]; simp [State.faulted]
  · rw [hchan, ← others m' hne]
    simp [State.faulted, State.setChan_chan_ne _ _ hne]

/-- A meter that is OK enters FAULT by an edge (R4): its frame, its event and its sale's notice. -/
theorem EdgeTaken.meterFault (h : EdgeTaken s v dt m) (hfault : (s.chan m).fault = none)
    (hauth : (s.side m.side).state ≠ .authorized) (hstart : (s.side m.side).state ≠ .starting) (cause : FaultCause)
    (n : Nat) :
    Lands dt faultFrame s (v.meterFault m cause n) ∧ EntersFault s (v.meterFault m cause n) m cause n ∧
      FaultIsTold s (v.meterFault m cause n) m ∧
      (v.meterFault m cause n).chan m = { v.chan m with fault := some cause } := by
  have hside : ∀ sd, v.side sd = s.side sd := fun sd => congrArg (fun b => b.get sd) h.sides
  have hlands := h.lands
  have hraised := fun t => entersFault_of_faulted (s := s) (v := v) (t := t) (m := m) (cause := cause) (n := n)
    (by rw [h.exch]) (by rw [h.mode]) h.others
  rw [State.meterFault_eq (h.fault.trans hfault) (by rwa [hside]) (by rwa [hside]), h.attached, hside]
  simp only [lands_iff, List.mem_cons, List.not_mem_nil, reduceCtorEq, or_false, false_or, true_or] at hlands
  split
  case isTrue hc =>
    obtain ⟨hent, hch⟩ := hraised ((v.faulted m cause n).toEnding m.side .meterFault) (Keeps.refl _ _).toEnding (by simp)
      (by simp)
    refine ⟨by simp [lands_iff, faultFrame, State.faulted, hlands], hent, ⟨fun o _ _ ho => ?_, fun hn => ?_⟩, hch⟩
    · obtain ⟨⟨⟨h1, h2, h3⟩, hother⟩, -⟩ := (v.faulted m cause n).toEnding_endsWith m.side (o := o) (by simp [hside, ho])
        .meterFault
      exact ⟨⟨h1, by simpa [hside] using h2, h3⟩, hother.trans (by simp [hside])⟩
    · obtain ⟨hatt, hst⟩ := hc
      rcases hn with hn | ⟨hn, hn'⟩
      · simp [hn] at hatt
      · simp [hn, hn'] at hst
  case isFalse hc =>
    obtain ⟨hent, hch⟩ := hraised (v.faulted m cause n) (Keeps.refl _ _) rfl rfl
    exact ⟨by simp [lands_iff, faultFrame, State.faulted, hlands], hent,
      ⟨fun o ha hst _ => absurd ⟨ha, hst⟩ hc, fun _ => by simp [State.faulted, hlands]⟩, hch⟩

/-- The noise of an attached meter that has reached 65 is the NOISE fault's (R19). -/
theorem State.noiseTest_eq : v.noiseTest m =
    if (v.chan m).attached.isSome = true ∧ (v.chan m).noise = 65 then v.meterFault m .noise 65 else v := rfl

theorem EdgeTaken.edgeTaken (s : State) (dt : Nat) (m : Meter) (ph : Phase) : EdgeTaken s (edgeTaken s dt m ph) dt m :=
  (EdgeTaken.togglePhase s dt m ph).setChan (by simp) (by simp)

theorem EdgeTaken.decodedCycle (s : State) (dt : Nat) (m : Meter) (ph : Phase) :
    EdgeTaken s (decodedCycle s dt m ph) dt m :=
  (EdgeTaken.togglePhase s dt m ph).setChan (by simp) (by simp)

/-- A rise of the noise count is counted, and tested for the NOISE fault (R1, R2, R19). -/
theorem exec_pulserEdge_of_noiseRises {ph : Phase} (h : NoiseRises s dt m ph) :
    ∃ v, exec (.pulserEdge dt m ph) s = .next (v.noiseTest m) ∧ EdgeTaken s v dt m ∧
      (v.chan m).noise = min 65535 ((s.chan m).noise + 1) := by
  obtain ⟨hawake, hign | hmove⟩ := h
  · refine ⟨_, exec_pulserEdge_of_ignored hawake hign, (EdgeTaken.togglePhase s dt m ph).setChan ?_ ?_, ?_⟩
    all_goals simp [Channel.addNoise]
  · obtain ⟨hmv, -⟩ := edgeTaken_of_edgeMoves hmove
    refine ⟨(edgeTaken s dt m ph).setChan m (Channel.addNoise { (edgeTaken s dt m ph).chan m with
      posA := PerMeter.get (edgeTaken s dt m ph).pins.phaseA m
      posB := PerMeter.get (edgeTaken s dt m ph).pins.phaseB m }), ?_, ?_, ?_⟩
    · rw [exec_pulserEdge_of_edgeMoves hmove]
      simp only [State.decodeEdge, hmv, if_true]
    · have he := EdgeTaken.edgeTaken s dt m ph
      exact he.setChan he.attached he.fault
    · simp [Channel.addNoise, Machine.edgeTaken]

/-- The state in which the eighth edge in a row on its phase is a PHASE_LOSS (R5). -/
theorem exec_pulserEdge_of_runReachesEight {ph : Phase} (h : RunReachesEight s dt m ph) :
    exec (.pulserEdge dt m ph) s =
        .next (((edgeTaken s dt m ph).meterFault m .phaseLoss 8).decodeEdge m true) ∧
      ((edgeTaken s dt m ph).chan m).runCount = 8 := by
  obtain ⟨hawake, hkeep, hphase, hcount⟩ := h
  have hrun : (((s.chan m).setEdge ph (BitVec.ofNat 32 (s.now + dt))).run ph).runCount = 8 := by
    rw [Channel.run_setEdge]
    simp [Channel.run, hphase, hcount]
  have hcap : ((s.elapse dt).togglePhase m ph).capture = BitVec.ofNat 32 (s.now + dt) := capture_of_now (by simp)
  refine ⟨?_, by simpa [edgeTaken, hcap] using hrun⟩
  simp [exec, execPulserEdge, hawake, State.channelEdge, hcap, hkeep, State.acceptEdge, hrun, hcount, edgeTaken]

/-- On a meter in FAULT the decoder moves the channel alone, and clears neither its fault nor its run (R1, R4). -/
theorem State.decodeEdge_of_fault {cause : FaultCause} (hf : (v.chan m).fault = some cause) :
    ∃ c, v.decodeEdge m true = v.setChan m c ∧ c.fault = some cause ∧ c.runCount = (v.chan m).runCount := by
  unfold State.decodeEdge
  dsimp only
  split
  case isTrue hmv =>
    refine ⟨Channel.addNoise { v.chan m with
      posA := PerMeter.get v.pins.phaseA m, posB := PerMeter.get v.pins.phaseB m }, ?_, hf, rfl⟩
    rw [State.noiseTest_eq, State.meterFault_of_fault (cause := cause) (by simp [Channel.addNoise, hf]), ite_self]
  case isFalse hmv => exact ⟨_, rfl, hf, rfl⟩

end Sys2Proof.Machine
end


/-! ### OVERSPEED, and the four faults -/
section
namespace Sys2Proof.Machine

theorem State.testWatch_of_unarmed {s : State} {i : Fin 4} (h : (s.store.watches.get i).armed = false) (t : TotalId)
    (old new : Nat) : s.testWatch t old new i = s := if_neg (by simp [h])

theorem State.testWatches_of_unarmed {s : State} (h : ∀ i, (s.store.watches.get i).armed = false) (t : TotalId)
    (old new : Nat) : s.testWatches t old new = s := by
  simp only [State.testWatches, State.testWatch_of_unarmed (h _)]

/-- With no watch armed a counted cycle raises no event of its total (R142). -/
theorem State.addMeterTotal_log {s : State} (h : ∀ i, (s.store.watches.get i).armed = false) (m : Meter) (cf : Nat) :
    (s.addMeterTotal m cf).exch.log = s.exch.log := by
  unfold State.addMeterTotal
  dsimp only
  rw [State.testWatches_of_unarmed (by simpa [State.setTotals] using h)]
  simp

/-- With the stray period reported and the night flag set an unattributed cycle raises no event (R12, R13). -/
theorem State.unattributedFlow_log {s : State} {m : Meter} (hstray : (s.pfe.stray.get m.side).reported = true)
    (hnight : s.pfe.nightFlag = true) (cf : Nat) : (s.unattributedFlow m cf).exch.log = s.exch.log := by
  unfold State.unattributedFlow State.strayFlow State.nightFlow
  simp only [hstray, hnight]
  split <;> simp

/-- The side of a counted cycle, as a move of its own (R54). -/
theorem State.attribute_moves (s : State) (m : Meter) (cf : Nat) :
    CycleMoves (s.side m.side) ((s.attribute m cf).side m.side) ∧
      ((s.chan m).attached = none → (s.attribute m cf).sides = s.sides) := by
  unfold State.attribute
  dsimp only
  cases ha : (s.chan m).attached with
  | none => simp [CycleMoves, State.addUnattributed, State.setTotals, State.side]
  | some a =>
    have h := CycleMoves.noticeCycle (s.setChan m { s.chan m with
      attached := some { a with fine := satAdd64 a.fine cf } }) m.side
    exact ⟨by simpa [CycleMoves] using h, fun hn => by simp at hn⟩

theorem cycleCounted_moves (s : State) (dt : Nat) (m : Meter) (ph : Phase) :
    CycleMoves (s.side m.side) (((decodedCycle s dt m ph).cycleCounted m).side m.side) ∧
      ((s.chan m).attached = none → ((decodedCycle s dt m ph).cycleCounted m).sides = s.sides) := by
  obtain ⟨hmoves, hsides⟩ := ((decodedCycle s dt m ph).addMeterTotal m ((decodedCycle s dt m ph).chan m).cf).attribute_moves
    m ((decodedCycle s dt m ph).chan m).cf
  refine ⟨?_, fun hn => ?_⟩
  · simpa [State.cycleCounted, decodedCycle_sides] using hmoves
  · have hatt := (decodedCycle_counts s dt m ph).1
    simpa [State.cycleCounted] using hsides (by simp [hatt, hn])

@[simp] theorem cycleCounted_frame (s : State) (dt : Nat) (m : Meter) (ph : Phase) :
    let t := (decodedCycle s dt m ph).cycleCounted m
    t.now = s.now + dt ∧ t.prices = s.prices ∧ t.motors = s.motors ∧ t.gates = s.gates ∧ t.mode = s.mode ∧
      t.exch.config = s.exch.config ∧ t.pending = s.pending := by
  simp [State.cycleCounted]

/-- A counted cycle that fires no watch and is noted by no event leaves the ring (R9). -/
theorem cycleCounted_log {s : State} {m : Meter} (dt : Nat) (ph : Phase)
    (hwatch : ∀ i, (s.store.watches.get i).armed = false)
    (hnoted : (s.chan m).attached = none → (s.pfe.stray.get m.side).reported = true ∧ s.pfe.nightFlag = true) :
    ((decodedCycle s dt m ph).cycleCounted m).exch.log = s.exch.log := by
  have htotal : ((decodedCycle s dt m ph).addMeterTotal m ((decodedCycle s dt m ph).chan m).cf).exch.log = s.exch.log :=
    by rw [State.addMeterTotal_log (by simpa using hwatch)]; simp
  have hatt := (decodedCycle_counts s dt m ph).1
  unfold State.cycleCounted
  rw [State.setChan_exch]
  unfold State.attribute
  dsimp only
  cases ha : (s.chan m).attached with
  | none =>
    obtain ⟨hstray, hnight⟩ := hnoted ha
    have hnone : (((decodedCycle s dt m ph).addMeterTotal m ((decodedCycle s dt m ph).chan m).cf).chan m).attached
        = none := by simp [hatt, ha]
    rw [hnone]
    simp only
    rw [State.unattributedFlow_log (by simpa [State.addUnattributed, State.setTotals] using hstray)
      (by simpa [State.addUnattributed, State.setTotals] using hnight)]
    simpa using htotal
  | some a =>
    have hsome : (((decodedCycle s dt m ph).addMeterTotal m ((decodedCycle s dt m ph).chan m).cf).chan m).attached
        = some a := by simp [hatt, ha]
    rw [hsome]
    simpa using htotal

/-- A counted cycle whose window fills with a rate above the maximum is an OVERSPEED fault (R4, R18). -/
theorem overspeed_of_counted {s : State} {m : Meter} {ph : Phase} {dt : Nat} (hforward : CompletesForward s dt m ph)
    (hback : (s.chan m).back = 0) (hauth : (s.side m.side).state ≠ .authorized)
    (hstart : (s.side m.side).state ≠ .starting) (hfault : (s.chan m).fault = none)
    (hwatch : ∀ i, (s.store.watches.get i).armed = false)
    (hnoted : (s.chan m).attached = none → (s.pfe.stray.get m.side).reported = true ∧ s.pfe.nightFlag = true)
    {window : List Nat} (hwin : ((s.chan m).stampCycle (BitVec.ofNat 32 (s.now + dt))).window = window)
    (hlen : window.length = 16) (hrate : PerMeter.get s.exch.config.maxFlow m < rateOf window (s.chan m).cf) :
    ∃ t, exec (.pulserEdge dt m ph) s = .next t ∧ Lands dt (.store :: faultFrame) s t ∧
      EntersFault s t m .overspeed (rateOf window (s.chan m).cf) ∧ (t.chan m).window = window ∧
      (∀ o, (s.chan m).attached.isSome = true →
        ((s.side m.side).state.delivers = true ∨ (s.side m.side).state = .suspended) →
        (s.side m.side).sale = some o → (t.side m.side).state = .ending) ∧
      ((s.chan m).attached = none → t.sides = s.sides) := by
  obtain ⟨hwin', -, hcf, hfault', hatt⟩ := cycleCounted_chan s dt m ph
  obtain ⟨⟨hstate, hsale⟩, hsides⟩ := cycleCounted_moves s dt m ph
  have hlog := cycleCounted_log (m := m) dt ph hwatch hnoted
  have hframe := cycleCounted_frame s dt m ph
  have hothers : ∀ m', m' ≠ m → ((decodedCycle s dt m ph).cycleCounted m).chan m' = s.chan m' :=
    fun _ hne => cycleCounted_chan_ne s dt ph hne
  rw [exec_pulserEdge_of_counted hforward hback]
  generalize (decodedCycle s dt m ph).cycleCounted m = w at *
  obtain ⟨hnow, hprices, hmotors, hgates, hmode, hconfig, hpending⟩ := hframe
  have hfast : w.overspeedTest m = w.meterFault m .overspeed (rateOf window (s.chan m).cf) := by
    unfold State.overspeedTest State.meterRate
    simp only [hwin', hwin, hcf]
    exact if_pos ⟨hlen, by simpa [State.cfg, hconfig] using hrate⟩
  have hnot : (w.side m.side).state ≠ .authorized ∧ (w.side m.side).state ≠ .starting := by
    rcases hstate with h | h | h <;> simp [h, hauth, hstart]
  have hraised := fun t => entersFault_of_faulted (s := s) (v := w) (t := t) (m := m) (cause := .overspeed)
    (n := rateOf window (s.chan m).cf) hlog (by rw [hmode]) hothers
  have hlive : ∀ o, ((s.side m.side).state.delivers = true ∨ (s.side m.side).state = .suspended) →
      (s.side m.side).sale = some o → (w.side m.side).state = .ending ∨
        (((w.side m.side).state.delivers = true ∨ (w.side m.side).state = .suspended) ∧
          (w.side m.side).sale.isSome = true) := by
    intro o hst ho
    rcases hstate with h | h | h
    · exact .inr ⟨by rwa [h], by rw [hsale, ho]; rfl⟩
    · exact .inl h.1
    · exact .inr ⟨.inl (by rw [h.2]; rfl), by rw [hsale, ho]; rfl⟩
  rw [hfast, State.meterFault_eq (hfault'.trans hfault) hnot.1 hnot.2]
  split
  case isTrue hc =>
    obtain ⟨hent, hch⟩ := hraised ((w.faulted m .overspeed (rateOf window (s.chan m).cf)).toEnding m.side .meterFault)
      (Keeps.refl _ _).toEnding (by simp) (by simp)
    refine ⟨_, rfl, by simp [lands_iff, faultFrame, State.faulted, hnow, hprices, hmotors, hgates, hmode, hpending],
      hent, by rw [hch]; exact hwin'.trans hwin, fun o _ hst ho => ?_, fun hn => ?_⟩
    · rw [(State.toEnding_state _ _ _).1]
      simp only [State.faulted_reads]
      rcases hlive o hst ho with h | ⟨-, h⟩
      · split <;> simp [h]
      · simp [h]
    · simp [hatt, hn] at hc
  case isFalse hc =>
    obtain ⟨hent, hch⟩ := hraised (w.faulted m .overspeed (rateOf window (s.chan m).cf)) (Keeps.refl _ _) rfl rfl
    refine ⟨_, rfl, by simp [lands_iff, faultFrame, State.faulted, hnow, hprices, hmotors, hgates, hmode, hpending],
      hent, by rw [hch]; exact hwin'.trans hwin, fun o ha hst ho => ?_, fun hn => ?_⟩
    · rcases hlive o hst ho with h | ⟨h, -⟩
      · simp [h]
      · exact absurd ⟨by rw [hatt, Option.isSome_map]; exact ha, h⟩ hc
    · simp [State.faulted, hsides hn]

theorem Lands.setChan {dt : Nat} {bs : List Block} {s u : State} (h : Lands dt bs s u) (hp : .pfe ∈ bs) (m : Meter)
    (c : Channel) : Lands dt bs s (u.setChan m c) := by
  refine ⟨h.1, fun b hb => ?_⟩
  cases b
  case pfe => exact absurd hp hb
  all_goals exact h.2 _ hb

/-- The decoder's move on a meter whose fault has been told changes its channel alone (R1, R4). -/
theorem EntersFault.decodeEdge {dt : Nat} {s u : State} {m : Meter} {cause : FaultCause} {n : Nat}
    (hlands : Lands dt faultFrame s u) (hent : EntersFault s u m cause n) (htold : FaultIsTold s u m) :
    Lands dt faultFrame s (u.decodeEdge m true) ∧ EntersFault s (u.decodeEdge m true) m cause n ∧
      FaultIsTold s (u.decodeEdge m true) m ∧ ((u.decodeEdge m true).chan m).runCount = (u.chan m).runCount := by
  obtain ⟨hfault, hraised, hfresh, hothers⟩ := hent
  obtain ⟨c, he, hc, hcount⟩ := State.decodeEdge_of_fault hfault
  rw [he]
  exact ⟨hlands.setChan (by decide) m c, ⟨by simpa using hc, hraised, hfresh,
    fun m' hne => (State.setChan_chan_ne u c hne).trans (hothers m' hne)⟩, htold, by simpa using hcount⟩

/-- On a meter already in FAULT the decoder's move changes its channel alone (R4). -/
theorem EdgeTaken.decodeEdge {dt : Nat} {s v : State} {m : Meter} {cause : FaultCause} (h : EdgeTaken s v dt m)
    (hfault : (s.chan m).fault = some cause) :
    Lands dt [.pfe, .pins] s (v.decodeEdge m true) ∧ ((v.decodeEdge m true).chan m).fault = some cause := by
  obtain ⟨c, he, hc, -⟩ := State.decodeEdge_of_fault (h.fault.trans hfault)
  rw [he]
  exact ⟨h.lands.setChan (by decide) m c, by simpa using hc⟩

end Sys2Proof.Machine

open Sys2Proof Sys2Proof.Machine

/-- Settles O15: each fault's edge takes its channel to the fault, and on a meter in FAULT to nothing. -/
theorem metersFault : Obligations.MetersFault := by
  unfold Obligations.MetersFault
  intro dt m ph s
  refine ⟨fun hauth hstart hfault => ⟨fun hrise hatt hnoise => ?_, fun hrun => ?_, fun hrev hback => ?_,
    fun t0 hfwd hback hstamp hlen hwatch hnoted => ?_⟩, fun cause hfault hedge => ?_⟩
  · obtain ⟨v, hexec, hv, hcount⟩ := exec_pulserEdge_of_noiseRises hrise
    have h65 : (v.chan m).noise = 65 := by rw [hcount, hnoise]; rfl
    obtain ⟨hlands, hent, htold, hchan⟩ := hv.meterFault hfault hauth hstart .noise 65
    rw [hexec, State.noiseTest_eq, if_pos ⟨by rw [hv.attached]; exact hatt, h65⟩]
    exact ⟨_, rfl, hlands, hent, by rw [hchan]; exact h65, htold⟩
  · obtain ⟨hexec, hcount⟩ := exec_pulserEdge_of_runReachesEight hrun
    obtain ⟨hlands, hent, htold, hchan⟩ :=
      (EdgeTaken.edgeTaken s dt m ph).meterFault hfault hauth hstart .phaseLoss 8
    obtain ⟨hlands', hent', htold', hcount'⟩ := EntersFault.decodeEdge hlands hent htold
    rw [hexec]
    exact ⟨_, rfl, hlands', hent', by rw [hcount', hchan]; exact hcount, htold'⟩
  · obtain ⟨hlands, hent, htold, hchan⟩ :=
      (EdgeTaken.decodedCycle s dt m ph).meterFault hfault hauth hstart .reverse 17
    have hback' : ((decodedCycle s dt m ph).chan m).back = 16 := by rw [decodedCycle_back, hback]
    rw [exec_pulserEdge_of_completesReverse hrev, State.reverseCycle_of_full hback']
    exact ⟨_, rfl, hlands, hent, by rw [hchan]; exact hback', htold⟩
  · intro window hrate
    refine overspeed_of_counted hfwd hback hauth hstart hfault hwatch hnoted ?_ ?_ hrate
    · simp only [Channel.stampCycle, hstamp, window]
      congr 1
    · simp only [window, List.length_drop, List.length_append, List.length_singleton]
      omega
  · rcases hedge with ⟨hrise, -⟩ | hrun | ⟨hrev, hback⟩
    · obtain ⟨v, hexec, hv, -⟩ := exec_pulserEdge_of_noiseRises hrise
      rw [hexec, State.noiseTest_eq, State.meterFault_of_fault (hv.fault.trans hfault), ite_self]
      exact ⟨_, rfl, hv.lands, hv.fault.trans hfault⟩
    · have hv := EdgeTaken.edgeTaken s dt m ph
      rw [(exec_pulserEdge_of_runReachesEight hrun).1, State.meterFault_of_fault (hv.fault.trans hfault)]
      exact ⟨_, rfl, hv.decodeEdge hfault⟩
    · have hv := EdgeTaken.decodedCycle s dt m ph
      rw [exec_pulserEdge_of_completesReverse hrev,
        State.reverseCycle_of_full (by rw [decodedCycle_back, hback]),
        State.meterFault_of_fault (hv.fault.trans hfault)]
      exact ⟨_, rfl, hv.lands, hv.fault.trans hfault⟩
end


/-! ### What a counted cycle does to its sale -/
section
set_option linter.unnecessarySeqFocus false

namespace Sys2Proof.Machine

variable {s : State} {sd : Side} {o : Sale} {c : Captured}

/-- The fine volumes of a side depend on its channels' attachments alone. -/
theorem State.fines_congr {u v : State} (h : ∀ p, (u.chan ⟨sd, p⟩).attached = (v.chan ⟨sd, p⟩).attached) :
    u.fines sd = v.fines sd := by
  simp only [State.fines, h]

/-- A record brought up to the present fine volume of its side's meters (R36 to R38). -/
def State.measured (s : State) (sd : Side) (o : Sale) (c : Captured) : SaleRecord :=
  o.record.measure c.price (fineSum (s.fines sd))

/-- A side whose captured sale is brought up to date (R54). -/
def State.updated (s : State) (sd : Side) (o : Sale) (c : Captured) : SideCtl :=
  { s.side sd with
    sale := some { o with record := s.measured sd o c }
    last := ⟨c.price, (s.measured sd o c).volume, (s.measured sd o c).money, o.record.number⟩ }

theorem State.updateVolume_eq (hs : (s.side sd).sale = some o) (hc : o.cap = some c) :
    s.updateVolume sd = (s.setSide sd (s.updated sd o c)).newFigures sd := by
  simp only [State.updateVolume, State.updated, State.measured, hs, hc]
  rfl

theorem State.updateVolume_side (hs : (s.side sd).sale = some o) (hc : o.cap = some c) :
    (s.updateVolume sd).side sd = s.updated sd o c := by
  simp [State.updateVolume_eq hs hc]

/-- A counted-cycle notice to a captured sale, by the side's state (R54). -/
theorem State.noticeCycle_eq (hs : (s.side sd).sale = some o) (hc : o.cap = some c) :
    s.noticeCycle sd =
      match (s.side sd).state with
      | .flowing =>
        if c.target ≤ (s.measured sd o c).volume then
          ((s.updateVolume sd).restartNoflow sd).toEnding sd c.targetReason
        else if c.slow ≤ (s.measured sd o c).volume then ((s.updateVolume sd).restartNoflow sd).toSlow sd
        else ((s.updateVolume sd).restartNoflow sd).blendControl sd c (s.measured sd o c).volume
      | .slow =>
        if c.target ≤ (s.measured sd o c).volume then
          ((s.updateVolume sd).restartNoflow sd).toEnding sd c.targetReason
        else (s.updateVolume sd).restartNoflow sd
      | .suspended =>
        if c.target ≤ (s.measured sd o c).volume then (s.updateVolume sd).toEnding sd c.targetReason
        else s.updateVolume sd
      | _ => s.updateVolume sd := by
  have hside := State.updateVolume_side hs hc
  unfold State.noticeCycle
  simp only [hside, State.updated, hc] <;> rfl

@[simp] theorem newFigures_figures (s : State) (sd : Side) (h : (s.disp sd).state = .lit) :
    ((s.newFigures sd).disp sd).figures = true := by
  simp [State.newFigures, h]

@[simp] theorem recompose_figures (s : State) (sd : Side) : ((s.recompose sd).disp sd).figures = (s.disp sd).figures := by
  unfold State.recompose
  dsimp only
  split <;> simp

@[simp] theorem abandonZero_figures (s : State) (sd : Side) :
    ((s.abandonZero sd).disp sd).figures = (s.disp sd).figures := by
  unfold State.abandonZero
  dsimp only
  split <;> simp

@[simp] theorem putSide_figures (s : State) (sd : Side) (x : SideCtl) :
    ((s.putSide sd x).disp sd).figures = (s.disp sd).figures := by
  simp [State.putSide]

@[simp] theorem toEnding_figures (s : State) (sd : Side) (reason : EndReason) :
    ((s.toEnding sd reason).disp sd).figures = (s.disp sd).figures := by
  unfold State.toEnding
  dsimp only
  split <;> simp

@[simp] theorem blendControl_figures (s : State) (sd : Side) (c : Captured) (v : Nat) :
    ((s.blendControl sd c v).disp sd).figures = (s.disp sd).figures := by
  rw [State.blendControl_eq]
  repeat' split
  all_goals simp

/-- A counted cycle's new figures are asked for on a LIT side (R98). -/
theorem noticeCycle_figures (hs : (s.side sd).sale = some o) (hc : o.cap = some c) (hlit : (s.disp sd).state = .lit) :
    ((s.noticeCycle sd).disp sd).figures = true := by
  have hup : ((s.updateVolume sd).disp sd).figures = true := by
    rw [State.updateVolume_eq hs hc]
    exact newFigures_figures _ _ (by simpa using hlit)
  rw [State.noticeCycle_eq hs hc]
  repeat' split
  all_goals simp [State.restartNoflow, State.toSlow, hup]

@[simp] theorem toSlow_side (s : State) (sd : Side) : (s.toSlow sd).side sd = { s.side sd with
    state := .slow, valves := closeMains (s.side sd).valves, staggerT := none, throttle := .none, devRun := none } := by
  simp [State.toSlow]

@[simp] theorem restartNoflow_side (s : State) (sd : Side) : (s.restartNoflow sd).side sd = { s.side sd with
    noflowT := some (s.now + seconds s.exch.config.noflowTimeout) } := by
  simp [State.restartNoflow, State.cfg]

/-- The sale's notice of a counted cycle, in a state with the cycle in its meter's accumulator (R9). -/
def cycleAttached (s : State) (dt : Nat) (m : Meter) (ph : Phase) (a : Attachment) : State :=
  ((decodedCycle s dt m ph).addMeterTotal m (s.chan m).cf).setChan m
    { (decodedCycle s dt m ph).chan m with attached := some ⟨a.sale, satAdd64 a.fine (s.chan m).cf⟩ }

theorem cycleAttached_facts (s : State) (dt : Nat) {m : Meter} (ph : Phase) {a : Attachment}
    (ha : (s.chan m).attached = some a) :
    let u := cycleAttached s dt m ph a
    u.now = s.now + dt ∧ u.prices = s.prices ∧ u.exch.config = s.exch.config ∧ (∀ i, u.side i = s.side i) ∧
      (∀ i, u.disp i = s.disp i) ∧
      u.fines m.side =
        (s.setChan m { s.chan m with attached := some ⟨a.sale, satAdd64 a.fine (s.chan m).cf⟩ }).fines m.side ∧
      (∀ i, ((decodedCycle s dt m ph).cycleCounted m).side i = (u.noticeCycle m.side).side i) ∧
      ∀ i, ((decodedCycle s dt m ph).cycleCounted m).disp i = (u.noticeCycle m.side).disp i := by
  obtain ⟨hatt, -, hcf, -, -⟩ := decodedCycle_counts s dt m ph
  intro u
  have hcounted : (decodedCycle s dt m ph).cycleCounted m = ((u.noticeCycle m.side).periodicAdd (s.chan m).cf).setChan m
      ((((decodedCycle s dt m ph).chan m).counted (s.chan m).cf).stampCycle (decodedCycle s dt m ph).capture) := by
    simp [State.cycleCounted, State.attribute, hatt, ha, hcf, u, cycleAttached]
  refine ⟨by simp [u, cycleAttached], by simp [u, cycleAttached], by simp [u, cycleAttached],
    fun i => by simp [u, cycleAttached, decodedCycle_sides], fun i => by simp [u, cycleAttached, State.disp],
    State.fines_congr fun p => ?_, fun i => by simp [hcounted], fun i => by simp [hcounted, State.disp]⟩
  by_cases hp : (⟨m.side, p⟩ : Meter) = m
  · rw [hp]; simp [u, cycleAttached]
  · simp only [u, cycleAttached]
    rw [State.setChan_chan_ne _ _ hp, State.setChan_chan_ne _ _ hp, (State.addMeterTotal_reads _ _ _).2.1,
      decodedCycle_chan_ne _ _ _ hp]

/-- A sale that ends keeps its record but for the reason, and closes its MAIN valves (R65). -/
def SaleEnds (y : SideCtl) (t : State) (sd : Side) (reason : EndReason) : Prop :=
  (t.side sd).state = .ending ∧ (t.side sd).last = y.last ∧
    (t.side sd).sale = y.sale.map (fun o => { o with record := { o.record with reason := some reason } }) ∧
    (∀ p, ((t.side sd).valves.get p).main = false) ∧ (t.side sd).noflowT = none ∧ (t.side sd).suspendT = none ∧
    (t.side sd).staggerT = none

theorem saleEnds_toEnding {w : State} {y : SideCtl} (hlast : (w.side sd).last = y.last)
    (hsale : (w.side sd).sale = y.sale) (hsome : y.sale = some o) (reason : EndReason) :
    SaleEnds y (w.toEnding sd reason) sd reason := by
  obtain ⟨⟨⟨hstate, hsale', hmain, htimers⟩, -⟩, hlast'⟩ := w.toEnding_endsWith sd (hsale.trans hsome) reason
  exact ⟨hstate, hlast'.trans hlast, by rw [hsale', hsale], hmain, htimers⟩

/-- The side of a captured sale whose no-flow timer a counted cycle restarts (R55). -/
def State.flowing (s : State) (sd : Side) (o : Sale) (c : Captured) : SideCtl :=
  { s.updated sd o c with noflowT := some (s.now + seconds s.exch.config.noflowTimeout) }

theorem restartNoflow_updateVolume_side (hs : (s.side sd).sale = some o) (hc : o.cap = some c) :
    ((s.updateVolume sd).restartNoflow sd).side sd = s.flowing sd o c := by
  simp [State.updateVolume_side hs hc, State.flowing]

/-- The side of a captured sale after a counted cycle: at the target, past the slow point, or short of both (R54). -/
theorem noticeCycle_side (hs : (s.side sd).sale = some o) (hc : o.cap = some c) :
    let t := s.noticeCycle sd
    (((s.side sd).state.delivers = true ∨ (s.side sd).state = .suspended) → c.target ≤ (s.measured sd o c).volume →
      SaleEnds (s.updated sd o c) t sd c.targetReason) ∧
    ((s.side sd).state = .flowing → (s.measured sd o c).volume < c.target → c.slow ≤ (s.measured sd o c).volume → t.side sd = { s.flowing sd o c with
      state := .slow, valves := closeMains (s.side sd).valves, staggerT := none, throttle := .none, devRun := none }) ∧
    ((s.side sd).state = .slow → (s.measured sd o c).volume < c.target → t.side sd = s.flowing sd o c) ∧
    (((s.side sd).state = .suspended ∧ (s.measured sd o c).volume < c.target) ∨ (s.side sd).state = .starting ∨ (s.side sd).state = .ending →
      t.side sd = s.updated sd o c) ∧
    ((s.side sd).state = .flowing → (s.measured sd o c).volume < c.target → (s.measured sd o c).volume < c.slow →
      t = ((s.updateVolume sd).restartNoflow sd).blendControl sd c (s.measured sd o c).volume) := by
  intro t
  have hup := State.updateVolume_side hs hc
  have hflow := restartNoflow_updateVolume_side hs hc
  have ht := State.noticeCycle_eq hs hc
  refine ⟨fun hst hv => ?_, fun hst hv hslow => ?_, fun hst hv => ?_, fun hst => ?_, fun hst hv hslow => ?_⟩
  · have hends := fun w hl hw => saleEnds_toEnding (w := w) (y := s.updated sd o c) (sd := sd) hl hw rfl c.targetReason
    rcases hst with hst | hst
    · cases hst' : (s.side sd).state <;> simp only [hst', SideState.delivers, reduceCtorEq] at hst
      all_goals
        rw [show t = _ from ht]
        simp only [hst', if_pos hv]
        exact hends _ (by rw [hflow]; rfl) (by rw [hflow]; rfl)
    · rw [show t = _ from ht]
      simp only [hst, if_pos hv]
      exact hends _ (by rw [hup]) (by rw [hup])
  · rw [show t = _ from ht]
    simp only [hst, if_neg (Nat.not_le.mpr hv), if_pos hslow, toSlow_side, hflow]
    rfl
  · rw [show t = _ from ht]
    simp only [hst, if_neg (Nat.not_le.mpr hv), hflow]
  · rw [show t = _ from ht]
    rcases hst with ⟨hst, hv⟩ | hst | hst
    · simp only [hst, if_neg (Nat.not_le.mpr hv), hup]
    · simp only [hst, hup]
    · simp only [hst, hup]
  · rw [show t = _ from ht]
    simp only [hst, if_neg (Nat.not_le.mpr hv), if_neg (Nat.not_le.mpr hslow)]

/-- Blend control sets nothing for a pure grade, or below 100 cl (R57). -/
theorem State.blendControl_of_not {c : Captured} {v : Nat} (h : (s.compOf c).trueBlend = false ∨ v < 100) :
    s.blendControl sd c v = s := by
  rw [State.blendControl_eq, if_neg]
  rintro ⟨hb, hv⟩
  rcases h with h | h
  · simp [h] at hb
  · omega

theorem State.blendControl_of_small {c : Captured} {v : Nat} (hb : (s.compOf c).trueBlend = true) (hv : 100 ≤ v)
    (hv' : v < 500) : s.blendControl sd c v = s.setSide sd (s.blended sd c) := by
  rw [State.blendControl_eq, if_pos ⟨hb, hv⟩, if_neg (by omega)]

theorem State.blendControl_of_large {c : Captured} {v : Nat} (hb : (s.compOf c).trueBlend = true) (hv : 500 ≤ v) :
    s.blendControl sd c v = if (s.deviationNow sd c v).2 then
          (s.setSide sd { s.blended sd c with devRun := (s.deviationNow sd c v).1 }).toEnding sd .blendFault
        else s.setSide sd { s.blended sd c with devRun := (s.deviationNow sd c v).1 } := by
  rw [State.blendControl_eq, if_pos ⟨hb, by omega⟩, if_pos hv]

/-- The deviation run, by what it finds (R58). -/
theorem deviation_eq (run : Option Nat) (outside : Bool) (v : Nat) : deviation run outside v =
    if outside = true then (match run with | none => (some v, false) | some r => (some r, decide (v - r ≥ 200)))
    else (none, false) := by
  cases outside <;> cases run <;> rfl

end Sys2Proof.Machine

open Sys2Proof Sys2Proof.Machine

/-- Settles O23: the notice of the cycle to its sale, by the side's state, and blend control short of the slow point. -/
theorem countedCyclesMoveTheSale : Obligations.CountedCyclesMoveTheSale := by
  unfold Obligations.CountedCyclesMoveTheSale
  intro dt m ph s o c a hforward hback hspeed hatt hsale hcap sd x fines fine v raw r counted flows ends comp
  obtain ⟨hnow, hprices, hconfig, hsides, hdisps, hfines, hside, hdisp⟩ := cycleAttached_facts s dt ph hatt
  rw [exec_pulserEdge_of_keepsSpeed hforward hback hspeed]
  have hsale' : ((cycleAttached s dt m ph a).side sd).sale = some o := by rw [hsides]; exact hsale
  have hmeasured : (cycleAttached s dt m ph a).measured sd o c = r := by
    simp only [State.measured]
    rw [show (cycleAttached s dt m ph a).fines sd = fines from hfines]
    rfl
  have hcounted : (cycleAttached s dt m ph a).updated sd o c = counted := by
    simp only [State.updated, hmeasured, hsides]
    rfl
  have hflows : (cycleAttached s dt m ph a).flowing sd o c = flows := by
    simp only [State.flowing, hcounted, hnow, hconfig]
    rfl
  obtain ⟨hends, hslows, hslow, hstays, hblend⟩ := noticeCycle_side hsale' hcap
  simp only [hmeasured, hcounted, hflows, hsides] at hends hslows hslow hstays hblend
  have hother := State.noticeCycle_side_other (cycleAttached s dt m ph a) sd
  have hlit := noticeCycle_figures (s := cycleAttached s dt m ph a) (sd := sd) hsale' hcap
  simp only [hsides, hdisps] at hother hlit
  have hwide : ∀ reason, SaleEnds counted ((cycleAttached s dt m ph a).noticeCycle sd) sd reason →
      ends ((decodedCycle s dt m ph).cycleCounted m) reason := by
    rintro reason ⟨h1, h2, h3, h4, h5⟩
    refine ⟨by rw [hside]; exact h1, by rw [hside]; exact h2, by rw [hside]; exact h3, by rw [hside]; exact h4, ?_⟩
    rw [hside]; exact h5
  have hw : (((cycleAttached s dt m ph a).updateVolume sd).restartNoflow sd).side sd = flows := by
    rw [restartNoflow_updateVolume_side hsale' hcap, hflows]
  have hwcomp : (((cycleAttached s dt m ph a).updateVolume sd).restartNoflow sd).compOf c = comp := by
    simp [State.compOf, hprices, comp]
  have hwfines : (((cycleAttached s dt m ph a).updateVolume sd).restartNoflow sd).fines sd = fines :=
    (State.fines_congr fun p => by simp [State.chan]).trans hfines
  generalize ((cycleAttached s dt m ph a).updateVolume sd).restartNoflow sd = w at *
  refine ⟨_, rfl, by simp [lands_iff, State.cycleCounted], (hside _).trans hother, fun hl => ?_,
    fun hst hv => hwide _ (hends hst hv), fun hst hv hs => (hside _).trans (hslows hst hv hs),
    fun hst hv => (hside _).trans (hslow hst hv), fun hst hv => (hside _).trans (hstays (.inl ⟨hst, hv⟩)),
    fun hst => (hside _).trans (hstays (.inr hst)), fun hst hv hs hpure => ?_, fun h hst hv hs hc h0 h100 hv100 => ?_⟩
  · rw [hdisp]; exact hlit hl
  · rw [hside, hblend hst hv hs, State.blendControl_of_not (by rw [hwcomp]; exact hpure), hw]
  · intro share throttle blended outside
    have htrue : (w.compOf c).trueBlend = true := by rw [hwcomp, hc]; simp [Composition.trueBlend, h0, h100]
    have hshare : (w.compOf c).share = h := by rw [hwcomp, hc]; rfl
    have hthrottle : w.throttleNow sd c = throttle := by
      simp only [State.throttleNow, hwfines, hshare]
      rfl
    have hblended : w.blended sd c = blended := by
      simp only [State.blended, hthrottle, hw, hwcomp]
      rfl
    have hdev : w.deviationNow sd c v = deviation x.devRun (decide outside) v := by
      simp only [State.deviationNow, hwfines, hshare, hw]
      rfl
    have hlarge : 500 ≤ v → (w.deviationNow sd c v).2 = false → ∀ run, (w.deviationNow sd c v).1 = run →
        ((decodedCycle s dt m ph).cycleCounted m).side sd = { blended with devRun := run } := by
      rintro hv500 hend run rfl
      rw [hside, hblend hst hv hs, State.blendControl_of_large htrue hv500, hend, hblended]
      simp
    refine ⟨fun hv500 => ?_, fun hv500 hout => ?_, fun hv500 hout hrun => ?_, fun v0 hv500 hout hrun => ⟨fun hv0 => ?_,
      fun hv0 => ?_⟩⟩
    · rw [hside, hblend hst hv hs, State.blendControl_of_small htrue hv100 hv500, hblended]
      simp
    · refine hlarge hv500 ?_ _ ?_
      all_goals simp [hdev, deviation_eq, hout]
    · refine hlarge hv500 ?_ _ ?_
      all_goals simp [hdev, deviation_eq, hout, hrun]
    · refine hlarge hv500 ?_ _ ?_
      · simp only [hdev, deviation_eq, hout, hrun]
        simp; omega
      · simp [hdev, deviation_eq, hout, hrun]
    · refine hwide _ ?_
      have hend : (w.deviationNow sd c v).2 = true := by
        simp only [hdev, deviation_eq, hout, hrun]
        simp; omega
      rw [hblend hst hv hs, State.blendControl_of_large htrue hv500, hend]
      exact saleEnds_toEnding (by rw [hblended]; simp; rfl) (by rw [hblended]; simp; rfl) rfl _
end


/-! ### The link, the registers and the gathered STATUS update -/
section
namespace Sys2Proof.Machine

/-- A pending change is one that was asked for, or a posted body that differs from the present state (R182). -/
theorem statusPending_iff (s : State) : s.statusPending = true ↔
    s.exch.status ≠ some s.composeStatus ∨ s.exch.statusAsked = true := by
  simp [State.statusPending, or_comm]

theorem gatherDue_iff (s : State) : s.gatherDue = true ↔
    ∀ t0, s.exch.statusAt = some t0 → t0 + millis 100 ≤ s.now := by
  unfold State.gatherDue
  cases s.exch.statusAt <;> simp

@[simp] theorem elapse_composeStatus (s : State) (dt : Nat) : (s.elapse dt).composeStatus = s.composeStatus := rfl

theorem readBytes_elapse (s : State) (dt : Nat) (a n : Nat) : (s.elapse dt).readBytes a n = s.readBytes a n := by
  induction n generalizing a with
  | zero => rfl
  | succ n ih => simp only [State.readBytes, ih]; rfl

theorem byteMask_bit (i : Nat) : (0xFF#32).getLsbD i = decide (i < 8) := by
  rw [show (0xFF#32) = (BitVec.allOnes 8).setWidth 32 by decide]
  simp only [BitVec.getLsbD_setWidth, BitVec.getLsbD_allOnes]
  by_cases h : i < 8
  · simp [h]; omega
  · simp [h]

/-- The bits of a word with one byte replaced (R179). -/
theorem putByte_bit (w : Word32) {place : Nat} (v : Byte) {i : Nat} (hi : i < 32) :
    (putByte w place v).getLsbD i =
      if 8 * (3 - place) ≤ i ∧ i < 8 * (3 - place) + 8 then v.getLsbD (i - 8 * (3 - place)) else w.getLsbD i := by
  simp only [putByte, BitVec.getLsbD_or, BitVec.getLsbD_and, BitVec.getLsbD_not, BitVec.getLsbD_shiftLeft, byteMask_bit,
    BitVec.getLsbD_setWidth]
  by_cases h1 : i < 8 * (3 - place)
  · simp [hi, h1, Nat.not_le.mpr h1]
  · have hle := Nat.not_lt.mp h1
    have hsub : i - 8 * (3 - place) < 32 := by omega
    by_cases h2 : i < 8 * (3 - place) + 8
    · have : i - 8 * (3 - place) < 8 := by omega
      simp [hi, h1, h2, this, hle, hsub]
    · have : ¬ i - 8 * (3 - place) < 8 := by omega
      have hv : v.getLsbD (i - 8 * (3 - place)) = false := BitVec.getLsbD_of_ge v _ (by omega)
      simp [hi, h1, h2, this, hv]

theorem byte_eq_extract (w : Word32) (k : Nat) : BitVec.ofNat 8 (w.toNat / 256 ^ k) = w.extractLsb' (8 * k) 8 := by
  apply BitVec.eq_of_toNat_eq
  rw [BitVec.extractLsb'_toNat, Nat.shiftRight_eq_div_pow, BitVec.toNat_ofNat, show 256 = 2 ^ 8 by rfl, ← pow_mul]

/-- The four bytes of a word, most significant first. -/
theorem be_word (w : Word32) : be 4 w.toNat =
    [w.extractLsb' 24 8, w.extractLsb' 16 8, w.extractLsb' 8 8, w.extractLsb' 0 8] := by
  simp only [be, byte_eq_extract]

theorem putByte_extract (w : Word32) {place : Nat} (v : Byte) (hp : place < 4) {k : Nat} (hk : k < 4) :
    (putByte w place v).extractLsb' (8 * k) 8 = if k = 3 - place then v else w.extractLsb' (8 * k) 8 := by
  apply BitVec.eq_of_getLsbD_eq
  intro i hi
  rw [BitVec.getLsbD_extractLsb', putByte_bit w v (by omega)]
  split
  case isTrue h =>
    rw [if_pos (by omega)]
    simp [hi, show 8 * k + i - 8 * (3 - place) = i by omega]
  case isFalse h =>
    rw [if_neg (by omega), BitVec.getLsbD_extractLsb']

/-- A byte of the host reference is stored at its place (R179). -/
theorem be_putByte (w : Word32) {place : Nat} (v : Byte) (hp : place < 4) :
    be 4 (putByte w place v).toNat = (be 4 w.toNat).set place v := by
  have h := fun k hk => putByte_extract w v hp (k := k) hk
  have h3 := h 3 (by omega)
  have h2 := h 2 (by omega)
  have h1 := h 1 (by omega)
  have h0 := h 0 (by omega)
  simp only [Nat.mul_zero, Nat.mul_one, Nat.reduceMul] at h3 h2 h1 h0
  rw [be_word, be_word, h3, h2, h1, h0]
  interval_cases place <;> simp

/-- One byte written inside the memory is the host's write of it (R177). -/
theorem exec_writeMemory_byte {addr : BitVec 16} (h : addr.toNat < 8192) (dt : Nat) (v : Byte) (s : State) :
    exec (.writeMemory dt addr [v]) s = .next ((s.elapse dt).hostWrite addr.toNat v) := by
  simp [exec, execWriteMemory, memorySize, h, State.hostWrites]

/-- A host write into a folio by its holder and its place (R179). -/
theorem State.hostWrite_folio (s : State) {a : Nat} (h : a / 256 < 27) (v : Byte) :
    s.hostWrite a v = if (Folio.posted ⟨a / 256, h⟩ || decide ((s.header ⟨a / 256, h⟩).holder = Holder.part)) = true then
        s.setStray
      else if a % 256 < 16 then s.writeHeader ⟨a / 256, h⟩ (a % 256) v else s.storeByte a v := by
  simp only [State.hostWrite, dif_pos h]

theorem State.hostWrite_scratch (s : State) {a : Nat} (h : 6912 ≤ a) (v : Byte) : s.hostWrite a v = s.storeByte a v :=
  dif_neg (by omega)

end Sys2Proof.Machine

open Sys2Proof Sys2Proof.Machine

/-- Settles O59: the update is made exactly when a change is pending and the gathering is due. -/
theorem statusIsGathered : Obligations.StatusIsGathered := by
  unfold Obligations.StatusIsGathered
  intro dt s
  refine ⟨fun hp ht => ?_, fun h => ?_⟩
  · have he : exec (.statusUpdate dt) s = .next { (s.elapse dt).rewriteStatus with
        exch := { (s.elapse dt).rewriteStatus.exch with statusAt := some (s.now + dt) } } := by
      have hpend := (statusPending_iff (s.elapse dt)).2 hp
      have hdue := (gatherDue_iff (s.elapse dt)).2 ht
      simp [exec, execStatusUpdate, hpend, hdue]
    rw [he]
    refine ⟨_, rfl, by simp [lands_iff], rfl, rfl, rfl, rfl, ?_, fun f hf => ?_⟩
    · exact congrArg Header.count (State.setHeader_header_self _ _ _)
    · exact State.setHeader_header_ne _ _ hf
  · have hnot : ¬ ((s.elapse dt).statusPending = true ∧ (s.elapse dt).gatherDue = true) := by
      rw [statusPending_iff, gatherDue_iff]
      rintro ⟨hp, hd⟩
      rcases h with ⟨hs, ha⟩ | ⟨t0, ht0, hlt⟩
      · rcases hp with hp | hp
        · exact hp hs
        · exact absurd (ha.symm.trans hp) (by decide)
      · have := hd t0 ht0
        simp only [State.elapse_now] at this
        omega
    simp only [← Bool.and_eq_true] at hnot
    simp [exec, execStatusUpdate, hnot]

/-- Settles O58: each address and each register by its own clause of R177 to R179. -/
theorem theLinkReadsAndWrites : Obligations.TheLinkReadsAndWrites := by
  unfold Obligations.TheLinkReadsAndWrites
  refine ⟨fun dt addr n v s => ⟨fun haddr => ⟨?_, fun hscratch => ?_, fun h => ?_⟩, fun haddr => ?_⟩,
    fun dt addr v cmd s => ⟨fun bytes hb => ?_, fun haddr => ?_, fun hcmd => ?_, fun haddr => ?_, rfl, rfl, rfl⟩⟩
  · simp [exec, execReadMemory, memorySize, haddr, readBytes_elapse]
  · rw [exec_writeMemory_byte haddr, State.hostWrite_scratch _ hscratch]
    rfl
  · rw [exec_writeMemory_byte haddr, State.hostWrite_folio _ h]
    intro f
    refine ⟨fun hf => ?_, fun hpost hhost => ?_⟩
    · rw [if_pos]
      rcases hf with hf | hf
      · simp [f] at hf; simp [hf]
      · simp [f] at hf; simp [hf]
    · have hnot : ¬ (Folio.posted ⟨addr.toNat / 256, h⟩ ||
          decide (((s.elapse dt).header ⟨addr.toNat / 256, h⟩).holder = Holder.part)) = true := by
        simp [f] at hpost hhost
        simp [hpost, hhost]
      rw [if_neg hnot]
      refine ⟨fun hoff => ?_, fun hoff => ?_, fun hlow hhigh => ?_, fun hoff => ?_⟩
      · rw [if_neg (by omega)]
        rfl
      · rw [if_pos (by omega)]
        exact congrArg _ ((if_neg (by omega)).trans (if_pos hoff))
      · rw [if_pos (by omega)]
        exact ⟨_, congrArg _ (if_pos ⟨hlow, hhigh⟩), be_putByte _ v (by omega)⟩
      · rw [if_pos (by omega)]
        exact congrArg _ ((if_neg (by omega)).trans (if_neg (by omega)))
  · have hout : ¬ addr.toNat < memorySize := Nat.not_lt.mpr haddr
    exact ⟨if_neg hout, if_neg hout⟩
  · rcases hb with ⟨rfl, rfl⟩ | ⟨rfl, rfl⟩ | ⟨rfl, rfl⟩ | ⟨rfl, rfl⟩ | ⟨rfl, rfl⟩
    all_goals rfl
  · have hreg : (s.elapse dt).register? addr.toNat = none := by
      unfold State.register?
      split <;> first | omega | rfl
    simp only [exec, execReadRegister, hreg]
    rfl
  · have hknown : knownCommand cmd = false := by
      simpa [knownCommand, and_assoc] using hcmd
    simp [exec, execUnknownCommand, hknown]
  · have hstray : strayAddress addr.toNat = true := by
      rcases haddr with rfl | h
      · rfl
      · simp [strayAddress, h]
    simp [exec, execStrayRegisterWrite, hstray]
end


/-! ### Touches: stray, too long, and returned folios -/
section
namespace Sys2Proof.Machine

variable {s t u : State} {f : Folio} {ref : Word32} {dt : Nat}

theorem fresh_clear_set (w b : Word32) : (w &&& ~~~b) ||| b = w ||| b := by
  ext i
  simp only [BitVec.getElem_or, BitVec.getElem_and, BitVec.getElem_not]
  cases b[i] <;> simp

/-- A folio handed over by a state that has changed nothing of the other exchanged folios is answered (R181). -/
theorem answered_of_handOver (hcount : (u.header f).count = (s.header f).count)
    (hother : ∀ g, g ≠ f → 7 ≤ g.val → u.header g = s.header g) (r : Result) (d : Word32) :
    Answered s (u.handOver f r d) f (u.header f).ref r d := by
  refine ⟨?_, fun g hne hg => ?_, handOver_fresh u r d⟩
  · simp [(u.handOver_header f r d).1, hcount]
  · rw [(u.handOver_header f r d).2 g hne, hother g hne hg]

/-- A folio handed over by a state that differs by the folio's own header, body and fresh bit is refused (R181). -/
theorem refused_of_exch {h : Header} {m : Memory} {r : Result} {d : Word32} (hland : Lands dt [.exch] s u)
    (he : u.exch = { s.exch with
      headers := s.exch.headers.set f.val h, mem := m, fresh := s.exch.fresh &&& ~~~(1#32 <<< f.val) })
    (hcount : h.count = (s.header f).count) (href : h.ref = ref) :
    Refused dt s (u.handOver f r d) f ref r d := by
  have hself : u.header f = h := by rw [State.header, he]; exact get_set_self _ _ _
  have hother : ∀ g, g ≠ f → u.header g = s.header g := fun g hne => by
    rw [State.header, he]; exact get_set_ne _ _ hne
  refine ⟨?_, ?_, ?_⟩
  · rw [lands_iff] at hland ⊢
    simpa using hland
  · have ha := answered_of_handOver (u := u) (by rw [hself, hcount]) (fun g hne _ => hother g hne) r d
    rwa [hself, href] at ha
  · simp [State.handOver, State.setFresh, State.setHeader, he, State.header, get_set_self, fresh_clear_set]

/-- The state in which the owner of a folio finds it once the host has touched it as it stands. -/
def State.returned (s : State) (dt : Nat) (f : Folio) : State := (s.elapse dt).touched f

@[simp] theorem State.returned_frame (s : State) (dt : Nat) (f : Folio) :
    (s.returned dt f).now = s.now + dt ∧ (s.returned dt f).pfe = s.pfe ∧ (s.returned dt f).sides = s.sides ∧
      (s.returned dt f).prices = s.prices ∧ (s.returned dt f).motors = s.motors ∧
      (s.returned dt f).display = s.display ∧ (s.returned dt f).gates = s.gates ∧
      (s.returned dt f).store = s.store ∧ (s.returned dt f).journal = s.journal ∧
      (s.returned dt f).mode = s.mode ∧ (s.returned dt f).exch.ready = s.exch.ready ∧
      (s.returned dt f).pins = s.pins ∧ (s.returned dt f).pending = s.pending ∧
      (∀ i, (s.returned dt f).gate i = s.gate i) ∧ (∀ i, (s.returned dt f).records i = s.records i) := by
  simp [State.returned, State.gate, State.records]

theorem State.returned_exch (s : State) (dt : Nat) (f : Folio) : (s.returned dt f).exch = { s.exch with
    headers := s.exch.headers.set f.val { s.header f with holder := .part }
    fresh := s.exch.fresh &&& ~~~(1#32 <<< f.val) } := rfl

@[simp] theorem State.returned_header_self (s : State) (dt : Nat) (f : Folio) :
    (s.returned dt f).header f = { s.header f with holder := .part } := State.setHeader_header_self _ _ _

theorem State.returned_header_ne (s : State) (dt : Nat) {g : Folio} (h : g ≠ f) :
    (s.returned dt f).header g = s.header g := State.setHeader_header_ne _ _ h

theorem touchable_of_canTouch (h : CanTouch s f) (hf : 7 ≤ f.val) : (s.elapse dt).touchable f = true := by
  simp [State.touchable, h.1, h.2, posted_eq_false hf]

theorem touchWith_of_long (h : CanTouch s f) (hf : 7 ≤ f.val) (hlen : 240 < (s.header f).len.toNat)
    (serve : State → State) : (s.elapse dt).touchWith f serve = (s.returned dt f).refuseLength f := by
  simp [State.touchWith, touchable_of_canTouch h hf, hlen, State.returned]

theorem touchWith_of_canTouch (h : CanTouch s f) (hf : 7 ≤ f.val) (hlen : (s.header f).len.toNat ≤ 240)
    (serve : State → State) : (s.elapse dt).touchWith f serve = serve (s.returned dt f) := by
  simp [State.touchWith, touchable_of_canTouch h hf, Nat.not_lt.2 hlen, State.returned]

theorem touchWith_of_untouchable (h : s.touchable f = false) (serve : State → State) :
    s.touchWith f serve = s.setStray := by
  simp [State.touchWith, h]

theorem request_of_part {bytes : List Byte} (h : (s.header f).holder = .part) (serve : State → State) :
    s.request f ref bytes serve = s.setStray := by
  have hfill : s.hostFill f ref bytes = s := by simp [State.hostFill, h]
  rw [State.request, hfill]
  exact touchWith_of_untouchable (by simp [State.touchable, h]) serve

/-- A request whose folio the part holds is stray (R180). -/
theorem exec_of_part {c : Instr} (hc : folioOf c = some f) (h : (s.header f).holder = .part) :
    ∃ n, exec c s = .next ({ s with now := n }).setStray := by
  cases c <;> simp only [folioOf, Option.some.injEq, reduceCtorEq] at hc <;> subst hc
  case reportReturn dt sd =>
    exact ⟨_, congrArg _ (touchWith_of_untouchable (s := s.elapse dt) (by simp [State.touchable, h]) _)⟩
  all_goals exact ⟨_, congrArg _ (request_of_part (s := s.elapse _) h _)⟩

theorem exec_touch {v : Word32} (h : v.toNat % 256 = f.val) :
    exec (.touch dt v) s = .next ((s.elapse dt).touchWith f fun s => s.serveFolio f) := by
  have hlt : v.toNat % 256 < 27 := by omega
  have hf : (⟨v.toNat % 256, hlt⟩ : Folio) = f := Fin.ext h
  show execTouch dt v s = _
  simp only [execTouch, dif_pos hlt, hf]

/-- The reference of a folio handed back untaken, by the kind of folio (R181). -/
theorem answerRef_eq (hother : (∀ sd, f ≠ Folio.report sd ∧ ∀ i, f ≠ Folio.uplink sd i) → ref = (s.header f).ref)
    (hreport : ∀ sd, f = Folio.report sd → ref = ((s.records sd).inFolio.map (·.hostRef)).getD (s.header f).ref)
    (huplink : ∀ sd i, f = Folio.uplink sd i → ref = 0) : s.answerRef f = ref := by
  have report : ∀ sd, (match (s.records sd).inFolio with | some r => r.hostRef | none => (s.header f).ref) =
      ((s.records sd).inFolio.map (·.hostRef)).getD (s.header f).ref := fun sd => by
    cases (s.records sd).inFolio <;> rfl
  unfold State.answerRef
  split
  case h_1 hv => exact (report .a).trans (hreport .a (Fin.ext hv)).symm
  case h_2 hv => exact (report .b).trans (hreport .b (Fin.ext hv)).symm
  case h_3 hv => exact (huplink .a 0 (Fin.ext hv)).symm
  case h_4 hv => exact (huplink .a 1 (Fin.ext hv)).symm
  case h_5 hv => exact (huplink .b 0 (Fin.ext hv)).symm
  case h_6 hv => exact (huplink .b 1 (Fin.ext hv)).symm
  case h_7 n1 n2 n3 n4 n5 n6 =>
    refine (hother fun sd => ⟨fun hf => ?_, fun i hf => ?_⟩).symm
    · cases sd
      · exact n1 (by rw [hf]; rfl)
      · exact n2 (by rw [hf]; rfl)
    · cases sd <;> fin_cases i
      · exact n3 (by rw [hf]; rfl)
      · exact n4 (by rw [hf]; rfl)
      · exact n5 (by rw [hf]; rfl)
      · exact n6 (by rw [hf]; rfl)

/-- A touched folio whose body is too long is refused with the reference of R181. -/
theorem refused_refuseLength (href : s.answerRef f = ref) :
    Refused dt s ((s.returned dt f).refuseLength f) f ref .invalidLength 0 := by
  refine refused_of_exch (h := { s.header f with holder := .part, ref := ref }) (m := s.exch.mem)
    (by simp [lands_iff]) ?_ rfl rfl
  have hr : (s.returned dt f).answerRef f = ref := by
    rw [← href, State.answerRef, State.answerRef, State.returned_header_self]
    simp
  rw [hr, State.returned_header_self]
  simp [State.setHeader, State.returned_exch]

/-! ### Returned REPORT and UPLINK folios -/

theorem serveFolio_report (u : State) (sd : Side) : u.serveFolio (Folio.report sd) = u.reportBack sd := by
  cases sd <;> rfl

theorem serveFolio_uplink (u : State) (sd : Side) (i : Fin 2) :
    u.serveFolio (Folio.uplink sd i) = u.uplinkFlow sd := by
  cases sd <;> fin_cases i <;> rfl

/-- With no record waiting, a returned REPORT's record leaves and nothing follows it (R137). -/
theorem reportBack_of_none {sd : Side} (h : (u.records sd).unreported = []) :
    u.reportBack sd = u.setRecords sd { u.records sd with inFolio := none } := by
  simp [State.reportBack, State.reportFlow, State.reportHandOver, h]

end Sys2Proof.Machine

open Sys2Proof Sys2Proof.Machine

/-- Settles O60: a touch by the state of its folio, and the two kinds of folio that are returned. -/
theorem touchIsTaken : Obligations.TouchIsTaken := by
  unfold Obligations.TouchIsTaken
  refine fun dt v s => ⟨fun c f hc h => exec_of_part hc h, fun h => ?_, fun h => ⟨fun hstray => ?_, ?_, ?_, ?_⟩⟩
  · show execTouch dt v s = _
    simp [execTouch, Nat.not_lt.2 (show 27 ≤ v.toNat % 256 by omega)]
  · rw [exec_touch (f := ⟨v.toNat % 256, h⟩) rfl]
    refine congrArg _ (touchWith_of_untouchable ?_ _)
    simp only [State.touchable, State.elapse_frame, State.elapse_reads, Folio.posted]
    rcases hstray with hr | hp | hh
    · simp [hr]
    · simp [hp]
    · simp [hh]
  · intro ref hs hf hlen hother hreport huplink
    exact ⟨_, (exec_touch rfl).trans (congrArg _ (touchWith_of_long hs hf hlen _)),
      refused_refuseLength (answerRef_eq hother hreport huplink)⟩
  · intro sd hf hs hlen hnone
    refine ⟨_, (exec_touch rfl).trans (congrArg _ (touchWith_of_canTouch hs (by rw [hf]; exact report_ge sd) hlen _)), ?_⟩
    rw [hf, serveFolio_report, reportBack_of_none (by simpa using hnone)]
    simp [lands_iff, Held]
  · intro sd i hf
    rw [exec_touch (f := Folio.uplink sd i) (by rw [← hf])]
    simp only [serveFolio_uplink]
    rfl
end


/-! ### The hand-over of reports and of uplink frames -/
section
namespace Sys2Proof.Machine

variable {s u : State} {sd : Side} {f : Folio}

theorem State.writeBody_header_self (s : State) (f : Folio) (bytes : List Byte) :
    (s.writeBody f bytes).header f = { s.header f with len := BitVec.ofNat 8 (bytes.take 240).length } :=
  State.setHeader_header_self _ _ _

theorem State.writeBody_header_ne (s : State) {f g : Folio} (bytes : List Byte) (h : g ≠ f) :
    (s.writeBody f bytes).header g = s.header g := State.setHeader_header_ne _ _ h

/-- A folio filled by the part, given a host reference and handed over is answered with it (R136, R181). -/
theorem answered_of_fill (hcount : (u.header f).count = (s.header f).count)
    (hother : ∀ g, g ≠ f → 7 ≤ g.val → u.header g = s.header g) (bytes : List Byte) (ref : Word32) (r : Result)
    (d : Word32) : Answered s (((u.writeBody f bytes).setHeader f
      { (u.writeBody f bytes).header f with ref := ref }).handOver f r d) f ref r d := by
  have ha := answered_of_handOver (s := s) (f := f)
    (u := (u.writeBody f bytes).setHeader f { (u.writeBody f bytes).header f with ref := ref })
    (by simpa [State.writeBody_header_self] using hcount)
    (fun g hne hg => by
      rw [State.setHeader_header_ne _ _ hne, State.writeBody_header_ne _ _ hne]; exact hother g hne hg) r d
  rwa [State.setHeader_header_self] at ha

/-- The head of the unreported records follows a returned REPORT's record (R136, R137). -/
theorem reportBack_of_some {r : SaleRecord} {rest : List SaleRecord} (h : (u.records sd).unreported = r :: rest)
    (hpart : (u.header (Folio.report sd)).holder = .part) (hflow : u.reportsFlow = true) :
    let v := (u.setRecords sd { u.records sd with unreported := rest, inFolio := some r }).writeBody
      (Folio.report sd) (Config.reportBytes r)
    u.reportBack sd = (v.setHeader (Folio.report sd) { v.header (Folio.report sd) with ref := r.hostRef }).handOver
      (Folio.report sd) .done := by
  have hready : u.exch.ready = true ∧ u.mode.mode ≠ .holdup := by simpa [State.reportsFlow] using hflow
  have twice : ∀ x y : Records, (u.setRecords sd x).setRecords sd y = u.setRecords sd y := fun x y => by
    simp only [State.setRecords]; cases sd <;> rfl
  simp [State.reportBack, State.reportFlow, State.reportHandOver, State.reportsFlow, h, hpart, hready,
    State.writeBody_header_self, twice]

theorem uplinkInto_of_nil (i : Fin 2) (h : (u.gate sd).queue = []) : u.uplinkInto sd i = u := by
  simp [State.uplinkInto, h]

theorem uplinkInto_of_host {i : Fin 2} (h : (u.header (Folio.uplink sd i)).holder = .host) :
    u.uplinkInto sd i = u := by
  cases hq : (u.gate sd).queue <;> simp [State.uplinkInto, hq, h]

/-- The head of the uplink queue goes into a part-held folio (R128). -/
theorem uplinkInto_of_part {i : Fin 2} {e : UplinkEntry} {rest : List UplinkEntry}
    (hq : (u.gate sd).queue = e :: rest) (h : (u.header (Folio.uplink sd i)).holder = .part) :
    let v := (u.setGate sd { u.gate sd with queue := rest }).writeBody (Folio.uplink sd i) e.bytes
    u.uplinkInto sd i = (v.setHeader (Folio.uplink sd i) { v.header (Folio.uplink sd i) with ref := 0 }).handOver
      (Folio.uplink sd i) .done := by
  simp [State.uplinkInto, hq, h]

theorem uplink_ne (sd : Side) {i j : Fin 2} (h : j ≠ i) : Folio.uplink sd j ≠ Folio.uplink sd i := by
  revert i j; cases sd <;> decide

theorem uplinkInto_header_ne {i : Fin 2} {g : Folio} (h : g ≠ Folio.uplink sd i) :
    (u.uplinkInto sd i).header g = u.header g := by
  unfold State.uplinkInto
  dsimp only
  split
  · split
    · rw [(State.handOver_header _ _ _ _).2 g h, State.setHeader_header_ne _ _ h, State.writeBody_header_ne _ _ h]
      simp
    · rfl
  · rfl

theorem uplinkFlow_of_nil (h : (u.gate sd).queue = []) : u.uplinkFlow sd = u := by
  rw [State.uplinkFlow, uplinkInto_of_nil 0 h, uplinkInto_of_nil 1 h]

/-- With one part-held UPLINK folio the queue's flow is the filling of that one (R128). -/
theorem uplinkFlow_of_one {i : Fin 2} (h : ∀ j, j ≠ i → (u.header (Folio.uplink sd j)).holder = .host) :
    u.uplinkFlow sd = u.uplinkInto sd i := by
  rw [State.uplinkFlow]
  fin_cases i
  · refine uplinkInto_of_host ?_
    rw [uplinkInto_header_ne (uplink_ne sd (by decide))]
    exact h 1 (by decide)
  · rw [uplinkInto_of_host (h 0 (by decide))]
    rfl

theorem exec_reportReturn {dt : Nat} (h : CanTouch s (Folio.report sd))
    (hlen : (s.header (Folio.report sd)).len.toNat ≤ 240) :
    exec (.reportReturn dt sd) s = .next ((s.returned dt (Folio.report sd)).reportBack sd) :=
  congrArg _ (touchWith_of_canTouch h (report_ge sd) hlen _)

theorem exec_uplinkReturn {dt : Nat} {i : Fin 2} (h : CanTouch s (Folio.uplink sd i))
    (hlen : (s.header (Folio.uplink sd i)).len.toNat ≤ 240) :
    exec (.uplinkReturn dt sd i) s = .next ((s.returned dt (Folio.uplink sd i)).uplinkFlow sd) :=
  congrArg _ (touchWith_of_canTouch h (uplink_ge sd i) hlen _)

end Sys2Proof.Machine

open Sys2Proof Sys2Proof.Machine

/-- Settles O43: the returned folio takes the head of its list, if there is one. -/
theorem returnedFoliosTakeTheNext : Obligations.ReturnedFoliosTakeTheNext := by
  unfold Obligations.ReturnedFoliosTakeTheNext
  refine fun dt sd s => ⟨fun hs hlen => ⟨fun hnil => ?_, fun r rest hcons hmode => ?_⟩,
    fun i hs hlen => ⟨fun hnil => ?_, fun e rest hcons hhost => ?_⟩⟩
  · refine ⟨_, (exec_reportReturn hs hlen).trans (congrArg _ (reportBack_of_none (by simpa using hnil))), ?_⟩
    simp [lands_iff]
  · refine ⟨_, (exec_reportReturn hs hlen).trans (congrArg _ (reportBack_of_some (by simpa using hcons) (by simp)
      (by simp [State.reportsFlow, hs.1, hmode]))), ?_, ?_, ?_, ?_⟩
    · simp [lands_iff]
    · simp
    · simp
    · exact answered_of_fill (by simp) (fun g hne _ => by simpa using State.returned_header_ne _ _ hne) _ _ _ _
  · refine ⟨_, (exec_uplinkReturn hs hlen).trans (congrArg _ (uplinkFlow_of_nil (by simpa using hnil))), ?_⟩
    simp [lands_iff]
  · have hone : (s.returned dt (Folio.uplink sd i)).uplinkFlow sd = _ := uplinkFlow_of_one fun j hj => by
      rw [State.returned_header_ne _ _ (uplink_ne sd hj)]; exact hhost j hj
    refine ⟨_, (exec_uplinkReturn hs hlen).trans (congrArg _ (hone.trans
      (uplinkInto_of_part (by simpa using hcons) (by simp)))), ?_, ?_, ?_, ?_⟩
    · simp [lands_iff]
    · simp
    · simp
    · exact answered_of_fill (by simp) (fun g hne _ => by simpa using State.returned_header_ne _ _ hne) _ _ _ _
end


/-! ### Nozzles and the side timers -/
section
namespace Sys2Proof.Machine

variable {s u : State} {dt : Nat} {sd : Side} {n : Fin 4}

/-- The state once a nozzle switch has moved: its pin and the side's input follow (R44). -/
def State.heard (s : State) (dt : Nat) (sd : Side) (n : Fin 4) (up : Bool) : State :=
  ((s.elapse dt).pinNozzle sd n up).setNozzle sd n up

@[simp] theorem State.heard_frame (s : State) (dt : Nat) (sd : Side) (n : Fin 4) (up : Bool) :
    (s.heard dt sd n up).now = s.now + dt ∧ (s.heard dt sd n up).pfe = s.pfe ∧
      (s.heard dt sd n up).prices = s.prices ∧ (s.heard dt sd n up).motors = s.motors ∧
      (s.heard dt sd n up).display = s.display ∧ (s.heard dt sd n up).gates = s.gates ∧
      (s.heard dt sd n up).store = s.store ∧ (s.heard dt sd n up).journal = s.journal ∧
      (s.heard dt sd n up).mode = s.mode ∧ (s.heard dt sd n up).exch = s.exch ∧
      (s.heard dt sd n up).pending = s.pending := by
  simp [State.heard, State.pinNozzle, State.setNozzle]

@[simp] theorem State.heard_side (s : State) (dt : Nat) (sd : Side) (n : Fin 4) (up : Bool) :
    (s.heard dt sd n up).side sd = { s.side sd with nozzles := (s.side sd).nozzles.set n.val up } ∧
      (s.heard dt sd n up).side sd.other = s.side sd.other := by
  simp only [State.heard, State.setNozzle, State.setSide_side_self, State.setSide_side_other]
  exact ⟨rfl, rfl⟩

theorem exec_nozzleLift (h : s.dormant = false) :
    exec (.nozzleLift dt sd n) s = .next ((s.heard dt sd n true).lift sd) := by
  have hd : ((s.elapse dt).pinNozzle sd n true).dormant = false := h
  simp only [exec, execNozzleLift, hd]
  rfl

theorem exec_nozzleHang (h : s.dormant = false) :
    exec (.nozzleHang dt sd n) s = .next ((s.heard dt sd n false).hang sd n) := by
  have hd : ((s.elapse dt).pinNozzle sd n false).dormant = false := h
  simp only [exec, execNozzleHang, hd]
  rfl

theorem lift_of_idle (h : (u.side sd).state = .idle) :
    u.lift sd = if u.mode.mode = .openMode then u.putSide sd { u.side sd with state := .calling } else u := by
  simp [State.lift, h]

theorem hang_of_calling (h : (u.side sd).state = .calling) (hdown : (u.side sd).nozzles.toList.any id = false) :
    u.hang sd n = u.putSide sd { u.side sd with state := .idle } := by
  simp only [State.hang, h, SideCtl.anyLifted, hdown]
  rfl

/-- A hang of the sale's nozzle while it flows, is slow or is suspended ends it (R56, R60). -/
theorem hang_of_sale {o : Sale} {c : Captured} (ho : (u.side sd).sale = some o) (hc : o.cap = some c)
    (h : (u.side sd).state = .flowing ∨ (u.side sd).state = .slow ∨ (u.side sd).state = .suspended) :
    u.hang sd c.nozzle = u.toEnding sd .nozzle := by
  have hown : (u.side sd).saleNozzle c.nozzle = true := by simp [SideCtl.saleNozzle, ho, hc]
  rcases h with h | h | h <;> simp [State.hang, h, hown]

/-- EndsWith looks at the two sides alone, and of the side that ends at its sale. -/
theorem endsWith_of_sale {reason : EndReason} {o : Sale} (hsale : (u.side sd).sale = some o)
    (ho : (s.side sd).sale = some o) (hother : u.side sd.other = s.side sd.other) :
    EndsWith s (u.toEnding sd reason) sd reason := by
  obtain ⟨⟨hgoes, hsame⟩, -⟩ := u.toEnding_endsWith sd hsale reason
  rw [GoesToEnding, hsale, ← ho] at hgoes
  exact ⟨hgoes, hsame.trans hother⟩

theorem toEnding_lands {reason : EndReason} :
    Lands dt [.sides, .display, .journal, .exch] s ((s.elapse dt).toEnding sd reason) := by
  simp [lands_iff]

theorem due_of_le {t : Timer} {now d : Nat} (ht : t = some d) (hd : d ≤ now) : t.due now = true := by
  simp [Timer.due, ht, hd]

theorem exec_valveStagger {o : Sale} {c : Captured} {d : Nat} (h : (s.side sd).state = .flowing)
    (ho : (s.side sd).sale = some o) (hc : o.cap = some c) (ht : (s.side sd).staggerT = some d)
    (hd : d ≤ s.now + dt) :
    exec (.valveStagger dt sd) s = .next ((s.elapse dt).setSide sd { s.side sd with
      staggerT := none
      valves := valvesFor (s.prices.grades.get c.grade).comp
        (mainAllowed (s.prices.grades.get c.grade).comp (s.side sd).throttle) }) := by
  have hdue : (s.side sd).staggerT.due (s.now + dt) = true := due_of_le ht hd
  simp [exec, execValveStagger, h, hdue, State.openMains, State.saleComp, ho, hc, State.compOf]

theorem closeSlows_any (v : PerProduct Valve) : anySlow (closeSlows v) = false := by
  simp [anySlow, closeSlows, PerProduct.map]

theorem exec_slowValveClose {d : Nat} (ht : (s.side sd).slowClose = some d) (hd : d ≤ s.now + dt) :
    exec (.slowValveClose dt sd) s = .next ((s.elapse dt).setSide sd { s.side sd with
      slowClose := none
      valves := closeSlows (s.side sd).valves
      settleT := if (s.side sd).state = .ending then some (s.now + dt + seconds s.exch.config.settleTime)
        else (s.side sd).settleT }) := by
  have hdue : (s.side sd).slowClose.due (s.now + dt) = true := due_of_le ht hd
  simp only [exec, execSlowValveClose, State.elapse_reads, State.elapse_now, hdue, if_true, State.slowsClose,
    State.startSettle, closeSlows_any, Bool.false_eq_true, if_false, State.cfg, State.elapse_frame]
  split <;> rfl

end Sys2Proof.Machine

open Sys2Proof Sys2Proof.Machine

/-- Settles O18: the nozzle switches and the side's timers, by its state. -/
theorem sidesFollowNozzlesAndTimers : Obligations.SidesFollowNozzlesAndTimers := by
  unfold Obligations.SidesFollowNozzlesAndTimers
  refine ⟨fun dt sd n s hdormant => ⟨fun h hmode => ?_, fun h hmode => ?_, fun h hdown => ?_⟩,
    fun dt sd s o c ho hc => ⟨fun hdormant h => ?_, fun d h ht hd => ?_, fun d h ht hd => ?_⟩,
    fun dt sd s => ⟨fun o c d h ho hc ht hd => ?_, fun d ht hd => ?_⟩⟩
  · refine ⟨_, (exec_nozzleLift hdormant).trans (congrArg _ (lift_of_idle (by simp [h]))), ?_⟩
    simp [lands_iff, hmode]
  · refine ⟨_, (exec_nozzleLift hdormant).trans (congrArg _ (lift_of_idle (by simp [h]))), ?_⟩
    simp [lands_iff, hmode]
  · refine ⟨_, (exec_nozzleHang hdormant).trans (congrArg _ (hang_of_calling (by simp [h]) (by simpa using hdown))), ?_⟩
    simp [lands_iff]
  · refine ⟨_, (exec_nozzleHang hdormant).trans (congrArg _ (hang_of_sale (o := o) (by simp [ho]) hc (by simp [h]))),
      ?_, endsWith_of_sale (o := o) (by simp [ho]) ho (by simp)⟩
    simp [lands_iff]
  · have hdue : (s.side sd).noflowT.due (s.now + dt) = true := due_of_le ht hd
    exact ⟨_, by simp [exec, execNoflowTimeout, h, hdue], toEnding_lands, endsWith_of_sale ho ho rfl⟩
  · have hdue : (s.side sd).suspendT.due (s.now + dt) = true := due_of_le ht hd
    exact ⟨_, by simp [exec, execSuspendTimeout, h, hdue], toEnding_lands, endsWith_of_sale ho ho rfl⟩
  · refine ⟨_, exec_valveStagger h ho hc ht hd, ?_⟩
    simp [lands_iff]
  · refine ⟨_, exec_slowValveClose ht hd, ?_⟩
    simp [lands_iff]
end


/-! ### What the motors tell the sides and the Mode Controller -/
section
namespace Sys2Proof.Machine

variable {s t u : State} {sd : Side} {p : Product}

/-- Of the sides only the motors that a side in STARTING still awaits have changed (R78). -/
def SidesHear (s t : State) : Prop :=
  ∀ sd, (∃ n, t.side sd = { s.side sd with needMotors := n }) ∧
    ((s.side sd).state ≠ .starting → t.side sd = s.side sd)

namespace SidesHear

theorem of_eq (h : t.sides = s.sides) : SidesHear s t := fun sd => by
  have hs : t.side sd = s.side sd := congrArg (Both.get · sd) h
  exact ⟨⟨(s.side sd).needMotors, hs⟩, fun _ => hs⟩

theorem state (h : SidesHear s t) (sd : Side) : (t.side sd).state = (s.side sd).state := by
  obtain ⟨n, hn⟩ := (h sd).1
  rw [hn]

theorem trans (h : SidesHear s t) (k : SidesHear t u) : SidesHear s u := fun sd => by
  obtain ⟨n, hn⟩ := (h sd).1
  obtain ⟨m, hm⟩ := (k sd).1
  refine ⟨⟨m, by rw [hm, hn]⟩, fun hst => ?_⟩
  rw [(k sd).2 (by rwa [h.state]), (h sd).2 hst]

end SidesHear

/-- What the motors' moves do to the sides and to the Mode Controller (R78): the sides hear of their motors, and with PRIME not
the present stage the Mode Controller stands. -/
structure MotorsTell (s t : State) : Prop where
  hears : SidesHear s t
  mode : s.mode.stage ≠ some .prime → t.mode = s.mode

namespace MotorsTell

theorem of_eq (h : t.sides = s.sides) (hm : t.mode = s.mode) : MotorsTell s t := ⟨.of_eq h, fun _ => hm⟩

theorem trans (h : MotorsTell s t) (k : MotorsTell t u) : MotorsTell s u :=
  ⟨h.hears.trans k.hears, fun hst => by
    have ht := h.mode hst
    rw [k.mode (by rwa [ht]), ht]⟩

theorem ite {c : Prop} [Decidable c] (ht : MotorsTell s t) (hu : MotorsTell s u) :
    MotorsTell s (if c then t else u) := by
  split <;> assumption

theorem postStatus (h : MotorsTell s t) : MotorsTell s t.postStatus := h.trans (.of_eq (by simp) (by simp))

theorem reportRunning (s : State) (u : User) (p : Product) : MotorsTell s (s.reportRunning u p) := by
  unfold State.reportRunning
  cases u with
  | side sd =>
    dsimp only
    split
    case isTrue hst =>
      refine ⟨fun sd' => ?_, fun _ => by simp⟩
      by_cases h : sd' = sd
      · subst h
        exact ⟨⟨_, State.setSide_side_self _ _ _⟩, fun hne => absurd hst hne⟩
      · rw [State.setSide_side_ne _ _ h]
        exact ⟨⟨_, rfl⟩, fun _ => rfl⟩
    case isFalse => exact .of_eq rfl rfl
  | prime =>
    dsimp only
    split
    case isTrue hst => exact ⟨.of_eq rfl, fun hne => absurd hst hne⟩
    case isFalse => exact .of_eq rfl rfl

theorem reportAll (s : State) (u : Users) (p : Product) : MotorsTell s (s.reportAll u p) := by
  unfold State.reportAll
  dsimp only
  have one : ∀ (v : State) (b : Bool) (w : User), MotorsTell v (if b then v.reportRunning w p else v) := fun v b w =>
    .ite (.reportRunning v w p) (.of_eq rfl rfl)
  exact ((one s u.a _).trans (one _ u.b _)).trans (one _ u.prime _)

theorem confirmStart (s : State) (p : Product) : MotorsTell s (s.confirmStart p) := by
  unfold State.confirmStart
  dsimp only
  split
  · exact postStatus ((of_eq (by simp) (by simp)).trans (.reportAll _ _ p))
  · exact .of_eq (by simp) (by simp)

theorem grant (s : State) (p : Product) (rest : List Product) : MotorsTell s (s.grant p rest) := by
  unfold State.grant
  dsimp only
  split
  · exact (of_eq (by simp) (by simp)).trans (.confirmStart _ p)
  · exact .of_eq (by simp) (by simp)

theorem arbiterTest (s : State) : MotorsTell s s.arbiterTest := by
  unfold State.arbiterTest
  split
  · exact .of_eq rfl rfl
  · exact .ite (.grant s _ _) (.of_eq rfl rfl)

theorem newHeadTest (s : State) (o : Option Product) : MotorsTell s (s.newHeadTest o) :=
  .ite (.of_eq rfl rfl) (.arbiterTest s)

theorem joinFifo (s : State) (p : Product) : MotorsTell s (s.joinFifo p) := by
  unfold State.joinFifo
  dsimp only
  refine (of_eq ?_ ?_).trans (.arbiterTest _)
  · split <;> simp
  · split <;> simp

theorem register (s : State) (u : User) (p : Product) : MotorsTell s (s.register u p) := by
  unfold State.register
  dsimp only
  split
  · exact (of_eq (by simp) (by simp)).trans (.joinFifo _ p)
  · exact postStatus ((of_eq (by simp) (by simp)).trans (.reportRunning _ u p))
  · exact (of_eq (by simp) (by simp)).trans (.reportRunning _ u p)
  all_goals exact .of_eq (by simp) (by simp)

theorem release (s : State) (u : User) (p : Product) : MotorsTell s (s.release u p) := by
  unfold State.release
  dsimp only
  repeat' split
  all_goals exact .of_eq (by simp [State.dropFifo]) (by simp [State.dropFifo])

theorem releaseAll (s : State) (u : User) : MotorsTell s (s.releaseAll u) :=
  (((release s u .low).trans (release _ u .high)).trans (release _ u .aux)).trans (.newHeadTest _ _)

theorem registerSide (s : State) (sd : Side) (c : Composition) : MotorsTell s (s.registerSide sd c) := by
  have one : ∀ (v : State) (p : Product), MotorsTell v (if c.uses p then v.register (.side sd) p else v) := fun v p =>
    .ite (.register v _ p) (.of_eq rfl rfl)
  exact ((one s .low).trans (one _ .high)).trans (one _ .aux)

theorem stopMotor (s : State) (p : Product) : MotorsTell s (s.stopMotor p) := by
  unfold State.stopMotor
  dsimp only
  split
  · exact (of_eq (by simp [State.dropFifo]) (by simp [State.dropFifo])).trans (.newHeadTest _ _)
  · exact (of_eq (by simp) (by simp)).trans (.arbiterTest _)
  all_goals exact .of_eq (by simp) (by simp)

end MotorsTell

/-! ### What completes a sale -/

theorem startingTest_of_not (h : (s.side sd).startReady = false) : s.startingTest sd = s := by
  simp [State.startingTest, h]

theorem startReady_of_state (h : (s.side sd).state ≠ .starting) : (s.side sd).startReady = false := by
  simp [SideCtl.startReady, h]

/-- The test of one side's STARTING leaves the other side. -/
@[simp] theorem State.startingTest_side_other (s : State) (sd : Side) :
    (s.startingTest sd).side sd.other = s.side sd.other := by
  unfold State.startingTest State.enterSlow State.enterFlowing
  dsimp only
  repeat' split
  all_goals simp

theorem Side.other_other (sd : Side) : sd.other.other = sd := by cases sd <;> rfl

theorem Side.eq_or_other (sd x : Side) : x = sd ∨ x = sd.other := by cases sd <;> cases x <;> simp [Side.other]

/-- Both sides' STARTING is tested; a side that is not in it stands. -/
theorem bothStarting_side (h : (s.side sd).state ≠ .starting) :
    (s.bothSides State.startingTest).side sd = s.side sd := by
  have hself : s.startingTest sd = s := startingTest_of_not (startReady_of_state h)
  unfold State.bothSides
  cases sd with
  | a =>
    rw [hself]
    exact State.startingTest_side_other s .b
  | b =>
    have hother : (s.startingTest .a).side .b = s.side .b := State.startingTest_side_other s .a
    rw [startingTest_of_not (startReady_of_state (by rwa [hother])), hother]

theorem bothStarting_of_not (h : ∀ sd, (s.side sd).startReady = false) : s.bothSides State.startingTest = s := by
  rw [State.bothSides, startingTest_of_not (h .a), startingTest_of_not (h .b)]

theorem swapTest_of_not_due (h : s.prices.swapDue = false) : s.swapTest = s := by
  simp [State.swapTest, h]

theorem drainReport_of_not (h : s.mode.stage ≠ some .drain) : s.drainReport sd = s := by
  simp [State.drainReport, h]

@[simp] theorem State.countRecord_records (s : State) (r : SaleRecord) :
    (s.countRecord r).store.records = s.store.records ∧ (s.countRecord r).store.counter = s.store.counter := by
  unfold State.countRecord State.addGradeTotals
  dsimp only
  repeat' split
  all_goals simp [State.setTotals]

/-- A request for a snapshot may mark pending records, and moves none (R135, R150). -/
@[simp] theorem State.requestSnapshot_records (s : State) (sd : Side) :
    (s.requestSnapshot.records sd).pending.map (·.record) = (s.records sd).pending.map (·.record) ∧
      (s.requestSnapshot.records sd).unreported = (s.records sd).unreported ∧
      (s.requestSnapshot.records sd).inFolio = (s.records sd).inFolio := by
  have hmark : s.beginWrite.records sd = (s.records sd).mark := by cases sd <;> rfl
  unfold State.requestSnapshot
  repeat' split
  case h_1.isFalse => simp [hmark, Records.mark, Function.comp_def]
  all_goals exact ⟨rfl, rfl, rfl⟩

/-- What a sale's record is once the Sale Store has taken it: pending, last of its side's (R134). -/
theorem State.takeRecord_records (s : State) (r : SaleRecord) (sd : Side) :
    ((s.takeRecord r).records sd).pending.map (·.record) =
        (s.records sd).pending.map (·.record) ++ (if sd = r.side then [r] else []) ∧
      ((s.takeRecord r).records sd).unreported = (s.records sd).unreported ∧
      ((s.takeRecord r).records sd).inFolio = (s.records sd).inFolio := by
  have hcount : ∀ v : State, (v.countRecord r).records sd = v.records sd := fun v =>
    congrArg (Both.get · sd) (State.countRecord_records v r).1
  simp only [State.takeRecord, State.requestSnapshot_records, hcount]
  by_cases h : sd = r.side
  · subst h; simp
  · simp [State.setRecords_records_ne _ _ h, h]

/-- The totals and watches follow a taken record (R134, R140). -/
theorem State.takeRecord_totals (s : State) (r : SaleRecord) :
    ∃ v : State, v.store.totals = s.store.totals ∧ v.store.watches = s.store.watches ∧
      (s.takeRecord r).store.totals = (v.countRecord r).store.totals ∧
      (s.takeRecord r).store.watches = (v.countRecord r).store.watches :=
  ⟨s.setRecords r.side { s.records r.side with pending := (s.records r.side).pending ++ [⟨r, false⟩] }, rfl, rfl,
    (State.requestSnapshot_store _).1, (State.requestSnapshot_store _).2.2⟩

/-- A side from which a sale with the completed record `r` leaves, in the state it then enters (R66 to R69). -/
def SideCtl.completing (x : SideCtl) (o : Sale) (r : SaleRecord) (st : SideState) : SideCtl :=
  { SideCtl.cleared { x with last := x.last.after o r } st (x.noPumpEnd || decide (r.reason = some .noPump)) with
    endedNozzle := if st = .ended then o.cap.map (·.nozzle) else none }

/-- A side whose sale has completed with the record `r`: it shows NO PUMP unless it is IDLE (R69). -/
def SideCtl.completed (x : SideCtl) (o : Sale) (r : SaleRecord) (st : SideState) : SideCtl :=
  { x.completing o r st with
    noPumpEnd := (x.noPumpEnd || decide (r.reason = some .noPump)) && decide (st ≠ .idle) }

@[simp] theorem SideCtl.completed_frame (x : SideCtl) (o : Sale) (r : SaleRecord) (st : SideState) :
    (x.completed o r st).state = st ∧ (x.completed o r st).sale = none ∧
      (x.completed o r st).valves = PerProduct.same Valve.closed ∧ (x.completed o r st).authT = none ∧
      (x.completed o r st).nozzles = x.nozzles ∧
      (x.completed o r st).noPumpEnd = ((x.noPumpEnd || decide (r.reason = some .noPump)) && decide (st ≠ .idle)) :=
  ⟨rfl, rfl, rfl, rfl, rfl, rfl⟩

/-- What a side still awaits of its motors is no part of what it leaves. -/
theorem SideCtl.completing_needMotors (x : SideCtl) (n : PerProduct Bool) (o : Sale) (r : SaleRecord) (st : SideState) :
    SideCtl.completing { x with needMotors := n } o r st = x.completing o r st := rfl

theorem SideCtl.nextAfter_needMotors (x : SideCtl) (n : PerProduct Bool) (o : Sale) (m : Mode) :
    SideCtl.nextAfter { x with needMotors := n } o m = x.nextAfter o m := rfl

/-- The state in which a completing sale leaves its side: its meters detached, its registrations released (R67, R68). -/
def State.leaving (s : State) (sd : Side) (o : Sale) : State :=
  ((if o.cap.isSome then s.detachMeters sd else s).releaseAll (.side sd)).abandonZero sd

theorem State.leaving_tells (s : State) (sd : Side) (o : Sale) : MotorsTell s (s.leaving sd o) := by
  have abandon : ∀ {v : State}, MotorsTell s v → MotorsTell s (v.abandonZero sd) := fun h =>
    h.trans (.of_eq (by simp) (by simp))
  have hd : MotorsTell s (if o.cap.isSome then s.detachMeters sd else s) :=
    .ite (.of_eq (by simp) (by simp)) (.of_eq rfl rfl)
  exact abandon (hd.trans (.releaseAll _ _))

@[simp] theorem State.leaving_frame (s : State) (sd : Side) (o : Sale) :
    (s.leaving sd o).now = s.now ∧ (s.leaving sd o).prices = s.prices ∧ (s.leaving sd o).gates = s.gates ∧
      (s.leaving sd o).store = s.store ∧ (s.leaving sd o).journal = s.journal ∧ (s.leaving sd o).pins = s.pins ∧
      (s.leaving sd o).mode.mode = s.mode.mode ∧ (s.leaving sd o).exch.config = s.exch.config := by
  unfold State.leaving
  split <;> simp

variable {o : Sale}

/-- A completing sale in three steps: it leaves its motors and meters, the record is taken, and the side enters its next
state (R67, R68). -/
theorem State.completeSale_eq (ho : (s.side sd).sale = some o) (reason : Option EndReason) :
    s.completeSale sd reason =
      (((s.leaving sd o).setSide sd ((s.side sd).completing o (s.finalRecord sd o reason)
          ((s.side sd).nextAfter o s.mode.mode))).takeRecord (s.finalRecord sd o reason)).putSide sd
        ((s.side sd).completing o (s.finalRecord sd o reason) ((s.side sd).nextAfter o s.mode.mode)) := by
  obtain ⟨n, hn⟩ := ((s.leaving_tells sd o).hears sd).1
  have hclose : s.completeSale sd reason =
      (((s.leaving sd o).setSide sd (((s.leaving sd o).side sd).completing o (s.finalRecord sd o reason)
          (((s.leaving sd o).side sd).nextAfter o s.mode.mode))).takeRecord (s.finalRecord sd o reason)).putSide sd
        (((s.leaving sd o).side sd).completing o (s.finalRecord sd o reason)
          (((s.leaving sd o).side sd).nextAfter o s.mode.mode)) := by
    simp only [State.completeSale, State.closeSale, ho, if_true]
    rfl
  rw [hclose, hn, SideCtl.completing_needMotors, SideCtl.nextAfter_needMotors]

end Sys2Proof.Machine
end


/-! ### A completed sale -/
section
namespace Sys2Proof.Machine

variable {s : State} {sd : Side} {o : Sale}

@[simp] theorem State.finalRecord_frame (s : State) (sd : Side) (o : Sale) (reason : Option EndReason) :
    (s.finalRecord sd o reason).side = o.record.side ∧ (s.finalRecord sd o reason).number = o.record.number ∧
      (s.finalRecord sd o reason).endClock = some s.mode.clock ∧
      (s.finalRecord sd o reason).reason = (reason.or o.record.reason) := by
  unfold State.finalRecord Sale.final SaleRecord.measure
  cases o.cap <;> cases reason <;> simp

/-- The record of a sale that has not captured takes its reason and the clock (R68). -/
theorem finalRecord_of_uncaptured (hc : o.cap = none) (reason : EndReason) :
    s.finalRecord sd o (some reason) =
      { o.record with reason := some reason, endClock := some s.mode.clock } := by
  simp [State.finalRecord, Sale.final, hc]

theorem nextAfter_ne_starting (x : SideCtl) (o : Sale) (m : Mode) : x.nextAfter o m ≠ .starting := by
  unfold SideCtl.nextAfter
  dsimp only
  repeat' split
  all_goals simp

/-- The state after an uncaptured sale: CALLING with a nozzle lifted in OPEN, else IDLE (R67). -/
theorem nextAfter_of_uncaptured (x : SideCtl) (m : Mode) (hc : o.cap = none) : x.nextAfter o m =
    if x.nozzles.toList.any id ∧ m = .openMode then .calling else .idle := by
  simp [SideCtl.nextAfter, hc, SideCtl.anyLifted]

@[simp] theorem State.detachMeters_reads (s : State) (sd x : Side) :
    (s.detachMeters sd).side x = s.side x ∧ (s.detachMeters sd).records x = s.records x := by
  simp [State.side, State.records]

theorem completeSale_side (ho : (s.side sd).sale = some o) (reason : Option EndReason) :
    (s.completeSale sd reason).side sd = (s.side sd).completed o (s.finalRecord sd o reason)
      ((s.side sd).nextAfter o s.mode.mode) := by
  rw [State.completeSale_eq ho, State.putSide_side_self]
  rfl

/-- The other side hears of the motors that the completed sale has released (R77, R78). -/
theorem completeSale_side_other (ho : (s.side sd).sale = some o) (reason : Option EndReason) :
    (s.completeSale sd reason).side sd.other = (s.leaving sd o).side sd.other := by
  rw [State.completeSale_eq ho, State.putSide_side_other]
  simp [State.side, State.setSide]

theorem completeSale_mode (ho : (s.side sd).sale = some o) (reason : Option EndReason)
    (h : s.mode.stage ≠ some .prime) : (s.completeSale sd reason).mode = s.mode := by
  rw [State.completeSale_eq ho]
  simp [(s.leaving_tells sd o).mode h]

/-- The Sale Store takes the completed record (R134). -/
theorem completeSale_store (ho : (s.side sd).sale = some o) (reason : Option EndReason) :
    ∃ u : State, u.store = s.store ∧
      (s.completeSale sd reason).store = (u.takeRecord (s.finalRecord sd o reason)).store := by
  rw [State.completeSale_eq ho]
  exact ⟨_, by simp, (State.putSide_frame _ _ _).2.2.2.2.2.1⟩

theorem completeSale_records (ho : (s.side sd).sale = some o) (hside : o.record.side = sd) (reason : Option EndReason)
    (x : Side) : ((s.completeSale sd reason).records x).pending.map (·.record) =
        (s.records x).pending.map (·.record) ++ (if x = sd then [s.finalRecord sd o reason] else []) ∧
      ((s.completeSale sd reason).records x).unreported = (s.records x).unreported ∧
      ((s.completeSale sd reason).records x).inFolio = (s.records x).inFolio := by
  obtain ⟨u, hu, hstore⟩ := completeSale_store ho reason
  have hrec : (s.completeSale sd reason).records x = (u.takeRecord (s.finalRecord sd o reason)).records x :=
    congrArg (fun q => q.records.get x) hstore
  have hsame : u.records x = s.records x := congrArg (fun q => q.records.get x) hu
  have htake := u.takeRecord_records (s.finalRecord sd o reason) x
  rw [hsame, (s.finalRecord_frame sd o reason).1, hside] at htake
  rwa [hrec]

/-- What follows a completion that lets no swap through: the sides' STARTING and the DRAIN stage (R52, R71). -/
theorem finishSale_eq (reason : Option EndReason)
    (hswap : (s.side sd).state.blocksSwap = false ∨ s.prices.swapDue = false) :
    s.finishSale sd reason = ((s.completeSale sd reason).bothSides State.startingTest).drainReport sd := by
  have hnone : (if (s.side sd).state.blocksSwap then (s.completeSale sd reason).swapTest
      else s.completeSale sd reason) = s.completeSale sd reason := by
    split
    case isTrue hb =>
      exact swapTest_of_not_due (by rcases hswap with h | h <;> simp_all)
    case isFalse => rfl
  simp only [State.finishSale, hnone]

/-- The DRAIN stage and what follows it touch a side by the motors it awaits alone (R78, R172). -/
theorem drainReport_hears (s : State) (sd : Side) : SidesHear s (s.drainReport sd) := by
  have off : ∀ u : State, SidesHear u u.motorsOffStage := fun u =>
    have hstage : SidesHear u (u.toStage .motorsOff) := .of_eq (by simp)
    have hstop := (MotorsTell.stopMotor (u.toStage .motorsOff) .low).hears
    (hstage.trans hstop).trans (.of_eq (State.setMode_frame _ _).2.2.1)
  have readers : ∀ u : State, SidesHear u u.readersOffStage := fun u =>
    have hgates : SidesHear u (((u.toStage .readersOff).gateClaim .a).gateClaim .b) := .of_eq (by simp)
    hgates.trans (off _)
  have test : ∀ u : State, SidesHear u u.drainTest := fun u => by
    unfold State.drainTest
    split
    · exact (show SidesHear u _ from .of_eq (by simp)).trans (readers (u.setMode { u.mode with graceT := none }))
    · exact .of_eq rfl
  unfold State.drainReport
  split
  · exact (show SidesHear s _ from .of_eq (by simp)).trans
      (test (s.setMode { s.mode with drainAwait := s.mode.drainAwait.set sd false }))
  · exact .of_eq rfl

@[simp] theorem State.bothStarting_frame (s : State) :
    (s.bothSides State.startingTest).now = s.now ∧ (s.bothSides State.startingTest).pfe = s.pfe ∧
      (s.bothSides State.startingTest).prices = s.prices ∧ (s.bothSides State.startingTest).motors = s.motors ∧
      (s.bothSides State.startingTest).gates = s.gates ∧ (s.bothSides State.startingTest).store = s.store ∧
      (s.bothSides State.startingTest).mode = s.mode ∧ (s.bothSides State.startingTest).pins = s.pins ∧
      (s.bothSides State.startingTest).exch.owned = s.exch.owned := by
  simp [State.bothSides]

/-- A sale that completes leaves its side, and its record joins the pending ones (R66 to R68). -/
theorem finishSale_side (ho : (s.side sd).sale = some o) (reason : Option EndReason)
    (hswap : (s.side sd).state.blocksSwap = false ∨ s.prices.swapDue = false) :
    (s.finishSale sd reason).side sd = (s.side sd).completed o (s.finalRecord sd o reason)
      ((s.side sd).nextAfter o s.mode.mode) := by
  have hc := completeSale_side ho reason
  have hns : ((s.completeSale sd reason).side sd).state ≠ .starting := by
    rw [hc]; exact nextAfter_ne_starting _ _ _
  have hb := bothStarting_side hns
  rw [finishSale_eq reason hswap, ((drainReport_hears _ sd) sd).2 (by rwa [hb]), hb, hc]

theorem finishSale_store (reason : Option EndReason)
    (hswap : (s.side sd).state.blocksSwap = false ∨ s.prices.swapDue = false) :
    (s.finishSale sd reason).store = (s.completeSale sd reason).store ∧
      (s.finishSale sd reason).prices = s.prices := by
  rw [finishSale_eq reason hswap]
  simp

theorem finishSale_records (ho : (s.side sd).sale = some o) (hside : o.record.side = sd) (reason : Option EndReason)
    (hswap : (s.side sd).state.blocksSwap = false ∨ s.prices.swapDue = false) (x : Side) :
    ((s.finishSale sd reason).records x).pending.map (·.record) =
        (s.records x).pending.map (·.record) ++ (if x = sd then [s.finalRecord sd o reason] else []) ∧
      ((s.finishSale sd reason).records x).unreported = (s.records x).unreported ∧
      ((s.finishSale sd reason).records x).inFolio = (s.records x).inFolio := by
  have hrec : (s.finishSale sd reason).records x = (s.completeSale sd reason).records x :=
    congrArg (fun q => q.records.get x) (finishSale_store reason hswap).1
  rw [hrec]
  exact completeSale_records ho hside reason x

/-- Outside DRAIN and PRIME a completion leaves the Mode Controller, and every folio but EVENTS and the posted ones. -/
theorem finishSale_quiet (ho : (s.side sd).sale = some o) (reason : Option EndReason)
    (hswap : (s.side sd).state.blocksSwap = false ∨ s.prices.swapDue = false) (h : s.mode.stage = none) :
    (s.finishSale sd reason).mode = s.mode ∧ (s.finishSale sd reason).exch.owned = s.exch.owned := by
  have hm : (s.completeSale sd reason).mode = s.mode := completeSale_mode ho reason (by simp [h])
  rw [finishSale_eq reason hswap, drainReport_of_not (by simp [hm, h])]
  simp [hm]

end Sys2Proof.Machine
end


/-! ### The side orders: their answers, STOP, RESUME and END -/
section
namespace Sys2Proof.Machine

variable {s u : State} {sd : Side} {dt : Nat} {ref : Word32} {bytes : List Byte}

/-- The state that a side order's folio is handed back from: its body holds the sale number and side state (R46). -/
def State.written (s : State) (sd : Side) (before : SideCtl) : State :=
  s.writeBody (Folio.order sd) (be 4 (answerNumber before (s.side sd)) ++ [Config.sideStateCode (s.side sd).state])

theorem State.answerOrder_eq (s : State) (sd : Side) (before : SideCtl) (r : Result) (d : Word32) :
    s.answerOrder sd before r d = (s.written sd before).handOver (Folio.order sd) r d := rfl

@[simp] theorem State.answerOrder_frame (s : State) (sd : Side) (before : SideCtl) (r : Result) (d : Word32) :
    (s.answerOrder sd before r d).now = s.now ∧ (s.answerOrder sd before r d).pfe = s.pfe ∧
      (s.answerOrder sd before r d).sides = s.sides ∧ (s.answerOrder sd before r d).prices = s.prices ∧
      (s.answerOrder sd before r d).motors = s.motors ∧ (s.answerOrder sd before r d).display = s.display ∧
      (s.answerOrder sd before r d).gates = s.gates ∧ (s.answerOrder sd before r d).store = s.store ∧
      (s.answerOrder sd before r d).journal = s.journal ∧ (s.answerOrder sd before r d).mode = s.mode ∧
      (s.answerOrder sd before r d).pins = s.pins ∧ (s.answerOrder sd before r d).pending = s.pending ∧
      (∀ i, (s.answerOrder sd before r d).side i = s.side i) ∧
      (∀ i, (s.answerOrder sd before r d).records i = s.records i) := by
  simp [State.answerOrder_eq, State.written, State.side, State.records]

/-- An order answered by a state that has left the other exchanged folios alone (R46, R181). -/
theorem answered_answerOrder {before : SideCtl} (h : CanTouch s (Folio.order sd))
    (hu : u.exch.owned = (s.taken dt (Folio.order sd) ref bytes).exch.owned) (r : Result) (d : Word32) :
    Answered s (u.answerOrder sd before r d) (Folio.order sd) ref r d := by
  have hhead := s.taken_header dt bytes (ref := ref) h.2
  have hown : ∀ g : Folio, 7 ≤ g.val → u.header g = _ := fun _ => header_eq_of_owned hu
  have hself : (u.written sd before).header (Folio.order sd) =
      { u.header (Folio.order sd) with len := ((u.written sd before).header (Folio.order sd)).len } := by
    rw [State.written, State.writeBody_header_self]
  rw [hown _ (order_ge sd), hhead.1] at hself
  have ha := answered_of_handOver (s := s) (u := u.written sd before) (f := Folio.order sd) (by rw [hself])
    (fun g hne hg => by
      rw [State.written, State.writeBody_header_ne _ _ hne, hown g hg, hhead.2 g hne]) r d
  rw [hself] at ha
  exact ha

/-- An order refused as it was taken (R46, R181). -/
theorem refused_answerOrder {before : SideCtl} (h : CanTouch s (Folio.order sd)) (r : Result) (d : Word32) :
    Refused dt s ((s.taken dt (Folio.order sd) ref bytes).answerOrder sd before r d) (Folio.order sd) ref r d := by
  have he := s.taken_exch dt bytes (ref := ref) h.2
  exact refused_of_exch (u := (s.taken dt (Folio.order sd) ref bytes).written sd before)
    (h := { s.header (Folio.order sd) with
      ref := ref, len := (((s.taken dt (Folio.order sd) ref bytes).written sd before).header (Folio.order sd)).len
      holder := .part })
    (m := ((s.taken dt (Folio.order sd) ref bytes).written sd before).exch.mem) (by simp [lands_iff, State.written])
    (by simp [State.written, State.writeBody, State.setHeader, State.header, he, get_set_self]) rfl rfl

theorem refused_of_answerOrder {t : State} {before : SideCtl} {r : Result} {d : Word32}
    (h : CanTouch s (Folio.order sd))
    (he : t = (s.taken dt (Folio.order sd) ref bytes).answerOrder sd before r d) :
    Refused dt s t (Folio.order sd) ref r d := he ▸ refused_answerOrder h r d

theorem exec_stop (h : CanTouch s (Folio.order sd)) : exec (.stop dt sd ref) s =
    .next ((s.taken dt (Folio.order sd) ref [Config.orderCode 2]).serveStop sd) :=
  congrArg _ (State.request_eq h (order_ge sd) _)

theorem exec_resume (h : CanTouch s (Folio.order sd)) : exec (.resume dt sd ref) s =
    .next ((s.taken dt (Folio.order sd) ref [Config.orderCode 3]).serveResume sd) :=
  congrArg _ (State.request_eq h (order_ge sd) _)

theorem exec_endSale (h : CanTouch s (Folio.order sd)) : exec (.endSale dt sd ref) s =
    .next ((s.taken dt (Folio.order sd) ref [Config.orderCode 4]).serveEnd sd) :=
  congrArg _ (State.request_eq h (order_ge sd) _)

theorem suspend_side (u : State) (sd : Side) : ((u.suspend sd).side sd).state = .suspended ∧
    ((u.suspend sd).side sd).sale = (u.side sd).sale ∧ (∀ p, (((u.suspend sd).side sd).valves.get p).main = false) ∧
    ((u.suspend sd).side sd).noflowT = none ∧ ((u.suspend sd).side sd).staggerT = none ∧
    ((u.suspend sd).side sd).suspendT = some (u.now + seconds u.exch.config.suspendTimeout) ∧
    (u.suspend sd).side sd.other = u.side sd.other := by
  simp [State.suspend, startSlowClose_main, closeMains_main, State.cfg]

@[simp] theorem State.suspend_frame (u : State) (sd : Side) :
    (u.suspend sd).now = u.now ∧ (u.suspend sd).pfe = u.pfe ∧ (u.suspend sd).prices = u.prices ∧
      (u.suspend sd).motors = u.motors ∧ (u.suspend sd).gates = u.gates ∧ (u.suspend sd).store = u.store ∧
      (u.suspend sd).mode = u.mode ∧ (u.suspend sd).pins = u.pins ∧ (u.suspend sd).pending = u.pending ∧
      (u.suspend sd).exch.owned = u.exch.owned := by
  simp [State.suspend]

theorem valvesFor_slow (c : Composition) (f : Product → Bool) (p : Product) :
    ((valvesFor c f).get p).slow = c.uses p := by cases p <;> rfl

/-- A SUSPENDED side leaves it for FLOWING below its slow point, and for SLOW from there on (R61). -/
theorem resume_eq {o : Sale} {c : Captured} (ho : (u.side sd).sale = some o) (hc : o.cap = some c) :
    u.resume sd = if o.record.volume < c.slow
      then (u.setSide sd { u.side sd with suspendT := none }).enterFlowing sd (u.compOf c)
      else (u.setSide sd { u.side sd with suspendT := none }).enterSlow sd (u.compOf c) := by
  simp only [State.resume, ho, hc]
  rfl

theorem resume_side {o : Sale} {c : Captured} (ho : (u.side sd).sale = some o) (hc : o.cap = some c) :
    ((u.resume sd).side sd).state = (if o.record.volume < c.slow then .flowing else .slow) ∧
      ((u.resume sd).side sd).sale = some o ∧
      (∀ p, (((u.resume sd).side sd).valves.get p).slow = (u.compOf c).uses p) ∧
      ((u.resume sd).side sd).suspendT = none ∧
      ((u.resume sd).side sd).noflowT = some (u.now + seconds u.exch.config.noflowTimeout) ∧
      (u.resume sd).side sd.other = u.side sd.other := by
  rw [resume_eq ho hc]
  split <;> simp [State.enterFlowing, State.enterSlow, valvesFor_slow, State.cfg, ho]

@[simp] theorem State.resume_frame (u : State) (sd : Side) :
    (u.resume sd).now = u.now ∧ (u.resume sd).pfe = u.pfe ∧ (u.resume sd).prices = u.prices ∧
      (u.resume sd).motors = u.motors ∧ (u.resume sd).gates = u.gates ∧ (u.resume sd).store = u.store ∧
      (u.resume sd).mode = u.mode ∧ (u.resume sd).pins = u.pins ∧ (u.resume sd).pending = u.pending ∧
      (u.resume sd).exch.owned = u.exch.owned := by
  unfold State.resume
  dsimp only
  repeat' split
  all_goals simp

end Sys2Proof.Machine

open Sys2Proof Sys2Proof.Machine

/-- Settles O22: the three orders by the state of the side. -/
theorem stopResumeAndEnd : Obligations.StopResumeAndEnd := by
  unfold Obligations.StopResumeAndEnd
  refine ⟨fun dt sd ref s hs => ⟨fun h => ?_, fun h => ?_, fun h => ?_, fun h hfault => ?_,
    fun o c h hfault ho hc => ?_⟩, fun dt sd ref s hs => ⟨fun h => ?_, fun h => ?_, fun o h ho => ?_,
    fun o h ho hc hside hstage => ?_⟩⟩
  · exact ⟨_, exec_stop hs, refused_of_answerOrder (before := s.side sd)
      (bytes := [Config.orderCode 2]) hs (by simp [State.serveStop, h])⟩
  · have he := suspend_side (s.taken dt (Folio.order sd) ref [Config.orderCode 2]) sd
    refine ⟨_, (exec_stop hs).trans (congrArg _ (if_pos (by simpa using h))), ?_⟩
    simp only [State.answerOrder_frame, he]
    simp [lands_iff, answered_answerOrder (dt := dt) (bytes := [Config.orderCode 2]) hs]
  · exact ⟨_, exec_resume hs, refused_of_answerOrder (before := s.side sd)
      (bytes := [Config.orderCode 3]) hs (by simp [State.serveResume, h])⟩
  · exact ⟨_, exec_resume hs, refused_of_answerOrder (before := s.side sd)
      (bytes := [Config.orderCode 3]) hs (by simp [State.serveResume, h, hfault])⟩
  · have he := resume_side (u := s.taken dt (Folio.order sd) ref [Config.orderCode 3]) (sd := sd) (by simpa using ho) hc
    refine ⟨_, (exec_resume hs).trans (congrArg _ (by
      rw [State.serveResume, if_neg (by simp [h]), if_neg (by simpa using hfault)])), ?_⟩
    simp only [State.answerOrder_frame, he]
    simp [lands_iff, State.compOf, answered_answerOrder (dt := dt) (bytes := [Config.orderCode 3]) hs]
  · exact ⟨_, exec_endSale hs, refused_of_answerOrder (before := s.side sd)
      (bytes := [Config.orderCode 4]) hs (by
      rcases h with h | h <;> simp [State.serveEnd, h])⟩
  · exact ⟨_, exec_endSale hs, refused_of_answerOrder (before := s.side sd)
      (bytes := [Config.orderCode 4]) hs (by
      rcases h with h | h <;> simp [State.serveEnd, h])⟩
  · have hserve : (s.taken dt (Folio.order sd) ref [Config.orderCode 4]).serveEnd sd =
        ((s.taken dt (Folio.order sd) ref [Config.orderCode 4]).toEnding sd .ordered).answerOrder sd (s.side sd) .done := by
      cases hst : (s.side sd).state <;> simp_all [State.serveEnd, SideState.delivers]
    obtain ⟨hgoes, -⟩ := endsWith_of_sale (s := s) (u := s.taken dt (Folio.order sd) ref [Config.orderCode 4])
      (sd := sd) (reason := .ordered) (by simpa using ho) ho (by simp)
    refine ⟨_, (exec_endSale hs).trans (congrArg _ hserve), by simp [lands_iff], ⟨?_, ?_⟩,
      answered_answerOrder (dt := dt) (bytes := [Config.orderCode 4]) hs (by simp) _ _⟩
    · simpa [GoesToEnding] using hgoes
    · simp
  · have ho' : ((s.taken dt (Folio.order sd) ref [Config.orderCode 4]).side sd).sale = some o := by simpa using ho
    have hswap : ((s.taken dt (Folio.order sd) ref [Config.orderCode 4]).side sd).state.blocksSwap = false ∨
        (s.taken dt (Folio.order sd) ref [Config.orderCode 4]).prices.swapDue = false := by simp [h, SideState.blocksSwap]
    have hserve : (s.taken dt (Folio.order sd) ref [Config.orderCode 4]).serveEnd sd =
        ((s.taken dt (Folio.order sd) ref [Config.orderCode 4]).finishSale sd (some .cancelled)).answerOrder sd
          (s.side sd) .done := by
      simp [State.serveEnd, h]
    have hq := finishSale_quiet ho' (some .cancelled) hswap (by simpa using hstage)
    have hrec := finishSale_records ho' hside (some .cancelled) hswap sd
    refine ⟨_, _, (exec_endSale hs).trans (congrArg _ hserve), by simp, rfl, ?_, ?_, ?_, ?_, by simp,
      answered_answerOrder (dt := dt) (bytes := [Config.orderCode 4]) hs hq.2 _ _⟩
    · simp [hrec.1, finalRecord_of_uncaptured hc]
    · simp [finishSale_side ho' (some .cancelled) hswap]
    · simp [finishSale_side ho' (some .cancelled) hswap, nextAfter_of_uncaptured _ _ hc]
    · simp [(finishSale_store (some .cancelled) hswap).2]
end


/-! ### CHANGE_LIMIT and AUTHORIZE -/
section
namespace Sys2Proof.Machine

variable {s u : State} {sd : Side} {dt : Nat} {ref : Word32} {o : Sale} {c : Captured} {k : LimitKind} {n : Nat}

theorem exec_changeLimit {r : LimitReq} (h : CanTouch s (Folio.order sd)) : exec (.changeLimit dt sd ref r) s =
    .next ((s.taken dt (Folio.order sd) ref r.bytes).serveChangeLimit sd r) :=
  congrArg _ (State.request_eq h (order_ge sd) _)

theorem limitInvalid_iff (r : LimitReq) :
    limitInvalid r = true ↔ r.kind = none ∨ (r.kind ≠ some .unlimited ∧ r.amount = 0) := by
  unfold limitInvalid
  split <;> simp_all

theorem limitInvalid_of_good {r : LimitReq} (hk : r.kind = some k) (h : k = .unlimited ∨ 0 < r.amount) :
    limitInvalid r = false := by
  rw [← Bool.not_eq_true, limitInvalid_iff, hk]
  rintro (h' | ⟨h1, h2⟩)
  · cases h'
  · rcases h with rfl | h
    · exact h1 rfl
    · omega

/-- CHANGE_LIMIT with a valid limit on an open sale (R62). -/
theorem serveChangeLimit_of_good {r : LimitReq} (hst : (u.side sd).state.holdsSale = true)
    (hne : (u.side sd).state ≠ .ending) (hk : r.kind = some k) (h : k = .unlimited ∨ 0 < r.amount) :
    u.serveChangeLimit sd r = (u.applyLimit sd k r.amount).answerOrder sd (u.side sd) .done
      (limitDetail (limitClamps k r.amount)) := by
  have hgood := limitInvalid_of_good hk h
  cases hs : (u.side sd).state <;> simp_all [State.serveChangeLimit, SideState.holdsSale]

theorem serveChangeLimit_of_bad {r : LimitReq} (hst : (u.side sd).state.holdsSale = true)
    (hne : (u.side sd).state ≠ .ending) (h : limitInvalid r = true) :
    u.serveChangeLimit sd r = u.answerOrder sd (u.side sd) .invalidLimit := by
  cases hs : (u.side sd).state <;> simp_all [State.serveChangeLimit, SideState.holdsSale]

/-- The pair of a captured sale under a new limit (R63). -/
def Captured.limited (c : Captured) (rule : Rounding) (k : LimitKind) (n : Nat) : Captured :=
  { c with
    target := targetOf k (limitAmount k n) rule c.price
    slow := slowPoint (targetOf k (limitAmount k n) rule c.price) c.margin
    ceiling := ceilingSets k (limitAmount k n) rule c.price }

/-- A captured sale under a new limit (R62, R63). -/
def Sale.limited (o : Sale) (c : Captured) (k : LimitKind) (n : Nat) : Sale :=
  { o with
    record := { o.record with
      limitKind := k, amount := limitAmount k n, clamped := o.record.clamped || limitClamps k n
      target := some (targetOf k (limitAmount k n) o.record.rounding c.price) }
    cap := some (c.limited o.record.rounding k n) }

theorem withLimit_of_captured (hc : o.cap = some c) : o.withLimit k n = o.limited c k n := by
  simp [Sale.withLimit, hc, Sale.limited, SaleRecord.withLimit, Captured.limited]

theorem withLimit_of_uncaptured (hc : o.cap = none) : o.withLimit k n = { o with record := { o.record with
    limitKind := k, amount := limitAmount k n, clamped := o.record.clamped || limitClamps k n } } := by
  simp [Sale.withLimit, hc, SaleRecord.withLimit]

/-- The new pair in place, the present volume is judged against it (R63). -/
theorem applyLimit_of_captured (ho : (u.side sd).sale = some o) (hc : o.cap = some c)
    (hst : (u.side sd).state ≠ .authorized) :
    u.applyLimit sd k n = (u.setSide sd { u.side sd with sale := some (o.limited c k n) }).judgeLimit sd := by
  simp [State.applyLimit, ho, hst, withLimit_of_captured hc]

theorem judgeLimit_of_past (ho : (u.side sd).sale = some o) (hc : o.cap = some c) (h : c.target ≤ o.record.volume) :
    u.judgeLimit sd = u.toEnding sd c.targetReason := by
  simp [State.judgeLimit, ho, hc, h]

theorem judgeLimit_of_fast (ho : (u.side sd).sale = some o) (hc : o.cap = some c) (h : o.record.volume < c.target)
    (hst : (u.side sd).state = .flowing) (hslow : c.slow ≤ o.record.volume) : u.judgeLimit sd = u.toSlow sd := by
  simp [State.judgeLimit, ho, hc, Nat.not_le.2 h, hst, hslow]

theorem judgeLimit_of_slow (ho : (u.side sd).sale = some o) (hc : o.cap = some c) (h : o.record.volume < c.target)
    (hst : (u.side sd).state = .slow) (hslow : o.record.volume < c.slow) :
    u.judgeLimit sd = u.slowToFlowing sd (u.compOf c) := by
  simp [State.judgeLimit, ho, hc, Nat.not_le.2 h, hst, Nat.not_le.2 hslow]

theorem judgeLimit_of_stands (ho : (u.side sd).sale = some o) (hc : o.cap = some c) (h : o.record.volume < c.target)
    (hfast : (u.side sd).state = .flowing → o.record.volume < c.slow)
    (hslow : (u.side sd).state = .slow → c.slow ≤ o.record.volume) : u.judgeLimit sd = u := by
  cases hst : (u.side sd).state <;> simp_all [State.judgeLimit, Nat.not_le.2]

@[simp] theorem State.judgeLimit_owned (u : State) (sd : Side) : (u.judgeLimit sd).exch.owned = u.exch.owned := by
  unfold State.judgeLimit State.slowToFlowing
  dsimp only
  repeat' split
  all_goals simp

end Sys2Proof.Machine

open Sys2Proof Sys2Proof.Machine

/-- Settles O21: the new pair is put in place and the volume judged against it. -/
theorem changeLimitIsDecided : Obligations.ChangeLimitIsDecided := by
  unfold Obligations.ChangeLimitIsDecided
  refine fun dt sd ref r s hs => ⟨fun h => ?_, fun h => ?_, fun h hne hbad => ?_, fun o k ho hk hgood => ⟨?_, ?_⟩⟩
  · exact ⟨_, exec_changeLimit hs, refused_of_answerOrder (before := s.side sd) (bytes := r.bytes) hs (by
      rcases h with h | h <;> simp [State.serveChangeLimit, h])⟩
  · exact ⟨_, exec_changeLimit hs, refused_of_answerOrder (before := s.side sd) (bytes := r.bytes) hs (by
      rcases h with h | h <;> simp [State.serveChangeLimit, h])⟩
  · exact ⟨_, exec_changeLimit hs, refused_of_answerOrder (before := s.side sd) (bytes := r.bytes) hs (by
      rw [serveChangeLimit_of_bad (by simpa using h) (by simpa using hne) ((limitInvalid_iff r).2 hbad)]
      simp)⟩
  · intro h hwait hc
    have hap : (s.taken dt (Folio.order sd) ref r.bytes).applyLimit sd k r.amount =
        (s.taken dt (Folio.order sd) ref r.bytes).setSide sd { s.side sd with sale := some (o.withLimit k r.amount) } := by
      simp [State.applyLimit, ho, h, hwait]
    refine ⟨_, (exec_changeLimit hs).trans (congrArg _ (serveChangeLimit_of_good (by simp [h, SideState.holdsSale])
      (by simp [h]) hk hgood)), ?_⟩
    rw [hap, withLimit_of_uncaptured hc]
    refine ⟨by simp [lands_iff], by simp, by simp, ?_⟩
    exact answered_answerOrder (dt := dt) (bytes := r.bytes) hs (by simp) _ _
  · intro c hc h hna hne
    have hap := applyLimit_of_captured (u := s.taken dt (Folio.order sd) ref r.bytes) (k := k) (n := r.amount)
      (by simpa using ho) hc (by simpa using hna)
    have hex : exec (.changeLimit dt sd ref r) s = _ :=
      (exec_changeLimit hs).trans (congrArg _ (serveChangeLimit_of_good (by simpa using h) (by simpa using hne) hk hgood))
    rw [hap] at hex
    generalize hv : (s.taken dt (Folio.order sd) ref r.bytes).setSide sd
      { (s.taken dt (Folio.order sd) ref r.bytes).side sd with sale := some (o.limited c k r.amount) } = v at hex
    have hside : v.side sd = { s.side sd with sale := some (o.limited c k r.amount) } := by simp [← hv]
    have hother : v.side sd.other = s.side sd.other := by simp [← hv]
    have hsale : (v.side sd).sale = some (o.limited c k r.amount) := by rw [hside]
    have hanswer : ∀ w : State, w.exch.owned = v.exch.owned → Answered s (w.answerOrder sd (s.side sd) .done
        (limitDetail (limitClamps k r.amount))) (Folio.order sd) ref .done (limitDetail (limitClamps k r.amount)) :=
      fun w hw => answered_answerOrder (dt := dt) (bytes := r.bytes) hs (by rw [hw, ← hv]; simp) _ _
    simp only [State.taken_reads] at hex
    refine ⟨fun hpast => ?_, fun hbelow hst hslow => ?_, fun hbelow hst hslow => ?_, fun hbelow hf hsl => ?_⟩ <;>
      refine ⟨_, hex, ?_⟩
    · rw [judgeLimit_of_past hsale rfl hpast]
      obtain ⟨⟨⟨hstate, hending, -⟩, -⟩, -⟩ := v.toEnding_endsWith sd hsale (c.limited o.record.rounding k r.amount).targetReason
      refine ⟨by simp [lands_iff, ← hv], by simpa using hstate, ?_, by simpa using hother, hanswer _ (by simp)⟩
      simp only [State.answerOrder_frame, hending, hsale]
      rfl
    · rw [judgeLimit_of_fast hsale rfl hbelow (by rw [hside, hst]) hslow]
      refine ⟨by simp [lands_iff, ← hv, State.toSlow], ?_, ?_, fun p => ?_, ?_, hanswer _ (by simp)⟩
      all_goals simp [State.toSlow, closeMains_main, hside, hother]
      rfl
    · rw [judgeLimit_of_slow hsale rfl hbelow (by rw [hside, hst]) hslow]
      refine ⟨by simp [lands_iff, ← hv, State.slowToFlowing], ?_, ?_, ?_, ?_,
        hanswer _ (by simp [State.slowToFlowing])⟩
      all_goals simp [State.slowToFlowing, State.compOf, hside, hother]
      · rfl
      · rw [← hv]
        simp [Captured.limited]
    · rw [judgeLimit_of_stands hsale rfl hbelow (by rw [hside]; exact hf) (by rw [hside]; exact hsl)]
      exact ⟨by simp [lands_iff, ← hv], by simp [hside]; rfl, by simp [hother], hanswer _ rfl⟩
end


/-! ### AUTHORIZE -/
section
namespace Sys2Proof.Machine

variable {s u : State} {sd : Side} {dt : Nat} {ref : Word32} {r : AuthReq}

theorem exec_authorize (h : CanTouch s (Folio.order sd)) : exec (.authorize dt sd ref r) s =
    .next ((s.taken dt (Folio.order sd) ref r.bytes).serveAuthorize sd r) :=
  congrArg _ (State.request_eq h (order_ge sd) _)

/-- The side's checks are those of the statements (R47). -/
theorem authRefusal_taken (s : State) (dt : Nat) (sd : Side) (ref : Word32) (bytes : List Byte) (r : AuthReq) :
    (s.taken dt (Folio.order sd) ref bytes).authRefusal sd r = authorizeCheck s sd r := by
  simp only [State.authRefusal, authorizeCheck, State.taken_reads, State.taken_frame, maskOf, limitInvalid_iff]
  rfl

theorem serveAuthorize_of_refused {e : Result} (h : u.authRefusal sd r = some e) :
    u.serveAuthorize sd r = u.answerOrder sd (u.side sd) e := by
  simp [State.serveAuthorize, h]

/-- An accepted AUTHORIZE opens the new record's sale (R48). -/
theorem serveAuthorize_of_accepted {o : Origin} {k : LimitKind} (h : u.authRefusal sd r = none)
    (ho : r.origin = some o) (hk : r.limit.kind = some k) :
    u.serveAuthorize sd r = (u.openSale sd (u.newRecord sd (u.header (Folio.order sd)).ref o k r.limit.amount)
      (maskOf r.mask)).answerOrder sd (u.side sd) .done (limitDetail (limitClamps k r.limit.amount)) := by
  simp [State.serveAuthorize, h, ho, hk, State.newRecord]

@[simp] theorem State.advanceNumber_side (u : State) (sd : Side) : u.advanceNumber.side sd = u.side sd := rfl

/-- With no nozzle lifted the new sale waits in AUTHORIZED, its auth timer running (R48, R49). -/
theorem openSale_of_none_lifted {q : SaleRecord} {mask : BitVec 6} (h : (u.side sd).nozzles.toList.any id = false) :
    u.openSale sd q mask = u.advanceNumber.putSide sd { u.side sd with
      state := .authorized, sale := some ⟨q, mask, none⟩
      authT := some (u.now + seconds u.exch.config.authTimeout) } := by
  have hlift : (u.side sd).anyLifted = false := h
  simp only [State.openSale, State.advanceNumber_side, hlift]
  rfl

theorem taken_ref (h : CanTouch s (Folio.order sd)) :
    ((s.taken dt (Folio.order sd) ref r.bytes).header (Folio.order sd)).ref = ref := by
  rw [(s.taken_header dt r.bytes h.2).1]

theorem newRecord_taken (s : State) (dt : Nat) (bytes : List Byte) (o : Origin) (k : LimitKind) (n : Nat) :
    (s.taken dt (Folio.order sd) ref bytes).newRecord sd ref o k n = s.newRecord sd ref o k n := by
  simp [State.newRecord, State.nextNumber, State.cfg]

end Sys2Proof.Machine

open Sys2Proof Sys2Proof.Machine

/-- Settles O19: the checks of R47 in order, and the new sale with no nozzle lifted. -/
theorem authorizeIsDecided : Obligations.AuthorizeIsDecided := by
  unfold Obligations.AuthorizeIsDecided
  refine fun dt sd ref r s hs => ⟨fun e he => ?_, fun o k hnone ho hk hdown => ?_⟩
  · refine ⟨_, exec_authorize hs, refused_of_answerOrder (before := s.side sd) (bytes := r.bytes) hs ?_⟩
    rw [serveAuthorize_of_refused ((authRefusal_taken ..).trans he)]
    simp
  · have haccept := serveAuthorize_of_accepted ((authRefusal_taken s dt sd ref r.bytes r).trans hnone) ho hk
    rw [taken_ref hs, openSale_of_none_lifted (by simpa using hdown), newRecord_taken] at haccept
    refine ⟨_, s.newRecord sd ref o k r.limit.amount, (exec_authorize hs).trans (congrArg _ haccept), ?_, ?_, ?_, ?_⟩
    · simp [lands_iff]
    · simp
    · simp [maskOf]
    · refine ⟨rfl, rfl, rfl, rfl, rfl, rfl, rfl, rfl, rfl, rfl, rfl, rfl, rfl, rfl, rfl, rfl, ?_, ?_, ?_, ?_⟩
      · simp
      · simp [State.advanceNumber]
      · simp
      · exact answered_answerOrder (dt := dt) (bytes := r.bytes) hs (by simp) _ _
end


/-! ### The totals and watches of a completed sale -/
section
namespace Sys2Proof.Machine

variable {s u : State} {sd : Side} {o : Sale} {c : Captured}

/-- A watch once a total has changed (R142). -/
def Watch.after (w : Watch) (t : TotalId) (old new : Nat) : Watch :=
  if w.armed ∧ w.object = t ∧ old < w.threshold ∧ w.threshold ≤ new then { w with armed := false } else w

theorem Watch.after_of_fires {w : Watch} {t : TotalId} {old new : Nat} (h : w.fires t old new) :
    w.after t old new = { w with armed := false } := if_pos h

theorem Watch.after_of_not {w : Watch} {t : TotalId} {old new : Nat} (h : ¬ w.fires t old new) :
    w.after t old new = w := if_neg h

theorem Watch.not_fires_of_unarmed {w : Watch} {t : TotalId} {old new : Nat} (h : w.armed = false) :
    ¬ w.fires t old new := fun hf => by simp [Watch.fires, h] at hf

/-- Of two totals that change, the one that a watch is armed on may disarm it (R142). -/
theorem Watch.after_of_either {w : Watch} {t t' : TotalId} {old new old' new' : Nat}
    (h : w.fires t old new ∨ w.fires t' old' new') :
    (w.after t old new).after t' old' new' = { w with armed := false } := by
  by_cases h1 : w.fires t old new
  · rw [Watch.after_of_fires h1]
    exact Watch.after_of_not (Watch.not_fires_of_unarmed rfl)
  · rw [Watch.after_of_not h1, Watch.after_of_fires (h.resolve_left h1)]

theorem Watch.after_of_neither {w : Watch} {t t' : TotalId} {old new old' new' : Nat}
    (h : ¬ (w.fires t old new ∨ w.fires t' old' new')) : (w.after t old new).after t' old' new' = w := by
  rw [Watch.after_of_not fun h1 => h (.inl h1), Watch.after_of_not fun h2 => h (.inr h2)]

theorem State.testWatch_watches (s : State) (t : TotalId) (old new : Nat) (i : Fin 4) :
    (s.testWatch t old new i).store.watches =
      s.store.watches.set i.val ((s.store.watches.get i).after t old new) := by
  unfold State.testWatch
  dsimp only
  split
  case isTrue h => simp [Watch.after_of_fires h]
  case isFalse h =>
    rw [Watch.after_of_not h]
    exact (Vector.set_getElem_self i.isLt).symm

theorem State.testWatches_watch (s : State) (t : TotalId) (old new : Nat) (i : Fin 4) :
    (s.testWatches t old new).store.watches.get i = (s.store.watches.get i).after t old new := by
  simp only [State.testWatches, State.testWatch_watches]
  fin_cases i <;> simp [Vector.get_eq_getElem]

theorem State.setTotals_watches (s : State) (t : Totals) : (s.setTotals t).store.watches = s.store.watches := rfl

/-- A grade's totals advance, and a watch that its volume or its money reaches is disarmed (R140, R142). -/
theorem State.addGradeTotals_watch (s : State) (g : Fin 6) (volume money : Nat) (i : Fin 4) :
    (s.addGradeTotals g volume money).store.watches.get i =
      ((s.store.watches.get i).after (.volume g) (s.store.totals.volume.get g)
        (satAdd64 (s.store.totals.volume.get g) volume)).after (.money g) (s.store.totals.money.get g)
        (satAdd64 (s.store.totals.money.get g) money) := by
  simp only [State.addGradeTotals, State.testWatches_watch, State.setTotals_watches]

theorem State.addGradeTotals_totals (s : State) (g : Fin 6) (volume money : Nat) :
    (s.addGradeTotals g volume money).store.totals = { s.store.totals with
      volume := s.store.totals.volume.set g.val (satAdd64 (s.store.totals.volume.get g) volume)
      money := s.store.totals.money.set g.val (satAdd64 (s.store.totals.money.get g) money)
      count := s.store.totals.count.set g.val (satAdd64 (s.store.totals.count.get g) 1) } := by
  simp [State.addGradeTotals, State.setTotals]

theorem countRecord_watch {r : SaleRecord} {g : Fin 6} (ht : r.test = false) (hg : r.grade = some g) (i : Fin 4) :
    (s.countRecord r).store.watches.get i =
      ((s.store.watches.get i).after (.volume g) (s.store.totals.volume.get g)
        (satAdd64 (s.store.totals.volume.get g) r.volume)).after (.money g) (s.store.totals.money.get g)
        (satAdd64 (s.store.totals.money.get g) r.money) := by
  simp only [State.countRecord, ht, hg, Bool.false_eq_true, if_false, State.addGradeTotals_watch]

/-- A TEST record's fine volumes of some products advance the test totals of those meters (R140). -/
theorem get_addTest_filterMap (s : State) (sd : Side) (m : Meter) (ps : List Product) (hps : ps.Nodup)
    (t : PerMeter Nat) :
    PerMeter.get (addTest t (ps.filterMap fun p => (s.chan ⟨sd, p⟩).attached.map fun a => (⟨sd, p⟩, a.fine))) m =
      match (s.chan m).attached with
      | some a => if m.side = sd ∧ m.product ∈ ps then satAdd64 (PerMeter.get t m) a.fine else PerMeter.get t m
      | none => PerMeter.get t m := by
  induction ps generalizing t with
  | nil => cases (s.chan m).attached <;> simp [addTest]
  | cons p rest ih =>
    obtain ⟨hp, hrest⟩ := List.nodup_cons.1 hps
    by_cases hm : m = ⟨sd, p⟩
    · subst hm
      cases ha : (s.chan ⟨sd, p⟩).attached with
      | none => simp [ha, ih hrest]
      | some a => simp [ha, addTest, ih hrest, hp]
    · have hne : ¬ (m.side = sd ∧ m.product = p) := fun h => hm (by cases m; simp_all)
      have hmem : (m.side = sd ∧ m.product ∈ p :: rest) ↔ (m.side = sd ∧ m.product ∈ rest) := by
        rw [List.mem_cons]; tauto
      simp only [hmem]
      cases ha : (s.chan ⟨sd, p⟩).attached with
      | none => simp only [List.filterMap_cons, ha, Option.map_none, ih hrest]
      | some a =>
        simp only [List.filterMap_cons, ha, Option.map_some, addTest, ih hrest, PerMeter.get_set_ne _ _ hm]

theorem get_addTest_fines (s : State) (sd : Side) (t : PerMeter Nat) (m : Meter) :
    PerMeter.get (addTest t (s.fines sd)) m = match (s.chan m).attached with
      | some a => if m.side = sd then satAdd64 (PerMeter.get t m) a.fine else PerMeter.get t m
      | none => PerMeter.get t m := by
  have hall : m.product ∈ Product.all := by cases m.product <;> decide
  rw [State.fines, get_addTest_filterMap s sd m _ (by decide)]
  simp [hall]

/-- The final record of a captured sale (R36 to R38, R66, R68). -/
theorem finalRecord_of_captured (hc : o.cap = some c) :
    let r := s.finalRecord sd o none
    r.reason = o.record.reason ∧ r.fines = s.fines sd ∧ r.volume = min 999999 (fineSum (s.fines sd) / 10240) ∧
      r.money = min 999999 (moneyRaw o.record.rounding c.price r.volume) ∧
      r.overrun = (if c.target < r.volume then some (r.volume - c.target) else none) ∧
      r.test = o.record.test ∧ r.grade = o.record.grade := by
  simp [State.finalRecord, Sale.final, hc, SaleRecord.measure, volumeOf, moneyOf]

/-- The meters of a side are detached (R11). -/
theorem detachMeters_attached (s : State) (sd : Side) (p : Product) :
    ((s.detachMeters sd).chan ⟨sd, p⟩).attached = none := by
  have hd : ∀ c : Channel, c.detach.attached = none := fun c => by
    unfold Channel.detach
    cases h : c.attached <;> simp [h]
  cases sd <;> cases p <;> exact hd _

theorem leaving_attached (s : State) (sd : Side) (hc : o.cap = some c) (p : Product) :
    ((s.leaving sd o).chan ⟨sd, p⟩).attached = none := by
  have hpfe : (s.leaving sd o).pfe = (s.detachMeters sd).pfe := by simp [State.leaving, hc]
  rw [State.chan, hpfe]
  exact detachMeters_attached s sd p

theorem finishSale_attached (ho : (s.side sd).sale = some o) (hc : o.cap = some c)
    (hswap : (s.side sd).state.blocksSwap = false ∨ s.prices.swapDue = false) (p : Product) :
    ((s.finishSale sd none).chan ⟨sd, p⟩).attached = none := by
  have hpfe : (s.finishSale sd none).pfe = (s.leaving sd o).pfe := by
    rw [finishSale_eq none hswap, State.completeSale_eq ho]
    simp [State.setSide]
  rw [State.chan, hpfe]
  exact leaving_attached s sd hc p

end Sys2Proof.Machine

open Sys2Proof Sys2Proof.Machine

/-- Settles O24: the record joins the pending ones, and the totals and watches follow a captured sale. -/
theorem timersCompleteTheSale : Obligations.TimersCompleteTheSale := by
  unfold Obligations.TimersCompleteTheSale
  refine ⟨fun dt sd s o d h ho hc hside ht hd hstage => ?_, fun dt sd s o c d h ho hc hside ht hd hswap _ => ?_⟩
  · have hdue : (s.side sd).authT.due (s.now + dt) = true := due_of_le ht hd
    have hex : exec (.authTimeout dt sd) s = .next ((s.elapse dt).finishSale sd (some .expired)) := by
      simp [exec, execAuthTimeout, h, hdue]
    have hfree : ((s.elapse dt).side sd).state.blocksSwap = false ∨ (s.elapse dt).prices.swapDue = false := by
      simp [h, SideState.blocksSwap]
    have hrec := finishSale_records (s := s.elapse dt) ho hside (some .expired) hfree
    obtain ⟨u, hu, hstore⟩ := completeSale_store (s := s.elapse dt) ho (some .expired)
    obtain ⟨v, hv, -, htotals, -⟩ := u.takeRecord_totals ((s.elapse dt).finalRecord sd o (some .expired))
    rw [finalRecord_of_uncaptured hc] at hrec htotals hstore
    refine ⟨_, _, hex, by simp, rfl, ?_, (hrec sd).2.1, (hrec sd).2.2, ?_, ?_, fun hgrade hfines => ?_, ?_,
      (hrec sd.other).2.1, (finishSale_store _ hfree).2, by simp⟩
    · simpa using (hrec sd).1
    · simp [finishSale_side (s := s.elapse dt) ho (some .expired) hfree]
    · simp [finishSale_side (s := s.elapse dt) ho (some .expired) hfree]
    · rw [(finishSale_store _ hfree).1, hstore, htotals, State.countRecord]
      simp only [hgrade, hfines]
      split <;> simp [hv, hu, State.setTotals, addTest]
    · simp [finishSale_side (s := s.elapse dt) ho (some .expired) hfree, nextAfter_of_uncaptured _ _ hc]
  · have hdue : (s.side sd).settleT.due (s.now + dt) = true := due_of_le ht hd
    have hex : exec (.settleTime dt sd) s = .next ((s.elapse dt).finishSale sd none) := by
      simp [exec, execSettleTime, h, hdue]
    have hrec := finishSale_records (s := s.elapse dt) ho hside none (.inr hswap)
    obtain ⟨u, hu, hstore⟩ := completeSale_store (s := s.elapse dt) ho none
    obtain ⟨v, hv, hvw, htotals, hwatches⟩ := u.takeRecord_totals ((s.elapse dt).finalRecord sd o none)
    have hst := (finishSale_store (s := s.elapse dt) (sd := sd) none (.inr hswap)).1.trans hstore
    obtain ⟨hreason, hfines, hvol, hmoney, hover, htest, hgrade⟩ :=
      finalRecord_of_captured (s := s.elapse dt) (sd := sd) hc
    rw [hu] at hv hvw
    simp only [State.elapse_frame] at hv hvw
    refine ⟨_, (s.elapse dt).finalRecord sd o none, hex, by simp, ?_, by simp, hreason, hfines, hvol, hmoney, hover,
      by simp, ?_, finishSale_attached (s := s.elapse dt) ho hc (.inr hswap), fun p => ?_, fun hup => ?_,
      fun g ht hg => ⟨?_, fun i => ⟨fun hr => ?_, fun hr => ?_⟩⟩, fun ht => ⟨?_, ?_, fun m => ?_⟩⟩
    · simpa using (hrec sd).1
    · simp [finishSale_side (s := s.elapse dt) ho none (.inr hswap)]
    · rw [finishSale_side (s := s.elapse dt) ho none (.inr hswap)]
      cases p <;> rfl
    · rw [finishSale_side (s := s.elapse dt) ho none (.inr hswap)]
      simp [SideCtl.nextAfter, hc, hup]
    · rw [hst, htotals, State.countRecord, htest, ht, hgrade, hg]
      simp [State.addGradeTotals_totals, hv]
    · rw [hst, hwatches, countRecord_watch (htest.trans ht) (hgrade.trans hg), hv, hvw]
      exact Watch.after_of_either hr
    · rw [hst, hwatches, countRecord_watch (htest.trans ht) (hgrade.trans hg), hv, hvw]
      exact Watch.after_of_neither hr
    · rw [hst, htotals, State.countRecord, htest, ht]
      simp [State.setTotals, hv]
    · rw [hst, hwatches, State.countRecord, htest, ht]
      simp [State.setTotals, hvw]
    · rw [hst, htotals, State.countRecord, htest, ht, hfines]
      simp only [if_true, State.setTotals, hv]
      exact get_addTest_fines (s.elapse dt) sd _ m
end


/-! ### Starts, rundowns and recoveries of the motors -/
section
namespace Sys2Proof.Machine

variable {s t u : State} {p q : Product} {dt : Nat}

@[simp] theorem State.bothStarting_reads (s : State) :
    (s.bothSides State.startingTest).pending = s.pending ∧
      (s.bothSides State.startingTest).exch.config = s.exch.config ∧
      ∀ p, (s.bothSides State.startingTest).motor p = s.motor p := by
  simp [State.bothSides, State.motor]

theorem primeTest_of_not (h : s.mode.stage ≠ some .prime) : s.primeTest = s := by
  simp [State.primeTest, h]

theorem afterMotors_of_not_prime (h : s.mode.stage ≠ some .prime) :
    s.afterMotors = s.bothSides State.startingTest := by
  rw [State.afterMotors, primeTest_of_not (by simpa using h)]

/-- With no side ready to leave STARTING and PRIME not the stage, a motor's move is followed by nothing (R52, R169). -/
theorem afterMotors_of_none (h : NoneLeavesStarting s) : s.afterMotors = s := by
  rw [afterMotors_of_not_prime h.2, bothStarting_of_not h.1]

theorem NoneLeavesStarting.of_eq (h : NoneLeavesStarting s) (hs : t.sides = s.sides) (hm : t.mode = s.mode) :
    NoneLeavesStarting t :=
  ⟨fun sd => by rw [State.side, hs]; exact h.1 sd, by rw [hm]; exact h.2⟩

theorem NoneBeforeFlow.leaves (h : NoneBeforeFlow s) : NoneLeavesStarting s :=
  ⟨fun sd => startReady_of_state (h.1 sd).2, h.2⟩

/-- A motor left without users: it runs down, or with IDLE_RUN 0 it stops (R83). -/
def State.ranDown (s : State) (m : Motor) : Motor :=
  if s.exch.config.idleRun = 0 then { s.opened m with state := .stopped }
  else { m with state := .rundown, pressureT := none, rundownT := some (s.now + seconds s.exch.config.idleRun) }

theorem rundown_motors (s : State) (p : Product) (m : Motor) :
    (s.rundown p m).motors = { s.motors with motor := s.motors.motor.set p (s.ranDown m) } := by
  simp only [State.rundown, State.postStatus_frame]
  rfl

/-- A motor whose start is confirmed: it runs with users, and runs down without (R82). -/
def State.confirmed (s : State) (m : Motor) : Motor :=
  if m.users.any then { m with state := .running, pressureT := none } else s.ranDown m

theorem confirmStart_motors (s : State) (p : Product) :
    (s.confirmStart p).motors = { s.motors with motor := s.motors.motor.set p (s.confirmed (s.motor p)) } := by
  unfold State.confirmStart State.confirmed
  dsimp only
  split
  · simp [State.setMotor]
  · rw [rundown_motors]
    simp [State.ranDown, State.opened, State.cfg]

theorem confirmStart_of_no_users (h : (s.motor p).users.any = false) :
    (s.confirmStart p).sides = s.sides ∧ (s.confirmStart p).mode = s.mode := by
  simp [State.confirmStart, h]

/-- The arbiter moves no motor but the head of its FIFO (R80). -/
theorem arbiterTest_motor (h : p ∉ s.motors.fifo) : s.arbiterTest.motor p = s.motor p := by
  unfold State.arbiterTest State.grant
  split
  · rfl
  case h_2 q rest hf =>
    have hpq : p ≠ q := fun e => h (by simp [hf, e])
    dsimp only
    split
    · split
      · rw [State.motor, confirmStart_motors, PerProduct.get_set_ne _ _ hpq]
        simp [State.setMotor, PerProduct.get_set_ne _ _ hpq, State.motor]
      · simp [State.motor, State.setMotor, PerProduct.get_set_ne _ _ hpq]
    · rfl

theorem arbiterTest_of_nil (h : s.motors.fifo = []) : s.arbiterTest = s := by
  simp [State.arbiterTest, h]

theorem stoppedNow_ranDown (hcfg : u.exch.config = s.exch.config) (hnow : t.now = u.now)
    (hidle : s.exch.config.idleRun = 0) (hm : t.motor p = u.ranDown (s.motor p)) :
    (t.motor p).state = .stopped ∧ StoppedNow s t p := by
  rw [hm]
  unfold StoppedNow
  rw [hm]
  simp [State.ranDown, hcfg, hidle, State.opened, State.cfg, hnow]

@[simp] theorem State.pinPressure_frame (s : State) (p : Product) (ok : Bool) :
    (s.pinPressure p ok).now = s.now ∧ (s.pinPressure p ok).pfe = s.pfe ∧ (s.pinPressure p ok).sides = s.sides ∧
      (s.pinPressure p ok).prices = s.prices ∧ (s.pinPressure p ok).motors = s.motors ∧
      (s.pinPressure p ok).display = s.display ∧ (s.pinPressure p ok).gates = s.gates ∧
      (s.pinPressure p ok).store = s.store ∧ (s.pinPressure p ok).journal = s.journal ∧
      (s.pinPressure p ok).mode = s.mode ∧ (s.pinPressure p ok).exch = s.exch ∧
      (s.pinPressure p ok).pending = s.pending ∧
      (s.pinPressure p ok).pins = { s.pins with pressureOk := s.pins.pressureOk.set p ok } ∧
      ∀ q, (s.pinPressure p ok).motor q = s.motor q :=
  ⟨rfl, rfl, rfl, rfl, rfl, rfl, rfl, rfl, rfl, rfl, rfl, rfl, rfl, fun _ => rfl⟩

theorem exec_pressureOkPresent (s : State) (dt : Nat) (p : Product) :
    exec (.pressureOkPresent dt p) s = .next (((s.elapse dt).pinPressure p true).pressureArrives p) := rfl

theorem pressureArrives_of_starting (h : (u.motor p).state = .starting) :
    u.pressureArrives p = (u.confirmStart p).arbiterTest.afterMotors := by
  simp [State.pressureArrives, h]

/-- What a confirmed start and the arbiter's test leave of the Mode Controller outside PRIME. -/
theorem confirmed_mode (h : u.mode.stage ≠ some .prime) : (u.confirmStart p).arbiterTest.mode = u.mode :=
  ((MotorsTell.confirmStart u p).trans (.arbiterTest _)).mode h

end Sys2Proof.Machine

open Sys2Proof Sys2Proof.Machine

/-- Settles O26: pressure in STARTING, in the two confirmed states, and in the others. -/
theorem pressureIsWatched : Obligations.PressureIsWatched := by
  unfold Obligations.PressureIsWatched
  refine fun dt p s => ⟨fun h husers hfifo hstage => ?_, fun h husers hfifo hnone => ?_, fun h => ⟨?_, ?_⟩,
    fun h => ?_, fun h => ?_⟩
  · have hm := confirmed_mode (u := (s.elapse dt).pinPressure p true) (p := p) (by simpa using hstage)
    refine ⟨_, (exec_pressureOkPresent s dt p).trans (congrArg _ ((pressureArrives_of_starting (by simpa using h)).trans
      (afterMotors_of_not_prime (by rw [hm]; simpa using hstage)))), ?_, ?_, ?_⟩
    · simp [lands_iff, hm]
    · rw [(State.bothStarting_reads _).2.2 p, arbiterTest_motor, State.motor, confirmStart_motors]
      · simp [State.confirmed, husers]
      · rw [confirmStart_motors]; simpa using hfifo
    · simp
  · have hquiet := confirmStart_of_no_users (s := (s.elapse dt).pinPressure p true) (p := p) (by simpa using husers)
    have hmotors := confirmStart_motors ((s.elapse dt).pinPressure p true) p
    have hr : ((s.elapse dt).pinPressure p true).confirmed (((s.elapse dt).pinPressure p true).motor p) =
        ((s.elapse dt).pinPressure p true).ranDown (s.motor p) := by
      simp [State.confirmed, husers]
    have hex : exec (.pressureOkPresent dt p) s = .next (((s.elapse dt).pinPressure p true).confirmStart p) := by
      refine (exec_pressureOkPresent s dt p).trans (congrArg _ ((pressureArrives_of_starting (by simpa using h)).trans ?_))
      rw [arbiterTest_of_nil (by rw [hmotors]; simpa using hfifo)]
      exact afterMotors_of_none (hnone.of_eq (by simp [hquiet]) (by simp [hquiet]))
    have hself : (((s.elapse dt).pinPressure p true).confirmStart p).motor p = _ :=
      (congrArg (fun m => m.motor.get p) hmotors).trans ((PerProduct.get_set_self _ _ _).trans hr)
    refine ⟨_, hex, by simp [lands_iff, hquiet], fun q hq => ?_, fun hidle => ?_, fun hidle => ?_⟩
    · exact (congrArg (fun m => m.motor.get q) hmotors).trans (PerProduct.get_set_ne _ _ hq)
    · rw [hself]; simp [State.ranDown, hidle]
    · exact stoppedNow_ranDown (by simp) (by simp) hidle hself
  · cases hs : (s.motor p).state <;> simp_all [exec, execPressureOkPresent, State.pressureArrives, MotorState.confirmed]
  · cases hs : (s.motor p).state <;> simp_all [exec, execPressureOkAbsent, State.pressureGoes, MotorState.confirmed]
  · cases hs : (s.motor p).state <;> simp_all [exec, execPressureOkPresent, State.pressureArrives, MotorState.turning]
  · cases hs : (s.motor p).state <;> simp_all [exec, execPressureOkAbsent, State.pressureGoes, MotorState.confirmed]
end


/-! ### The start slot -/
section
namespace Sys2Proof.Machine

variable {s t u : State} {p : Product} {rest : List Product} {dt : Nat}

/-- The three parts of the arbiter's condition hold for the head of the FIFO (R80). -/
def State.maygrant (s : State) (p : Product) : Prop :=
  (∀ q, (s.motor q).state ≠ .starting) ∧ (∀ g, s.motors.lastGrant = some g → g.2 ≤ s.now) ∧
    (s.motor p).restUntil ≤ s.now

theorem someStarting_iff (s : State) : s.someStarting = true ↔ ∃ q, (s.motor q).state = .starting := by
  simp only [State.someStarting, List.any_eq_true, decide_eq_true_eq]
  exact ⟨fun ⟨q, _, h⟩ => ⟨q, h⟩, fun ⟨q, h⟩ => ⟨q, by cases q <;> decide, h⟩⟩

theorem gapPassed_iff (s : State) : s.gapPassed = true ↔ ∀ g, s.motors.lastGrant = some g → g.2 ≤ s.now := by
  unfold State.gapPassed
  cases h : s.motors.lastGrant with
  | none => simp
  | some g => simp

theorem arbiterTest_of_head (hf : s.motors.fifo = p :: rest) (h : s.maygrant p) : s.arbiterTest = s.grant p rest := by
  have hstart : s.someStarting = false := by
    rw [← Bool.not_eq_true, someStarting_iff]; exact fun ⟨q, hq⟩ => h.1 q hq
  simp [State.arbiterTest, hf, hstart, (gapPassed_iff s).2 h.2.1, h.2.2]

theorem arbiterTest_of_not (h : ∀ p, s.motors.fifo.head? = some p → ¬ s.maygrant p) : s.arbiterTest = s := by
  unfold State.arbiterTest
  split
  · rfl
  case h_2 p rest hf =>
    refine if_neg fun hc => h p (by simp [hf]) ?_
    simp only [Bool.and_eq_true, Bool.not_eq_true', decide_eq_true_eq] at hc
    obtain ⟨⟨hstart, hgap⟩, hrest⟩ := hc
    refine ⟨fun q hq => ?_, (gapPassed_iff s).1 hgap, hrest⟩
    rw [(someStarting_iff s).2 ⟨q, hq⟩] at hstart
    cases hstart

/-- The state in which the head has its start slot, before its pressure-ok input is looked at (R80, R82). -/
def State.granted (s : State) (p : Product) (rest : List Product) : State :=
  ({ s with motors := {
      motor := s.motors.motor.set p { s.motor p with
        state := .starting, contactor := true, pressureT := some (s.now + seconds s.exch.config.pressureTimeout) }
      fifo := rest
      lastGrant := some (s.now, s.now + seconds s.exch.config.motorGap) } } : State).postStatus

@[simp] theorem State.granted_frame (s : State) (p : Product) (rest : List Product) :
    (s.granted p rest).now = s.now ∧ (s.granted p rest).pfe = s.pfe ∧ (s.granted p rest).sides = s.sides ∧
      (s.granted p rest).prices = s.prices ∧ (s.granted p rest).display = s.display ∧
      (s.granted p rest).gates = s.gates ∧ (s.granted p rest).store = s.store ∧
      (s.granted p rest).journal = s.journal ∧ (s.granted p rest).mode = s.mode ∧
      (s.granted p rest).exch.config = s.exch.config ∧ (s.granted p rest).pins = s.pins ∧
      (s.granted p rest).pending = s.pending := by
  simp [State.granted]

theorem granted_motors (s : State) (p : Product) (rest : List Product) : (s.granted p rest).motors = {
      motor := s.motors.motor.set p { s.motor p with
        state := .starting, contactor := true, pressureT := some (s.now + seconds s.exch.config.pressureTimeout) }
      fifo := rest
      lastGrant := some (s.now, s.now + seconds s.exch.config.motorGap) } := by
  simp [State.granted]

theorem grant_eq (s : State) (p : Product) (rest : List Product) :
    s.grant p rest = if s.pins.pressureOk.get p then (s.granted p rest).confirmStart p else s.granted p rest := rfl

theorem exec_slot {c : Instr} (hc : c ∈ [Instr.startSlotGrant dt, .motorGap dt, .restartGap dt]) (s : State) :
    exec c s = .next ((s.elapse dt).arbiterTest).afterMotors := by
  simp only [List.mem_cons, List.not_mem_nil, or_false] at hc
  rcases hc with rfl | rfl | rfl <;> rfl

end Sys2Proof.Machine

open Sys2Proof Sys2Proof.Machine

/-- Settles O25: a grant, a grant under pressure, and the test that grants nothing. -/
theorem startSlotIsGranted : Obligations.StartSlotIsGranted := by
  unfold Obligations.StartSlotIsGranted
  refine fun dt c s hc hnone => ⟨fun p rest hf hstart hgap hrest hp => ?_, fun p rest hf hstart hgap hrest hp => ?_,
    fun h => ?_⟩
  · have hgrant : (s.elapse dt).arbiterTest = (s.elapse dt).granted p rest := by
      rw [arbiterTest_of_head (s := s.elapse dt) hf ⟨hstart, hgap, hrest⟩, grant_eq, if_neg (by simp [hp])]
    have hafter : ((s.elapse dt).granted p rest).afterMotors = (s.elapse dt).granted p rest :=
      afterMotors_of_none (hnone.of_eq (by simp) (by simp))
    refine ⟨_, (exec_slot hc s).trans (by rw [hgrant, hafter]), by simp [lands_iff], ?_⟩
    rw [granted_motors]
    simp
  · have hgrant : (s.elapse dt).arbiterTest = ((s.elapse dt).granted p rest).confirmStart p := by
      rw [arbiterTest_of_head (s := s.elapse dt) hf ⟨hstart, hgap, hrest⟩, grant_eq, if_pos (by simpa using hp)]
    have hmode : (((s.elapse dt).granted p rest).confirmStart p).mode = s.mode := by
      rw [(MotorsTell.confirmStart _ p).mode (by simpa using hnone.2)]
      simp
    have hafter := afterMotors_of_not_prime (s := ((s.elapse dt).granted p rest).confirmStart p)
      (by rw [hmode]; exact hnone.2)
    have hmotors : ((((s.elapse dt).granted p rest).confirmStart p).bothSides State.startingTest).motors = _ :=
      (State.bothStarting_frame _).2.2.2.1.trans (confirmStart_motors _ p)
    have hself := (congrArg (fun m => m.motor.get p) hmotors).trans (PerProduct.get_set_self _ _ _)
    have hhead : ((s.elapse dt).granted p rest).motor p = { s.motor p with
        state := .starting, contactor := true
        pressureT := some (s.now + dt + seconds s.exch.config.pressureTimeout) } := by
      rw [State.motor, granted_motors]; simp
    rw [hhead] at hself
    refine ⟨_, (exec_slot hc s).trans (by rw [hgrant, hafter]), by simp [lands_iff, hmode], fun q hq => ?_, ?_, ?_,
      fun hu => ?_, fun hu => ?_⟩
    · refine (congrArg (fun m => m.motor.get q) hmotors).trans ((PerProduct.get_set_ne _ _ hq).trans ?_)
      rw [granted_motors]
      exact PerProduct.get_set_ne _ _ hq
    · rw [hmotors, granted_motors]
    · rw [hmotors, granted_motors]; rfl
    · refine hself.trans ?_
      simp [State.confirmed, hu]
    · have hquiet := confirmStart_of_no_users (s := (s.elapse dt).granted p rest) (p := p) (by rw [hhead]; exact hu)
      have hstays := bothStarting_of_not (s := ((s.elapse dt).granted p rest).confirmStart p)
        (hnone.of_eq (by simp [hquiet]) (by simp [hquiet])).1
      have hdown : ((((s.elapse dt).granted p rest).confirmStart p).bothSides State.startingTest).motor p =
          ((s.elapse dt).granted p rest).ranDown { s.motor p with
            state := .starting, contactor := true
            pressureT := some (s.now + dt + seconds s.exch.config.pressureTimeout) } := by
        refine hself.trans ?_
        simp [State.confirmed, hu]
      refine ⟨by rw [hstays]; simp [hquiet], fun hidle => ?_, fun hidle => ?_⟩
      · rw [hdown]; simp [State.ranDown, hidle]
      · have hstop : ((((s.elapse dt).granted p rest).confirmStart p).bothSides State.startingTest).motor p =
            ((s.elapse dt).granted p rest).ranDown (s.motor p) := by
          rw [hdown]; simp [State.ranDown, hidle, State.opened]
        exact stoppedNow_ranDown (by simp) (by simp) hidle hstop
  · refine (exec_slot hc s).trans (congrArg _ ?_)
    rw [arbiterTest_of_not (s := s.elapse dt)]
    · exact afterMotors_of_none (hnone.of_eq rfl rfl)
    rintro p hp ⟨hstart, hgap, hrest⟩
    rcases h with h | ⟨q, hq⟩ | ⟨g, hg, hlt⟩ | ⟨p', hp', hlt⟩
    · simp [h] at hp
    · exact hstart q hq
    · exact absurd (hgap g hg) (Nat.not_le.2 hlt)
    · have : p' = p := Option.some.inj (hp'.symm.trans hp)
      subst this
      exact absurd hrest (Nat.not_le.2 hlt)
end


/-! ### A motor that leaves FAILED -/
section
namespace Sys2Proof.Machine

variable {s t u : State} {p : Product} {dt : Nat}

theorem NoneBeforeFlow.of_eq (h : NoneBeforeFlow s) (hs : t.sides = s.sides) (hm : t.mode = s.mode) :
    NoneBeforeFlow t :=
  ⟨fun sd => by rw [State.side, hs]; exact h.1 sd, by rw [hm]; exact h.2⟩

theorem noticeLeftFailed_of_none (h : ∀ sd, (s.side sd).state ≠ .authorized) : s.noticeLeftFailed = s := by
  rw [State.noticeLeftFailed, State.bothSides, State.testReadiness_of_not (h .a),
    State.testReadiness_of_not (h .b)]

theorem unfailMotor_motors (s : State) (p : Product) : (s.unfailMotor p).motors = { s.motors with
    motor := s.motors.motor.set p { s.motor p with state := .stopped, failHoldT := none } } := by
  simp [State.unfailMotor, State.setMotor]

/-- A motor that leaves FAILED without users stops (R86). -/
theorem motorRecovers_of_no_users (h : NoneBeforeFlow u) (husers : (u.motor p).users.any = false) :
    u.motorRecovers p = u.unfailMotor p := by
  have hflow : NoneBeforeFlow (u.unfailMotor p) :=
    h.of_eq (by simp [State.unfailMotor]) (by simp [State.unfailMotor])
  have hrejoin : (u.unfailMotor p).rejoin p = u.unfailMotor p := by
    rw [State.rejoin, State.motor, unfailMotor_motors]
    simp [husers]
  rw [State.motorRecovers, noticeLeftFailed_of_none fun sd => (hflow.1 sd).1, hrejoin,
    afterMotors_of_none hflow.leaves]

/-- A motor that has left FAILED and waits for its start at the tail of the FIFO (R79, R86). -/
def State.rejoined (s : State) (p : Product) : State :=
  (((s.unfailMotor p).setMotor p { s.motor p with state := .waiting, failHoldT := none }).setFifo
    (s.motors.fifo ++ [p])).postStatus

@[simp] theorem State.rejoined_frame (s : State) (p : Product) :
    (s.rejoined p).now = s.now ∧ (s.rejoined p).pfe = s.pfe ∧ (s.rejoined p).sides = s.sides ∧
      (s.rejoined p).prices = s.prices ∧ (s.rejoined p).display = s.display ∧ (s.rejoined p).gates = s.gates ∧
      (s.rejoined p).store = s.store ∧ (s.rejoined p).journal = s.journal ∧ (s.rejoined p).mode = s.mode ∧
      (s.rejoined p).pins = s.pins ∧ (s.rejoined p).pending = s.pending ∧
      (s.rejoined p).exch.owned = s.exch.owned := by
  simp [State.rejoined, State.unfailMotor]

theorem rejoined_motors (s : State) (p : Product) : (s.rejoined p).motors = { s.motors with
    motor := s.motors.motor.set p { s.motor p with state := .waiting, failHoldT := none }
    fifo := s.motors.fifo ++ [p] } := by
  have twice : ∀ (t : PerProduct Motor) (x y : Motor), (t.set p x).set p y = t.set p y := by cases p <;> intros <;> rfl
  simp [State.rejoined, State.setMotor, State.setFifo, unfailMotor_motors, twice]

/-- A motor that leaves FAILED with users joins the FIFO, while another that is STARTING keeps the start slot (R79, R86). -/
theorem motorRecovers_of_users (h : NoneBeforeFlow u) (husers : (u.motor p).users.any = true)
    (hfailed : (u.motor p).state = .failed) (hstart : ∃ q, (u.motor q).state = .starting)
    (hfifo : p ∉ u.motors.fifo) : u.motorRecovers p = u.rejoined p := by
  have hflow : NoneBeforeFlow (u.unfailMotor p) :=
    h.of_eq (by simp [State.unfailMotor]) (by simp [State.unfailMotor])
  have hself : (u.unfailMotor p).motor p = { u.motor p with state := .stopped, failHoldT := none } := by
    rw [State.motor, unfailMotor_motors]; simp
  have hrejoin : (u.unfailMotor p).rejoin p = (u.rejoined p).arbiterTest := by
    have hf : (u.unfailMotor p).motors.fifo = u.motors.fifo := by rw [unfailMotor_motors]
    rw [State.rejoin, hself, if_pos ⟨rfl, husers⟩, State.joinFifo, hself]
    simp only [State.setMotor, hf, if_neg hfifo]
    rfl
  obtain ⟨q, hq⟩ := hstart
  have hqp : q ≠ p := by rintro rfl; rw [hfailed] at hq; cases hq
  have hbusy : (u.rejoined p).arbiterTest = u.rejoined p := arbiterTest_of_not fun _ _ hm => hm.1 q (by
    rw [State.motor, rejoined_motors, PerProduct.get_set_ne _ _ hqp]; exact hq)
  rw [State.motorRecovers, noticeLeftFailed_of_none fun sd => (hflow.1 sd).1, hrejoin, hbusy]
  exact afterMotors_of_none (h.leaves.of_eq (by simp) (by simp))

theorem exec_failHold {d : Nat} (h : (s.motor p).state = .failed) (ht : (s.motor p).failHoldT = some d)
    (hd : d ≤ s.now + dt) : exec (.failHold dt p) s = .next ((s.elapse dt).motorRecovers p) := by
  have hdue : (s.motor p).failHoldT.due (s.now + dt) = true := due_of_le ht hd
  simp [exec, execFailHold, h, hdue]

theorem exec_motorRetry {ref : Word32} {n : Nat} (h : CanTouch s Folio.siteOrder) : exec (.motorRetry dt ref n) s =
    .next ((s.taken dt Folio.siteOrder ref (siteBytes 4 (byte1 n))).serveMotorRetry n) :=
  congrArg _ (State.request_eq h siteOrder_ge _)

theorem serveMotorRetry_of_failed {n : Nat} (hn : Product.ofNumber n = some p) (h : (u.motor p).state = .failed) :
    u.serveMotorRetry n = (u.motorRecovers p).handOver Folio.siteOrder .done := by
  simp [State.serveMotorRetry, hn, h]

end Sys2Proof.Machine

open Sys2Proof Sys2Proof.Machine

/-- Settles O28: MOTOR_RETRY's refusals, and the recovery without and with users. -/
theorem failedMotorsRecover : Obligations.FailedMotorsRecover := by
  unfold Obligations.FailedMotorsRecover
  refine fun dt ref n s => ⟨fun hs hn => ?_, fun p hs hn h => ?_, fun p h husers hflow => ⟨fun d ht hd => ?_,
    fun hs hn => ?_⟩, fun p h husers hflow hstart hfifo => ⟨fun d ht hd => ?_, fun hs hn => ?_⟩⟩
  · exact ⟨_, exec_motorRetry hs, refused_of (bytes := siteBytes 4 (byte1 n)) hs siteOrder_ge
      (by simp [State.serveMotorRetry, hn])⟩
  · exact ⟨_, exec_motorRetry hs, refused_of (bytes := siteBytes 4 (byte1 n)) hs siteOrder_ge
      (by simp [State.serveMotorRetry, hn, h])⟩
  · refine ⟨_, (exec_failHold h ht hd).trans (congrArg _ (motorRecovers_of_no_users (u := s.elapse dt)
      (hflow.of_eq rfl rfl) husers)), ?_, ?_⟩
    · simp [lands_iff, State.unfailMotor]
    · rw [unfailMotor_motors]; rfl
  · have hserve := serveMotorRetry_of_failed (u := s.taken dt Folio.siteOrder ref (siteBytes 4 (byte1 n))) hn
      (by simpa using h)
    rw [motorRecovers_of_no_users (hflow.of_eq (by simp) (by simp)) (by simpa using husers)] at hserve
    refine ⟨_, (exec_motorRetry hs).trans (congrArg _ hserve), ?_, ?_,
      answered_handOver (dt := dt) (bytes := siteBytes 4 (byte1 n)) hs siteOrder_ge (by simp [State.unfailMotor]) _ _⟩
    · simp [lands_iff, State.unfailMotor]
    · simp [unfailMotor_motors]
  · refine ⟨_, (exec_failHold h ht hd).trans (congrArg _ (motorRecovers_of_users (u := s.elapse dt)
      (hflow.of_eq rfl rfl) husers h hstart hfifo)), ?_, ?_⟩
    · simp [lands_iff]
    · rw [rejoined_motors]; rfl
  · have hserve := serveMotorRetry_of_failed (u := s.taken dt Folio.siteOrder ref (siteBytes 4 (byte1 n))) hn
      (by simpa using h)
    rw [motorRecovers_of_users (hflow.of_eq (by simp) (by simp)) (by simpa using husers) (by simpa using h)
      (by simpa using hstart) (by simpa using hfifo)] at hserve
    refine ⟨_, (exec_motorRetry hs).trans (congrArg _ hserve), ?_, ?_,
      answered_handOver (dt := dt) (bytes := siteBytes 4 (byte1 n)) hs siteOrder_ge (by simp) _ _⟩
    · simp [lands_iff]
    · simp [rejoined_motors]
end


/-! ### A motor that fails -/
section
namespace Sys2Proof.Machine

variable {s t u : State} {sd : Side} {p q : Product} {dt : Nat} {o : Sale}

/-- The grade of a side's captured sale needs the product, as the side itself judges it (R69). -/
theorem saleNeeds_iff (s : State) (sd : Side) (p : Product) :
    SaleNeeds s sd p ↔ ∃ c, s.saleComp sd = some c ∧ c.uses p = true := by
  unfold State.saleComp SaleNeeds
  cases ho : (s.side sd).sale with
  | none => simp
  | some o => cases hc : o.cap <;> simp [hc, State.compOf]

/-- The FAILED notice outside AUTHORIZED and STARTING: the sale goes to ENDING or the side stands (R69). -/
theorem noticeMotorFailed_cases (h : (u.side sd).state ≠ .authorized) (h' : (u.side sd).state ≠ .starting) :
    (SaleNeeds u sd p ∧ ((u.side sd).state.delivers = true ∨ (u.side sd).state = .suspended) ∧
        u.noticeMotorFailed sd p = u.toEnding sd .noPump) ∨
      ((¬ SaleNeeds u sd p ∨ ((u.side sd).state.delivers = false ∧ (u.side sd).state ≠ .suspended)) ∧
        u.noticeMotorFailed sd p = u) := by
  rw [saleNeeds_iff]
  cases hc : u.saleComp sd with
  | none => cases hs : (u.side sd).state <;> simp_all [State.noticeMotorFailed]
  | some c =>
    cases hp : c.uses p <;> cases hs : (u.side sd).state <;>
      simp_all [State.noticeMotorFailed, SideState.delivers]

/-- The notice to a side in neither AUTHORIZED nor STARTING, told from a state with its side and its grades. -/
theorem noticeMotorFailed_told (hside : u.side sd = s.side sd) (hprices : u.prices = s.prices)
    (h : (s.side sd).state ≠ .authorized) (h' : (s.side sd).state ≠ .starting) :
    FailureIsTold s (u.noticeMotorFailed sd p) sd p ∧
      (u.noticeMotorFailed sd p).side sd.other = u.side sd.other ∧
      (u.noticeMotorFailed sd p).motors = u.motors ∧ (u.noticeMotorFailed sd p).mode = u.mode ∧
      (u.noticeMotorFailed sd p).exch.log = u.exch.log ∧
      (u.noticeMotorFailed sd p).store = u.store ∧ (u.noticeMotorFailed sd p).pfe = u.pfe ∧
      (u.noticeMotorFailed sd p).gates = u.gates ∧ (u.noticeMotorFailed sd p).prices = u.prices ∧
      ((u.noticeMotorFailed sd p).side sd).state ≠ .authorized ∧
      ((u.noticeMotorFailed sd p).side sd).state ≠ .starting := by
  have hneeds : SaleNeeds u sd p ↔ SaleNeeds s sd p := by simp only [SaleNeeds, hside, hprices]
  rcases noticeMotorFailed_cases (p := p) (by rwa [hside]) (by rwa [hside]) with ⟨hn, hst, he⟩ | ⟨hn, he⟩
  · rw [hneeds] at hn
    rw [hside] at hst
    have hcopy := hn
    obtain ⟨o', c', ho, -, -⟩ := hcopy
    obtain ⟨⟨hgoes, hother⟩, -⟩ := u.toEnding_endsWith sd (reason := .noPump) (by rw [hside]; exact ho)
    rw [he]
    have hending : ((u.toEnding sd .noPump).side sd).state = .ending := hgoes.1
    refine ⟨⟨fun _ _ => ?_, fun hnot => ?_⟩, hother, by simp, by simp, by simp, by simp, by simp, by simp, by simp,
      by simp [hending], by simp [hending]⟩
    · rwa [GoesToEnding, hside] at hgoes
    · rcases hnot with hnot | ⟨hd, hs⟩
      · exact absurd hn hnot
      · rcases hst with hst | hst
        · rw [hst] at hd; cases hd
        · exact absurd hst hs
  · rw [hneeds, hside] at hn
    rw [he]
    refine ⟨⟨fun hn' hst => ?_, fun _ => hside⟩, rfl, rfl, rfl, rfl, rfl, rfl, rfl, rfl, by rwa [hside], by rwa [hside]⟩
    rcases hn with hn | ⟨hd, hs⟩
    · exact absurd hn' hn
    · rcases hst with hst | hst
      · rw [hst] at hd; cases hd
      · exact absurd hst hs

theorem failMotor_motors (s : State) (p : Product) (c : MotorCause) : (s.failMotor p c).motors = { s.motors with
    motor := s.motors.motor.set p { s.opened (s.motor p) with
      state := .failed, failHoldT := some (s.now + seconds s.exch.config.failHold) } } := by
  simp [State.failMotor, State.setMotor, State.cfg]

theorem failMotor_nextEvent (s : State) (p : Product) (c : MotorCause) :
    (s.failMotor p c).exch.nextEvent = succ32 s.exch.nextEvent := by
  unfold State.failMotor
  dsimp only
  rw [(events_of_log (State.postStatus_quiet _).1).2]
  rfl

theorem primeFailed_of_not (h : s.mode.stage ≠ some .prime) : s.primeFailed p = s := by
  simp [State.primeFailed, h]

/-- A release by a user leaves a FAILED motor its state, and takes the user out of its set (R77). -/
theorem release_motor_of_failed (w : User) (h : (s.motor p).state = .failed) :
    (s.release w p).motor p = { s.motor p with users := (s.motor p).users.remove w } := by
  have hout : (s.motor p).users.has w = false → (s.motor p).users.remove w = (s.motor p).users := by
    obtain ⟨a, b, c⟩ := (s.motor p).users
    cases w with
    | side sd => cases sd <;> rintro rfl <;> rfl
    | prime => rintro rfl; rfl
  unfold State.release
  dsimp only
  split
  · split <;> simp [h]
  case isFalse hn => rw [hout (by simpa using hn)]

theorem release_motor_ne (w : User) (h : q ≠ p) : (s.release w p).motor q = s.motor q := by
  unfold State.release
  dsimp only
  repeat' split
  all_goals simp [State.motor, State.setMotor, State.dropFifo, State.setFifo, rundown_motors,
    PerProduct.get_set_ne _ _ h]

theorem release_fifo (w : User) (h : s.motors.fifo = []) : (s.release w p).motors.fifo = [] := by
  unfold State.release
  dsimp only
  repeat' split
  all_goals simp [State.setMotor, State.dropFifo, State.setFifo, rundown_motors, h]

/-- With an empty FIFO a FAILED motor loses the user that releases every product, and no motor is granted (R77, R81). -/
theorem releaseAll_motor_of_failed (w : User) (hf : s.motors.fifo = []) (h : (s.motor p).state = .failed) :
    (s.releaseAll w).motor p = { s.motor p with users := (s.motor p).users.remove w } ∧
      (s.releaseAll w).motors.fifo = [] := by
  have hfifo : (((s.release w .low).release w .high).release w .aux).motors.fifo = [] :=
    release_fifo w (release_fifo w (release_fifo w hf))
  have hall : s.releaseAll w = ((s.release w .low).release w .high).release w .aux := by
    rw [State.releaseAll, State.newHeadTest, if_pos (by rw [hfifo, hf])]
  rw [hall]
  refine ⟨?_, hfifo⟩
  cases p with
  | low => rw [release_motor_ne w (by decide), release_motor_ne w (by decide), release_motor_of_failed w h]
  | high =>
    have hkeep : (s.release w .low).motor .high = s.motor .high := release_motor_ne w (by decide)
    rw [release_motor_ne w (by decide), release_motor_of_failed w (by rwa [hkeep]), hkeep]
  | aux =>
    have hkeep : ((s.release w .low).release w .high).motor .aux = s.motor .aux :=
      (release_motor_ne w (by decide)).trans (release_motor_ne w (by decide))
    rw [release_motor_of_failed w (by rwa [hkeep]), hkeep]

/-- What the completion of a sale does to a FAILED motor with an empty FIFO: its side is no longer a user (R67, R77). -/
theorem finishSale_motor_of_failed (ho : (s.side sd).sale = some o) (reason : Option EndReason)
    (hswap : (s.side sd).state.blocksSwap = false ∨ s.prices.swapDue = false) (hstage : s.mode.stage = none)
    (hf : s.motors.fifo = []) (h : (s.motor p).state = .failed) :
    (s.finishSale sd reason).motor p = { s.motor p with users := (s.motor p).users.remove (.side sd) } ∧
      (s.finishSale sd reason).motors.fifo = [] := by
  have hm : (s.completeSale sd reason).mode = s.mode := completeSale_mode ho reason (by simp [hstage])
  have hmotors : (s.finishSale sd reason).motors = (s.leaving sd o).motors := by
    rw [finishSale_eq reason hswap, drainReport_of_not (by simp [hm, hstage]), State.completeSale_eq ho]
    simp [State.setSide]
  have hleave : (s.leaving sd o).motors =
      ((if o.cap.isSome then s.detachMeters sd else s).releaseAll (.side sd)).motors := by
    simp [State.leaving]
  have hd : (if o.cap.isSome then s.detachMeters sd else s).motors = s.motors := by split <;> simp
  have hdm : (if o.cap.isSome then s.detachMeters sd else s).motor p = s.motor p := by rw [State.motor, hd]; rfl
  have hrel := releaseAll_motor_of_failed (s := if o.cap.isSome then s.detachMeters sd else s) (p := p) (.side sd)
    (by rw [hd]; exact hf) (by rw [hdm]; exact h)
  rw [hdm] at hrel
  exact ⟨(congrArg (fun m => m.motor.get p) (hmotors.trans hleave)).trans hrel.1,
    (congrArg Motors.fifo (hmotors.trans hleave)).trans hrel.2⟩

end Sys2Proof.Machine
end


/-! ### The notices of a failed motor -/
section
namespace Sys2Proof.Machine

variable {s t u : State} {sd : Side} {p : Product} {dt : Nat} {o : Sale} {n : Fin 4} {g : Fin 6}

theorem FailureIsTold.of_side (h : FailureIsTold s u sd p) (hside : t.side sd = u.side sd) :
    FailureIsTold s t sd p := by
  unfold FailureIsTold GoesToEnding at *
  rwa [hside]

/-- The side whose nozzle alone is lifted finds that nozzle (R50). -/
theorem onlyLifted_of_onlyUp {x : SideCtl} (h : x.nozzles = onlyUp n) : x.onlyLifted = some n ∧ x.anyLifted = true := by
  unfold SideCtl.onlyLifted SideCtl.lifted SideCtl.anyLifted
  rw [h]
  clear h
  revert n
  decide

theorem metersOk_iff (s : State) (sd : Side) (c : Composition) :
    s.metersOk sd c = true ↔ ∀ q, c.uses q = true → (s.chan ⟨sd, q⟩).fault = none := by
  have hall : ∀ q : Product, q ∈ Product.all := fun q => by cases q <;> decide
  simp only [State.metersOk, List.all_eq_true, hall, forall_const, Bool.or_eq_true, Bool.not_eq_true',
    decide_eq_true_eq]
  exact forall_congr' fun q => by cases c.uses q <;> simp

theorem productsOk_iff (s : State) (c : Composition) :
    s.productsOk c = true ↔ ∀ q, c.uses q = true → (s.motor q).state ≠ .failed := by
  have hall : ∀ q : Product, q ∈ Product.all := fun q => by cases q <;> decide
  simp only [State.productsOk, List.all_eq_true, hall, forall_const, Bool.or_eq_true, Bool.not_eq_true',
    decide_eq_true_eq]
  exact forall_congr' fun q => by cases c.uses q <;> simp

/-- A side ready but for a FAILED product is not ready for that reason alone (R50). -/
theorem readiness_of_failed {mask : BitVec 6} (hn : (s.side sd).nozzles = onlyUp n)
    (hg : (s.prices.maps.get sd).get n = some g) (hmask : mask.getLsbD g.val = true)
    (hmeters : ∀ q, (s.prices.grades.get g).comp.uses q = true → (s.chan ⟨sd, q⟩).fault = none)
    (hp : (s.prices.grades.get g).comp.uses p = true) (hfailed : (s.motor p).state = .failed) :
    s.readiness sd mask = .notReady true := by
  have hno : s.productsOk (s.prices.grades.get g).comp = false := by
    rw [← Bool.not_eq_true, productsOk_iff]; exact fun h => h p hp hfailed
  simp [State.readiness, (onlyLifted_of_onlyUp hn).1, hg, hmask, (metersOk_iff s sd _).2 hmeters, hno]

@[simp] theorem State.showTest_side (s : State) (sd : Side) (w l n : Bool) :
    (s.showTest sd w l n).side sd = { s.side sd with waiting := w, nozzleLamp := l, noPumpTest := n } ∧
      (s.showTest sd w l n).side sd.other = s.side sd.other := by
  unfold State.showTest
  dsimp only
  repeat' split
  all_goals simp

/-- A side in AUTHORIZED that only a FAILED product keeps from capture lights NOZZLE and asks for NO PUMP (R50, R69). -/
theorem noticeMotorFailed_of_authorized (h : (u.side sd).state = .authorized) (ho : (u.side sd).sale = some o)
    (hn : (u.side sd).nozzles = onlyUp n) (hready : u.readiness sd o.mask = .notReady true) :
    u.noticeMotorFailed sd p = u.showTest sd false true true := by
  simp [State.noticeMotorFailed, h, State.testReadiness, ho, hready, (onlyLifted_of_onlyUp hn).2]

/-- Outside PRIME and with an empty FIFO a failure is its two notices and no more (R80, R85). -/
theorem motorFails_eq {c : MotorCause} {v : State}
    (hv : ((s.failMotor p c).noticeMotorFailed .a p).noticeMotorFailed .b p = v) (hstage : v.mode.stage ≠ some .prime)
    (hfifo : v.motors.fifo = []) (hstart : ∀ sd, (v.side sd).state ≠ .starting) : s.motorFails p c = v := by
  simp only [State.motorFails, hv]
  rw [primeFailed_of_not hstage, arbiterTest_of_nil hfifo]
  exact afterMotors_of_none ⟨fun sd => startReady_of_state (hstart sd), hstage⟩

theorem exec_of_failsNow {c : Instr} (h : FailsNow c s dt p) :
    ∃ cause, exec c s = .next ((s.elapse dt).motorFails p cause) := by
  obtain ⟨d, hd, ⟨rfl, hst, ht⟩ | ⟨rfl, hst, ht⟩⟩ := h
  · have hdue : (s.motor p).pressureT.due (s.now + dt) = true := due_of_le ht hd
    exact ⟨.noPressure, by simp [exec, execPressureTimeout, hst, hdue]⟩
  · have hdue : (s.motor p).lossT.due (s.now + dt) = true := due_of_le ht hd
    exact ⟨.pressureLost, by simp [exec, execPressureLost, hst, hdue]⟩

/-- The failed motor as the failure leaves it (R85). -/
theorem failMotor_motor (s : State) (p : Product) (c : MotorCause) : (s.failMotor p c).motor p =
    { s.opened (s.motor p) with state := .failed, failHoldT := some (s.now + seconds s.exch.config.failHold) } := by
  rw [State.motor, failMotor_motors]; simp

theorem stoppedNow_opened (hm : t.motor p = { (s.elapse dt).opened (s.motor p) with
      state := .failed, failHoldT := some (s.now + dt + seconds s.exch.config.failHold) })
    (hnow : t.now = s.now + dt) : (t.motor p).state = .failed ∧ StoppedNow s t p ∧
      (t.motor p).failHoldT = some (t.now + seconds s.exch.config.failHold) := by
  unfold StoppedNow
  rw [hm, hnow]
  simp [State.opened, State.cfg]

/-- A failure that finds both sides in neither AUTHORIZED nor STARTING (R85). -/
theorem motorFails_of_flow {c : Instr} (hc : FailsNow c s dt p) (hflow : NoneBeforeFlow s) (hf : s.motors.fifo = []) :
    ∃ t, exec c s = .next t ∧ Lands dt [.sides, .motors, .display, .journal, .exch] s t ∧
      (t.motor p).state = .failed ∧ StoppedNow s t p ∧
      (t.motor p).failHoldT = some (t.now + seconds s.exch.config.failHold) ∧ (∀ sd, FailureIsTold s t sd p) ∧
      (∀ q, q ≠ p → t.motor q = s.motor q) ∧ t.exch.nextEvent = succ32 s.exch.nextEvent := by
  obtain ⟨cause, hex⟩ := exec_of_failsNow hc
  have hside : ∀ sd, ((s.elapse dt).failMotor p cause).side sd = s.side sd := fun sd => by simp [State.side]
  obtain ⟨told, hother, hmotors, hmode, hlog, hstore, hpfe, hgates, hprices, hna, hns⟩ :=
    noticeMotorFailed_told (p := p) (hside .a) (by simp) (hflow.1 .a).1 (hflow.1 .a).2
  have hb : (((s.elapse dt).failMotor p cause).noticeMotorFailed .a p).side .b = s.side .b := hother.trans (hside .b)
  obtain ⟨told', hother', hmotors', hmode', hlog', hstore', hpfe', hgates', hprices', hna', hns'⟩ :=
    noticeMotorFailed_told (sd := .b) (p := p) hb (hprices.trans (by simp)) (hflow.1 .b).1 (hflow.1 .b).2
  have hmode2 := hmode'.trans (hmode.trans (State.failMotor_frame _ _ _).2.2.2.2.2.2.2.2.1)
  have hmotors2 := hmotors'.trans (hmotors.trans (failMotor_motors _ _ _))
  have heq := motorFails_eq (s := s.elapse dt) (p := p) (c := cause) rfl (by rw [hmode2]; exact hflow.2)
    (by rw [hmotors2]; exact hf) (fun sd => by
      cases sd
      · exact fun h => hns ((congrArg SideCtl.state hother').symm.trans h)
      · exact hns')
  rw [heq] at hex
  have hself := congrArg (fun m => m.motor.get p) hmotors2
  simp only [PerProduct.get_set_self] at hself
  obtain ⟨hstate, hstop, hhold⟩ := stoppedNow_opened (s := s) (dt := dt) hself (by simp)
  refine ⟨_, hex, ?_, hstate, hstop, hhold, fun sd => ?_, fun q hq => ?_, ?_⟩
  · simp [lands_iff, hpfe', hpfe, hprices', hprices, hgates', hgates, hstore', hstore, hmode2]
  · cases sd
    · exact told.of_side hother'
    · exact told'
  · exact (congrArg (fun m => m.motor.get q) hmotors2).trans (PerProduct.get_set_ne _ _ hq)
  · rw [(events_of_log (hlog'.trans hlog)).2]
    exact failMotor_nextEvent _ _ _

end Sys2Proof.Machine
end


/-! ### Motors that fail or run down -/
section
namespace Sys2Proof.Machine

variable {s t u v : State} {sd : Side} {p : Product} {dt : Nat} {o : Sale} {n : Fin 4} {g : Fin 6} {cause : MotorCause}

/-- A completed sale leaves the other side, unless that is in STARTING, as it stands (R67). -/
theorem finishSale_side_other (ho : (s.side sd).sale = some o) (reason : Option EndReason)
    (hswap : (s.side sd).state.blocksSwap = false ∨ s.prices.swapDue = false)
    (hother : (s.side sd.other).state ≠ .starting) :
    (s.finishSale sd reason).side sd.other = s.side sd.other := by
  have hc : (s.completeSale sd reason).side sd.other = s.side sd.other :=
    (completeSale_side_other ho reason).trans (((s.leaving_tells sd o).hears sd.other).2 hother)
  have hb := bothStarting_side (s := s.completeSale sd reason) (sd := sd.other) (by rwa [hc])
  rw [finishSale_eq reason hswap, ((drainReport_hears _ sd) sd.other).2 (by rwa [hb, hc]), hb, hc]

/-- The sale of a side in STARTING has completed with NO_PUMP, and the side has left the FAILED motor (R69, R77). -/
structure NoPumpEnds (s v : State) (sd : Side) (p : Product) (o : Sale) : Prop where
  sale : (v.side sd).sale = none
  shows : (v.side sd).state ≠ .idle → (v.side sd).noPumpEnd = true
  left : (v.side sd).state ≠ .starting
  motor : v.motor p = { s.motor p with users := (s.motor p).users.remove (.side sd) }
  fifo : v.motors.fifo = []
  record : ∃ r, (v.records sd).pending.map (·.record) = (s.records sd).pending.map (·.record) ++ [r] ∧
    r.number = o.record.number ∧ r.reason = some .noPump
  mode : v.mode = s.mode
  now : v.now = s.now
  other : v.side sd.other = s.side sd.other
  prices : v.prices = s.prices

/-- The FAILED notice to a side whose sale is in STARTING and needs the product (R69). -/
theorem noticeMotorFailed_of_starting (hst : (s.side sd).state = .starting) (hneeds : SaleNeeds s sd p)
    (ho : (s.side sd).sale = some o) (hrec : o.record.side = sd) (hswap : s.prices.swapDue = false)
    (hstage : s.mode.stage = none) (hf : s.motors.fifo = []) (hm : (s.motor p).state = .failed)
    (hother : (s.side sd.other).state ≠ .starting) : NoPumpEnds s (s.noticeMotorFailed sd p) sd p o := by
  obtain ⟨c, hc, hp⟩ := (saleNeeds_iff s sd p).1 hneeds
  have heq : s.noticeMotorFailed sd p = s.finishSale sd (some .noPump) := by
    simp [State.noticeMotorFailed, hst, hc, hp]
  have hside := finishSale_side ho (some .noPump) (.inr hswap)
  obtain ⟨hmotor, hfifo⟩ := finishSale_motor_of_failed ho (some .noPump) (.inr hswap) hstage hf hm
  obtain ⟨hpending, -, -⟩ := finishSale_records ho hrec (some .noPump) (.inr hswap) sd
  rw [heq]
  exact {
    sale := by rw [hside]; simp
    shows := by
      rw [hside]
      intro hidle
      have hnext : (s.side sd).nextAfter o s.mode.mode ≠ .idle := by simpa using hidle
      simp [hnext]
    left := by rw [hside]; simpa using nextAfter_ne_starting _ _ _
    motor := hmotor
    fifo := hfifo
    record := ⟨_, by rw [hpending, if_pos rfl], by simp, by simp⟩
    mode := (finishSale_quiet ho _ (.inr hswap) hstage).1
    now := by simp
    other := finishSale_side_other ho _ (.inr hswap) hother
    prices := (finishSale_store _ (.inr hswap)).2 }

/-- A failure while the sale of a side in STARTING needs the product, and the other side is in neither AUTHORIZED nor
STARTING (R69, R85). -/
theorem motorFails_of_starting (hst : (s.side sd).state = .starting) (hneeds : SaleNeeds s sd p)
    (ho : (s.side sd).sale = some o) (hrec : o.record.side = sd) (hswap : s.prices.swapDue = false)
    (hstage : s.mode.stage = none) (hf : s.motors.fifo = []) (ha : (s.side sd.other).state ≠ .authorized)
    (hs : (s.side sd.other).state ≠ .starting) :
    (s.motorFails p cause).now = s.now ∧
      (s.motorFails p cause).motor p = { (s.failMotor p cause).motor p with
        users := (s.motor p).users.remove (.side sd) } ∧
      ((s.motorFails p cause).side sd).sale = none ∧
      (((s.motorFails p cause).side sd).state ≠ .idle → ((s.motorFails p cause).side sd).noPumpEnd = true) ∧
      (∃ r, ((s.motorFails p cause).records sd).pending.map (·.record) =
        (s.records sd).pending.map (·.record) ++ [r] ∧ r.number = o.record.number ∧ r.reason = some .noPump) ∧
      FailureIsTold s (s.motorFails p cause) sd.other p := by
  generalize hF : s.failMotor p cause = F
  have hFside : ∀ x, F.side x = s.side x := fun x => by simp [← hF, State.side]
  have hFprices : F.prices = s.prices := by simp [← hF]
  have hFmode : F.mode = s.mode := by simp [← hF]
  have hFrec : F.records sd = s.records sd := by simp [← hF, State.records]
  have hFmotor : (F.motor p).state = .failed ∧ (F.motor p).users = (s.motor p).users := by
    rw [← hF, failMotor_motor]; exact ⟨rfl, rfl⟩
  have hFfifo : F.motors.fifo = [] := by rw [← hF, failMotor_motors]; exact hf
  have hFnow : F.now = s.now := by simp [← hF]
  have hFneeds : SaleNeeds F sd p := by simpa only [SaleNeeds, hFside, hFprices] using hneeds
  cases sd with
  | a =>
    have hend := noticeMotorFailed_of_starting (by rwa [hFside]) hFneeds (by rwa [hFside]) hrec (by rwa [hFprices])
      (by rwa [hFmode]) hFfifo hFmotor.1 (by rwa [hFside])
    generalize hu : F.noticeMotorFailed .a p = u at hend
    obtain ⟨told, hother, hmotors, hmode, -, hstore, -, -, -, -, hns⟩ :=
      noticeMotorFailed_told (s := s) (sd := .b) (p := p) (hend.other.trans (hFside _))
        (hend.prices.trans hFprices) ha hs
    have hself : (u.noticeMotorFailed .b p).side .a = u.side .a := hother
    have heq : s.motorFails p cause = u.noticeMotorFailed .b p :=
      motorFails_eq (by rw [hF, hu]) (by rw [hmode, hend.mode, hFmode, hstage]; simp)
        (by rw [hmotors]; exact hend.fifo) (fun x => by
          cases x
          · rw [hself]; exact hend.left
          · exact hns)
    have hmotor : (u.noticeMotorFailed .b p).motor p = u.motor p := congrArg (fun m => m.motor.get p) hmotors
    have hrecords : (u.noticeMotorFailed .b p).records .a = u.records .a := congrArg (fun q => q.records.get .a) hstore
    rw [heq, hmotor, hself, hrecords, hend.motor, ← hFrec, ← hFmotor.2]
    exact ⟨by simp [hend.now, hFnow], rfl, hend.sale, hend.shows, hend.record, told⟩
  | b =>
    obtain ⟨told, hother, hmotors, hmode, -, hstore, -, -, hprices, -, hns⟩ :=
      noticeMotorFailed_told (s := s) (sd := .a) (p := p) (hFside _) hFprices ha hs
    generalize hu : F.noticeMotorFailed .a p = u at told hother hmotors hmode hstore hprices hns
    have hnow : u.now = s.now := by rw [← hFnow, ← hu]; simp
    have hself : u.side .b = s.side .b := hother.trans (hFside _)
    have humotor : u.motor p = F.motor p := congrArg (fun m => m.motor.get p) hmotors
    have hrecords : u.records .b = F.records .b := congrArg (fun q => q.records.get .b) hstore
    have huneeds : SaleNeeds u .b p := by simpa only [SaleNeeds, hself, hprices, hFprices] using hneeds
    have hend := noticeMotorFailed_of_starting (by rwa [hself]) huneeds (by rwa [hself]) hrec
      (by rwa [hprices, hFprices]) (by rwa [hmode, hFmode]) (by rwa [hmotors]) (by rw [humotor]; exact hFmotor.1) hns
    have heq : s.motorFails p cause = u.noticeMotorFailed .b p :=
      motorFails_eq (by rw [hF, hu]) (by rw [hend.mode, hmode, hFmode, hstage]; simp) hend.fifo (fun x => by
        cases x
        · exact fun h => hns ((congrArg SideCtl.state hend.other).symm.trans h)
        · exact hend.left)
    rw [heq, hend.motor, humotor, ← hFrec, ← hFmotor.2, ← hrecords]
    exact ⟨hend.now.trans hnow, rfl, hend.sale, hend.shows, hend.record, told.of_side hend.other⟩

/-- A failure while only the product keeps a side in AUTHORIZED from capture (R50, R69, R85). -/
theorem motorFails_of_authorized (hst : (s.side sd).state = .authorized) (ho : (s.side sd).sale = some o)
    (hn : (s.side sd).nozzles = onlyUp n) (hg : (s.prices.maps.get sd).get n = some g)
    (hmask : o.mask.getLsbD g.val = true) (hp : (s.prices.grades.get g).comp.uses p = true)
    (hmeters : ∀ q, (s.prices.grades.get g).comp.uses q = true → (s.chan ⟨sd, q⟩).fault = none)
    (hstage : s.mode.stage = none) (hf : s.motors.fifo = []) (ha : (s.side sd.other).state ≠ .authorized)
    (hs : (s.side sd.other).state ≠ .starting) :
    Lands 0 [.sides, .motors, .display, .journal, .exch] s (s.motorFails p cause) ∧
      (s.motorFails p cause).motors = (s.failMotor p cause).motors ∧
      (s.motorFails p cause).side sd =
        { s.side sd with waiting := false, nozzleLamp := true, noPumpTest := true } ∧
      FailureIsTold s (s.motorFails p cause) sd.other p := by
  generalize hF : s.failMotor p cause = F
  have hland : Lands 0 [.motors, .exch, .journal] s F := by simp [lands_iff, ← hF]
  have hFside : ∀ x, F.side x = s.side x := fun x => by simp [← hF, State.side]
  have hFprices : F.prices = s.prices := by simp [← hF]
  have hFmode : F.mode = s.mode := by simp [← hF]
  have hFmotor : (F.motor p).state = .failed := by rw [← hF, failMotor_motor]
  have hFfifo : F.motors.fifo = [] := by rw [← hF, failMotor_motors]; exact hf
  have hFchan : ∀ m, F.chan m = s.chan m := fun m => by simp [← hF, State.chan]
  have shown : ∀ {u : State}, u.side sd = s.side sd → u.prices = s.prices → u.motors = F.motors →
      u.pfe = s.pfe → u.noticeMotorFailed sd p = u.showTest sd false true true := by
    intro u hu hprices hmotors hpfe
    have hready : u.readiness sd o.mask = .notReady true :=
      readiness_of_failed (by rw [hu, hn]) (by rw [hprices, hg]) hmask
        (by rw [hprices]; intro q hq; rw [State.chan, hpfe]; exact hmeters q hq) (by rw [hprices, hp])
        (by rw [State.motor, hmotors]; exact hFmotor)
    exact noticeMotorFailed_of_authorized (by rw [hu, hst]) (by rw [hu, ho]) (by rw [hu, hn]) hready
  have hFpfe : F.pfe = s.pfe := by simp [← hF]
  have hrest : F.now = s.now ∧ F.gates = s.gates ∧ F.store = s.store ∧ F.pins = s.pins ∧ F.pending = s.pending := by
    simp [← hF]
  obtain ⟨hnow, hgates, hstore, hpins, hpending⟩ := hrest
  cases sd with
  | a =>
    have hu := shown (hFside _) hFprices rfl hFpfe
    obtain ⟨hself, hother⟩ := F.showTest_side .a false true true
    obtain ⟨told, hkeep, hmotors', hmode', -, hstore', hpfe', hgates', hprices', -, hns⟩ :=
      noticeMotorFailed_told (s := s) (u := F.showTest .a false true true) (sd := .b) (p := p)
        (hother.trans (hFside _)) (by simp [hFprices]) ha hs
    have hkeep : ((F.showTest .a false true true).noticeMotorFailed .b p).side .a =
        (F.showTest .a false true true).side .a := hkeep
    have heq : s.motorFails p cause = (F.showTest .a false true true).noticeMotorFailed .b p :=
      motorFails_eq (by rw [hF, hu]) (by simp [hmode', hFmode, hstage]) (by simp [hmotors', hFfifo]) (fun x => by
        cases x
        · rw [hkeep, hself, hFside]; simp [hst]
        · exact hns)
    rw [heq, hkeep, hself, hFside]
    exact ⟨by simp [lands_iff, *], by simp [hmotors'], rfl, told⟩
  | b =>
    obtain ⟨told, hkeep, hmotors', hmode', -, hstore', hpfe', hgates', hprices', -, hns⟩ :=
      noticeMotorFailed_told (s := s) (sd := .a) (p := p) (hFside _) hFprices ha hs
    have hside : (F.noticeMotorFailed .a p).side .b = s.side .b := hkeep.trans (hFside _)
    have hu := shown hside (hprices'.trans hFprices) hmotors' (hpfe'.trans hFpfe)
    obtain ⟨hself, hother⟩ := (F.noticeMotorFailed .a p).showTest_side .b false true true
    have hother : ((F.noticeMotorFailed .a p).showTest .b false true true).side .a =
        (F.noticeMotorFailed .a p).side .a := hother
    have heq : s.motorFails p cause = (F.noticeMotorFailed .a p).showTest .b false true true :=
      motorFails_eq (by rw [hF, hu]) (by simp [hmode', hFmode, hstage]) (by simp [hmotors', hFfifo]) (fun x => by
        cases x
        · rw [hother]; exact hns
        · rw [hself, hside]; simp [hst])
    rw [heq, hself, hside]
    exact ⟨by simp [lands_iff, *], by simp [hmotors'], rfl, told.of_side hother⟩

/-- What a failed motor holds: its contactor open from now and its fail hold running (R85). -/
theorem failMotor_elapse (s : State) (dt : Nat) (p : Product) (c : MotorCause) : ((s.elapse dt).failMotor p c).motor p =
    { (s.elapse dt).opened (s.motor p) with
      state := .failed, failHoldT := some (s.now + dt + seconds s.exch.config.failHold) } := by
  rw [failMotor_motor]; simp

end Sys2Proof.Machine

open Sys2Proof Sys2Proof.Machine

/-- Settles O27: a failure is its motor's step and its two notices; no other motor starts and no side leaves STARTING. -/
theorem motorsFailAndStop : Obligations.MotorsFailAndStop := by
  unfold Obligations.MotorsFailAndStop
  intro dt p s d hd
  refine ⟨fun hflow hf hst ht => motorFails_of_flow ⟨d, hd, .inl ⟨rfl, hst, ht⟩⟩ hflow hf,
    fun hflow hf hst ht => motorFails_of_flow ⟨d, hd, .inr ⟨rfl, hst, ht⟩⟩ hflow hf,
    fun c sd hc hf ha hs hstage => ⟨fun o hst hneeds ho hrec hswap => ?_, fun o n g hst ho hn hg hmask hp hmeters => ?_⟩,
    fun hst ht => ?_⟩
  · obtain ⟨cause, hex⟩ := exec_of_failsNow hc
    obtain ⟨hnow, hmotor, hsale, hshows, ⟨r, hr, hnum, hreason⟩, told⟩ :=
      motorFails_of_starting (s := s.elapse dt) (cause := cause) hst hneeds ho hrec hswap hstage hf ha hs
    rw [failMotor_elapse] at hmotor
    refine ⟨_, r, hex, hnow, ?_, ?_, ?_, ?_, ?_, hsale, hshows, hr, hnum, hreason, told⟩ <;>
      simp [hmotor, State.opened]
  · obtain ⟨cause, hex⟩ := exec_of_failsNow hc
    obtain ⟨hland, hmotors, hself, told⟩ :=
      motorFails_of_authorized (s := s.elapse dt) (cause := cause) hst ho hn hg hmask hp hmeters hstage hf ha hs
    have hmotor := (congrArg (fun m => m.motor.get p) hmotors).trans (failMotor_elapse s dt p cause)
    have hnow : ((s.elapse dt).motorFails p cause).now = s.now + dt := hland.1
    obtain ⟨hfailed, hstop, -⟩ := stoppedNow_opened hmotor hnow
    exact ⟨_, hex, ⟨hnow, hland.2⟩, hfailed, hstop, hself, told⟩
  · have hdue : (s.motor p).rundownT.due (s.now + dt) = true := due_of_le ht hd
    have hex : exec (.idleRun dt p) s = .next ((s.elapse dt).rundownEnds p) := by
      simp [exec, execIdleRun, hst, hdue]
    have hmotor : ((s.elapse dt).rundownEnds p).motor p =
        { (s.elapse dt).opened (s.motor p) with state := .stopped } := by
      simp [State.rundownEnds, State.motor, State.setMotor]
    refine ⟨_, hex, by simp [lands_iff, State.rundownEnds, State.setMotor], by simp [hmotor], ?_, fun q hq => ?_,
      by simp [State.rundownEnds, State.setMotor], by simp [State.rundownEnds, State.setMotor], ?_⟩
    · have hnow : ((s.elapse dt).rundownEnds p).now = s.now + dt := by simp [State.rundownEnds, State.setMotor]
      simp [StoppedNow, hmotor, hnow, State.opened, State.cfg]
    · simp [State.rundownEnds, State.motor, State.setMotor, PerProduct.get_set_ne _ _ hq]
    · exact (events_of_log (State.postStatus_quiet _).1).2
end


/-! ### The Display Controller but for its two sides -/
section
set_option linter.unnecessarySeqFocus false
set_option linter.unusedTactic false
set_option linter.unreachableTactic false

namespace Sys2Proof.Machine

/-- The Display Controller's own items: the supply, the heater, the temperature and the dark timer. -/
def Display.plant (d : Display) : Display := { d with side := Both.same DispSide.reset }

theorem Display.plant_iff (d e : Display) : d.plant = e.plant ↔ d.supply = e.supply ∧ d.heater = e.heater ∧
    d.temperature = e.temperature ∧ d.warmT = e.warmT ∧ d.coldFlag = e.coldFlag ∧ d.darkT = e.darkT ∧
    d.darkening = e.darkening := by
  simp [Display.plant]

@[simp] theorem State.setDisp_plant (s : State) (sd : Side) (d : DispSide) :
    (s.setDisp sd d).display.plant = s.display.plant := rfl

@[simp] theorem State.recompose_plant (s : State) (sd : Side) : (s.recompose sd).display.plant = s.display.plant := by
  unfold State.recompose; dsimp only; (repeat' split) <;> simp

@[simp] theorem State.startTransfer_plant (s : State) (sd : Side) (f : List Byte) (p : Purpose) :
    (s.startTransfer sd f p).display.plant = s.display.plant := rfl

@[simp] theorem State.startComposed_plant (s : State) (sd : Side) (p : Purpose) :
    (s.startComposed sd p).display.plant = s.display.plant := rfl

@[simp] theorem State.nextTransfer_plant (s : State) (sd : Side) :
    (s.nextTransfer sd).display.plant = s.display.plant := by
  unfold State.nextTransfer; dsimp only; (repeat' split) <;> simp

@[simp] theorem State.abandonZero_plant (s : State) (sd : Side) :
    (s.abandonZero sd).display.plant = s.display.plant := by
  unfold State.abandonZero; dsimp only; (repeat' split) <;> simp

@[simp] theorem State.beginLamp_plant (s : State) (sd : Side) (order : Bool) :
    (s.beginLamp sd order).display.plant = s.display.plant := by
  unfold State.beginLamp; dsimp only; (repeat' split) <;> simp

@[simp] theorem State.displayFault_plant (s : State) (sd : Side) (c : DispCause) (i : Nat) :
    (s.displayFault sd c i).display.plant = s.display.plant := by
  unfold State.displayFault; simp

@[simp] theorem State.darkenSide_plant (s : State) (sd : Side) :
    (s.darkenSide sd).display.plant = s.display.plant := by
  unfold State.darkenSide State.releaseRetest; dsimp only; (repeat' split) <;> simp

/-! ### The WARM stage -/

variable {s t : State} {dt : Nat} {cold : Bool}

@[simp] theorem State.setMode_mode (s : State) (m : ModeCtl) : (s.setMode m).mode = m := rfl

@[simp] theorem State.toStage_mode (s : State) (st : Stage) : (s.toStage st).mode = { s.mode with stage := some st } := by
  simp [State.toStage]

@[simp] theorem State.lampStage_plant (s : State) : s.lampStage.display.plant = s.display.plant := by
  unfold State.lampStage State.bothSides; dsimp only; (repeat' split) <;> simp

/-- The LAMP stage asks for its lamp tests and leaves the opening's outcome (R168). -/
@[simp] theorem State.lampStage_mode (s : State) : s.lampStage.mode =
    { s.mode with stage := some .lamp, lampAwait := Both.same true } := by
  unfold State.lampStage State.bothSides; dsimp only; (repeat' split) <;> simp

/-- WARM done hands on to LAMP with the cold detail (R107, R168). -/
theorem warmDone_of_warm (h : s.mode.stage = some .warm) :
    s.warmDone cold = (s.setMode { s.mode with outcome := { s.mode.outcome with cold := cold } }).lampStage := by
  simp [State.warmDone, h]

theorem warmDone_mode (h : s.mode.stage = some .warm) :
    (s.warmDone cold).mode.outcome.cold = cold ∧ (s.warmDone cold).mode.stage = some .lamp ∧
      (s.warmDone cold).display.plant = s.display.plant := by
  simp [warmDone_of_warm h]

/-- A reading in range is taken outside COLD and HOLDUP (R107). -/
theorem exec_temperatureSample {reading : Int} (h : s.dormant = false) (hlo : -40 ≤ reading) (hhi : reading ≤ 85) :
    exec (.temperatureSample dt reading) s = .next ((s.elapse dt).takeReading reading) := by
  simp [exec, execTemperatureSample, h, hlo, hhi]

end Sys2Proof.Machine

open Sys2Proof Sys2Proof.Machine

/-- Settles O33: a reading is held and, 2 degrees above the threshold, ends WARM; so does the warm limit. -/
theorem temperatureIsHeld : Obligations.TemperatureIsHeld := by
  unfold Obligations.TemperatureIsHeld
  intro dt reading s
  refine ⟨fun hdorm hlo hhi => ⟨fun hoff => ?_, fun _ hcold => ?_, fun hon hwarm hstage => ?_⟩, fun hout => ?_,
    fun d hd hdue hstage => ?_⟩
  · rw [exec_temperatureSample hdorm hlo hhi]
    simp [State.takeReading, hoff]
  · rw [exec_temperatureSample hdorm hlo hhi]
    simp [State.takeReading, State.cfg, Int.not_le.2 hcold]
  · generalize hu : ({ s.elapse dt with
      display := { s.display with temperature := some reading, heater := false, warmT := none } } : State) = u
    have hserve : (s.elapse dt).takeReading reading = u.warmDone false := by
      simp [State.takeReading, State.cfg, hon, hwarm, ← hu]
    obtain ⟨hcold, hlamp, hplant⟩ := warmDone_mode (s := u) (cold := false) (by simp [← hu, hstage])
    rw [Display.plant_iff] at hplant
    obtain ⟨-, hheater, htemp, hwarmT, hflag, -, -⟩ := hplant
    refine ⟨_, (exec_temperatureSample hdorm hlo hhi).trans (congrArg _ hserve), ?_, ?_, ?_, ?_, ?_, hcold, hlamp⟩
    · simp [lands_iff, ← hu]
    · rw [htemp, ← hu]
    · rw [hheater, ← hu]
    · rw [hwarmT, ← hu]
    · rw [hflag, ← hu]
  · rcases hout with h | h | h
    · simp [exec, execTemperatureSample, h]
    · simp [exec, execTemperatureSample, show ¬ -40 ≤ reading by omega]
    · simp [exec, execTemperatureSample, show ¬ reading ≤ 85 by omega]
  · generalize hu : ({ s.elapse dt with
      display := { s.display with heater := false, warmT := none, coldFlag := true } } : State) = u
    have hex : exec (.warmLimit dt) s = .next (u.warmDone true) := by
      have : s.display.warmT.due (s.now + dt) = true := due_of_le hd hdue
      simp [exec, execWarmLimit, this, ← hu]
    obtain ⟨hcold, hlamp, hplant⟩ := warmDone_mode (s := u) (cold := true) (by simp [← hu, hstage])
    rw [Display.plant_iff] at hplant
    obtain ⟨-, hheater, -, hwarmT, hflag, -, -⟩ := hplant
    refine ⟨_, hex, ?_, ?_, ?_, ?_, hcold, hlamp⟩
    · simp [lands_iff, ← hu]
    · rw [hheater, ← hu]
    · rw [hwarmT, ← hu]
    · rw [hflag, ← hu]
end


/-! ### What a change of its state does to a gate -/
section
namespace Sys2Proof.Machine

variable {s t u : State} {sd : Side} {dt : Nat} {g : GateCtl} {c : GateCause}

/-- The gate with no downlink in flight. -/
def GateCtl.answered (g : GateCtl) : GateCtl := { g with downlink := none }

/-- The gate of an answered downlink has none in flight (R130). -/
@[simp] theorem State.downlinkResult_gate (s : State) (sd : Side) (r : Result) :
    (s.downlinkResult sd r).gate sd = (s.gate sd).answered ∧
      (s.downlinkResult sd r).gate sd.other = s.gate sd.other := by
  unfold State.downlinkResult GateCtl.answered
  dsimp only
  split
  · simp
  case h_2 h => simp [← h]

@[simp] theorem State.handOver_nextEvent (s : State) (f : Folio) (r : Result) (d : Word32) :
    (s.handOver f r d).exch.nextEvent = s.exch.nextEvent := rfl

@[simp] theorem State.downlinkResult_nextEvent (s : State) (sd : Side) (r : Result) :
    (s.downlinkResult sd r).exch.nextEvent = s.exch.nextEvent := by
  unfold State.downlinkResult
  dsimp only
  split <;> rfl

/-- The gate as it stands after a change of its state: a downlink is answered as OPEN is left (R118). -/
@[simp] theorem State.gateChange_gate (s : State) (sd : Side) (g : GateCtl) (c : GateCause) :
    (s.gateChange sd g c).gate sd = (if (s.gate sd).state = .opened then g.answered else g) ∧
      (s.gateChange sd g c).gate sd.other = s.gate sd.other := by
  unfold State.gateChange
  dsimp only
  split <;> simp

theorem State.gateChange_nextEvent (s : State) (sd : Side) (g : GateCtl) (c : GateCause) :
    (s.gateChange sd g c).exch.nextEvent = succ32 s.exch.nextEvent := by
  unfold State.gateChange
  dsimp only
  rw [State.recompose_exch, (events_of_log (State.postStatus_quiet _).1).2]
  split
  · exact congrArg succ32 (State.downlinkResult_nextEvent (s.setGate sd g) sd .gateClosed)
  · rfl

/-- A change that does not leave OPEN answers no folio (R118). -/
theorem State.gateChange_owned (s : State) (sd : Side) (g : GateCtl) (c : GateCause) (h : (s.gate sd).state ≠ .opened) :
    (s.gateChange sd g c).exch.owned = s.exch.owned := by
  simp [State.gateChange, h]

theorem readersTest_of_not (h : s.mode.stage ≠ some .readers) : s.readersTest = s := by simp [State.readersTest, h]

/-- An operation that does not take a gate out of OPEN is followed by nothing but the READERS stage (R118, R170). -/
theorem afterGate_of_stays {old : GateState} (h : old ≠ .opened ∨ (s.gate sd).state = .opened)
    (hr : s.mode.stage ≠ some .readers) : s.afterGate sd old = s := by
  have hno : ¬ (old = .opened ∧ (s.gate sd).state ≠ .opened) := by tauto
  simp only [State.afterGate, if_neg hno]
  exact readersTest_of_not hr

@[simp] theorem State.markReaderLost_exch (s : State) (sd : Side) : (s.markReaderLost sd).exch = s.exch := by
  unfold State.markReaderLost
  dsimp only
  split <;> rfl

/-- Outside a stage the notice of a gate that has left OPEN reaches its side's sale and no gate (R70). -/
theorem noticeGate_stands (h : s.mode.stage = none) : (s.noticeGate sd).gates = s.gates ∧
    (s.noticeGate sd).mode = s.mode ∧ (s.noticeGate sd).exch.owned = s.exch.owned := by
  cases ho : (s.side sd).sale with
  | none => simp [State.noticeGate, ho]
  | some o =>
    have hmark : (s.markReaderLost sd).gates = s.gates ∧ (s.markReaderLost sd).mode = s.mode ∧
        (s.markReaderLost sd).exch.owned = s.exch.owned := by simp
    by_cases hr : o.record.origin = .reader
    · cases hst : (s.side sd).state <;> simp only [State.noticeGate, ho, hr, hst, if_true, hmark, and_self]
      have hswap : (s.side sd).state.blocksSwap = false := by simp [hst, SideState.blocksSwap]
      obtain ⟨hmode, howned⟩ := finishSale_quiet ho (some .revoked) (.inl hswap) h
      have hm : (s.completeSale sd (some .revoked)).mode = s.mode := completeSale_mode ho _ (by simp [h])
      refine ⟨?_, hmode, howned⟩
      rw [finishSale_eq _ (.inl hswap), drainReport_of_not (by simp [hm, h])]
      simp
    · simp [State.noticeGate, ho, hr]

/-- What follows an operation on a gate outside a stage (R70, R118). -/
theorem afterGate_stands {old : GateState} (h : s.mode.stage = none) : (s.afterGate sd old).gates = s.gates ∧
    (s.afterGate sd old).mode = s.mode ∧ (s.afterGate sd old).exch.owned = s.exch.owned := by
  unfold State.afterGate
  dsimp only
  split
  · obtain ⟨hg, hm, ho⟩ := noticeGate_stands (s := s) (sd := sd) h
    rw [readersTest_of_not (by rw [hm, h]; simp)]
    exact ⟨hg, hm, ho⟩
  · rw [readersTest_of_not (by rw [h]; simp)]
    exact ⟨rfl, rfl, rfl⟩

theorem State.gate_eq_of_gates (h : t.gates = s.gates) (sd : Side) : t.gate sd = s.gate sd := congrArg (Both.get · sd) h

end Sys2Proof.Machine
end


/-! ### The gate's timers and its tamper input -/
section
namespace Sys2Proof.Machine

variable {s t u : State} {sd : Side} {dt : Nat} {r : TripReason}

/-- A gate as a trip leaves it (R119 to R122). -/
def GateCtl.tripped (g : GateCtl) (r : TripReason) : GateCtl :=
  { g.powerDown with state := .tripped, trip := some r, restart := none }

@[simp] theorem State.gateTrip_gate (s : State) (sd : Side) (r : TripReason) :
    (s.gateTrip sd r).gate sd =
        (if (s.gate sd).state = .opened then ((s.gate sd).tripped r).answered else (s.gate sd).tripped r) ∧
      (s.gateTrip sd r).gate sd.other = s.gate sd.other := s.gateChange_gate sd _ _

/-- What a trip leaves of the gate, whatever state it had (R118). -/
theorem gateTrip_trips (s : State) (sd : Side) (r : TripReason) :
    ((s.gateTrip sd r).gate sd).state = .tripped ∧ ((s.gateTrip sd r).gate sd).trip = some r ∧
      ((s.gateTrip sd r).gate sd).power = false ∧ ((s.gateTrip sd r).gate sd).startT = none ∧
      ((s.gateTrip sd r).gate sd).addressing = none ∧
      ((s.gateTrip sd r).gate sd).tamper = (s.gate sd).tamper := by
  rw [(s.gateTrip_gate sd r).1]
  split <;> simp [GateCtl.tripped, GateCtl.answered, GateCtl.powerDown]

theorem gateTrip_nextEvent (s : State) (sd : Side) (r : TripReason) :
    (s.gateTrip sd r).exch.nextEvent = succ32 s.exch.nextEvent := State.gateChange_nextEvent _ _ _ _

theorem exec_readerStartTimeout (h : (s.gate sd).startT.due (s.now + dt) = true) :
    exec (.readerStartTimeout dt sd) s = .next (((s.elapse dt).startExpires sd).afterGate sd (s.gate sd).state) := by
  simp [exec, execReaderStartTimeout, h, State.onGate]

theorem dropAbsent_of_none (h : (s.gate sd).addressing = none) : s.dropAbsent sd = s := by
  simp [State.dropAbsent, h]

/-- A gate whose start timer has run out, its AWAITING modules ABSENT (R119). -/
def GateCtl.expired (g : GateCtl) : GateCtl :=
  { g with startT := none, card := g.card.expire, keypad := g.keypad.expire }

theorem Module.expire_shut (m : Module) : m.expire.status = some .shut ↔ m.status = some .shut := by
  unfold Module.expire
  split <;> simp_all

/-- A gate still coming up trips at the start timer's expiry (R119, R121). -/
theorem startExpires_of_coming (h : (s.gate sd).state = .starting ∨ (s.gate sd).state = .restarting) :
    s.startExpires sd = (s.setGate sd (s.gate sd).expired).gateTrip sd
      (if (s.gate sd).card.status = some .shut then .notAdmitted else .noHello) := by
  generalize hr : (if (s.gate sd).card.status = some .shut then TripReason.notAdmitted else .noHello) = r
  have htrip : (s.setGate sd (s.gate sd).expired).tripIfComing sd =
      (s.setGate sd (s.gate sd).expired).gateTrip sd r := by
    rcases h with h | h <;> simp [State.tripIfComing, GateCtl.expired, h, Module.expire_shut, hr]
  have hdrop := dropAbsent_of_none (gateTrip_trips (s.setGate sd (s.gate sd).expired) sd r).2.2.2.2.1
  unfold State.startExpires
  exact (congrArg (State.dropAbsent · sd) htrip).trans hdrop

/-- An OPEN gate that awaits no answer stays as it is at the start timer's expiry (R119). -/
theorem startExpires_of_opened (h : (s.gate sd).state = .opened) (ha : (s.gate sd).addressing = none) :
    s.startExpires sd = s.setGate sd (s.gate sd).expired := by
  have htrip : (s.setGate sd (s.gate sd).expired).tripIfComing sd = s.setGate sd (s.gate sd).expired := by
    simp [State.tripIfComing, GateCtl.expired, h]
  unfold State.startExpires
  exact (congrArg (State.dropAbsent · sd) htrip).trans (dropAbsent_of_none (by simpa [GateCtl.expired] using ha))

/-- A state whose tamper input reads a new level at its pin (R109). -/
def State.pinTamper (s : State) (dt : Nat) (sd : Side) (isOpen : Bool) : State :=
  { s.elapse dt with pins := { s.pins with tamperOpen := s.pins.tamperOpen.set sd isOpen } }

/-- A state whose tamper input reads a new level, and whose gate has taken it (R109, R122). -/
def State.tampered (s : State) (dt : Nat) (sd : Side) (isOpen : Bool) : State :=
  (s.pinTamper dt sd isOpen).setGate sd { s.gate sd with tamper := isOpen }

theorem State.tampered_frame (s : State) (dt : Nat) (sd : Side) (b : Bool) :
    Lands dt [.gates, .pins] s (s.tampered dt sd b) ∧ (s.tampered dt sd b).gate sd = { s.gate sd with tamper := b } ∧
      (s.tampered dt sd b).gate sd.other = s.gate sd.other := by
  refine ⟨by simp [lands_iff, State.tampered, State.pinTamper], by simp [State.tampered], ?_⟩
  simp only [State.tampered, State.setGate_gate_other]
  rfl

/-- The tamper input's level is taken outside COLD and HOLDUP (R109). -/
theorem setTamper_eq (s : State) (dt : Nat) (sd : Side) (b : Bool) :
    (s.elapse dt).setTamper sd b = if s.dormant then s.pinTamper dt sd b else s.tampered dt sd b := rfl

theorem exec_tamperInputOpen (h : s.dormant = false) : exec (.tamperInputOpen dt sd) s =
    .next (((s.tampered dt sd true).gateTamper sd 0).afterGate sd (s.gate sd).state) := by
  have hd : (s.tampered dt sd true).dormant = false := h
  have hg : ((s.tampered dt sd true).gate sd).state = (s.gate sd).state := by rw [(s.tampered_frame dt sd true).2.1]
  simp [exec, execTamperInputOpen, setTamper_eq, h, hd, State.onGate, hg]

theorem exec_tamperInputClosed (h : s.dormant = false) :
    exec (.tamperInputClosed dt sd) s = .next (s.tampered dt sd false) := by
  simp [exec, execTamperInputClosed, setTamper_eq, h]

theorem exec_tamper_of_dormant {c : Instr} (h : s.dormant = true)
    (hc : c ∈ [Instr.tamperInputOpen dt sd, .tamperInputClosed dt sd]) :
    ∃ b, exec c s = .next (s.pinTamper dt sd b) := by
  have hd : (s.pinTamper dt sd true).dormant = true := h
  rcases List.mem_pair.1 hc with rfl | rfl
  · exact ⟨true, by simp [exec, execTamperInputOpen, setTamper_eq, h, hd]⟩
  · exact ⟨false, by simp [exec, execTamperInputClosed, setTamper_eq, h]⟩

end Sys2Proof.Machine

open Sys2Proof Sys2Proof.Machine

/-- Settles O39: the start timer's expiry by the gate's state, the off time, and the tamper input by the gate's state. -/
theorem gateTimersAndTamper : Obligations.GateTimersAndTamper := by
  unfold Obligations.GateTimersAndTamper
  refine ⟨fun dt sd s d hd => ⟨fun ht hr => ⟨fun hst => ?_, fun hst ha => ?_⟩, fun o ht hres => ?_⟩,
    fun dt sd s => ⟨fun hdorm hst hstage => ?_, fun hdorm hst hr => ?_, fun hdorm => ?_, fun hdorm c hc => ?_⟩⟩
  · have hex := exec_readerStartTimeout (s := s) (sd := sd) (dt := dt) (due_of_le ht hd)
    rw [startExpires_of_coming (s := s.elapse dt) hst] at hex
    generalize hu : (s.elapse dt).setGate sd ((s.elapse dt).gate sd).expired = u at hex
    generalize hreason : (if ((s.elapse dt).gate sd).card.status = some ModStatus.shut then TripReason.notAdmitted
      else .noHello) = r at hex
    obtain ⟨htripped, htrip, hpower, hstart, -, -⟩ := gateTrip_trips u sd r
    have hstays : (u.gateTrip sd r).afterGate sd (s.gate sd).state = u.gateTrip sd r :=
      afterGate_of_stays (.inl (by rcases hst with h | h <;> simp [h])) (by simpa [← hu] using hr)
    refine ⟨_, hex.trans (congrArg _ hstays), by simp [lands_iff, ← hu], htripped, htrip.trans ?_, hpower, hstart, ?_, ?_⟩
    · exact congrArg some hreason.symm
    · rw [(u.gateTrip_gate sd r).2, ← hu]; simp
    · rw [gateTrip_nextEvent, ← hu]; simp
  · have hex := exec_readerStartTimeout (s := s) (sd := sd) (dt := dt) (due_of_le ht hd)
    rw [startExpires_of_opened (s := s.elapse dt) hst ha] at hex
    refine ⟨_, hex.trans (congrArg _ (afterGate_of_stays (.inr ?_) (by simpa using hr))), ?_, ?_, ?_⟩
    · simpa [GateCtl.expired] using hst
    · simp [lands_iff]
    · simp [GateCtl.expired]
    · simp
  · have hdue : (s.gate sd).offT.due (s.now + dt) = true := due_of_le ht hd
    simp [exec, execOffTime, hdue, hres, State.powerUp, State.cfg]
  · obtain ⟨hland, hself, hother⟩ := s.tampered_frame dt sd true
    generalize hv : s.tampered dt sd true = v at hland hself hother
    have hex : exec (.tamperInputOpen dt sd) s = .next ((v.gateTamper sd 0).afterGate sd (s.gate sd).state) := by
      rw [exec_tamperInputOpen hdorm, hv]
    have hmode : (v.gateTamper sd 0).mode.stage = none := by
      rw [← hv]; simpa [State.tampered, State.pinTamper] using hstage
    obtain ⟨hgates, -, -⟩ := afterGate_stands (sd := sd) (old := (s.gate sd).state) hmode
    obtain ⟨htripped, htrip, hpower, -, -, htamper⟩ := gateTrip_trips v sd .tamper
    have htrips : (v.gateTamper sd 0).gates = (v.gateTrip sd .tamper).gates := by
      simp [State.gateTamper, hself, hst]
    have hgate := State.gate_eq_of_gates (hgates.trans htrips)
    refine ⟨_, hex, by simpa using hland.1, ?_, ?_, ?_, ?_, ?_⟩ <;> rw [hgate]
    · exact htripped
    · exact htrip
    · exact hpower
    · rw [htamper, hself]
    · rw [(v.gateTrip_gate sd .tamper).2, hother]
  · obtain ⟨hland, hself, hother⟩ := s.tampered_frame dt sd true
    generalize hv : s.tampered dt sd true = v at hland hself hother
    have hex : exec (.tamperInputOpen dt sd) s = .next ((v.gateTamper sd 0).afterGate sd (s.gate sd).state) := by
      rw [exec_tamperInputOpen hdorm, hv]
    have hraise : v.gateTamper sd 0 = v.raise .tamper sd.number (.num 0) (.gateState .tripped) := by
      simp [State.gateTamper, hself, hst]
    have hstays := afterGate_of_stays (s := v.gateTamper sd 0) (sd := sd) (old := (s.gate sd).state)
      (.inl (by simp [hst])) (by rw [← hv]; simpa [State.tampered, State.pinTamper] using hr)
    refine ⟨_, hex.trans (congrArg _ (hstays.trans hraise)), ?_, ?_, ?_, ?_⟩
    · simp [lands_iff, ← hv, State.tampered, State.pinTamper]
    · exact hself
    · exact hother
    · rw [← hv]; rfl
  · exact ⟨_, exec_tamperInputClosed hdorm, s.tampered_frame dt sd false⟩
  · obtain ⟨b, hex⟩ := exec_tamper_of_dormant hdorm hc
    exact ⟨_, hex, by simp [lands_iff, State.pinTamper]⟩
end


/-! ### READER_CLEAR and READER_RESTART -/
section
namespace Sys2Proof.Machine

variable {s t u : State} {sd : Side} {dt n : Nat} {ref : Word32} {o : RestartOrigin}

theorem exec_readerClear (h : CanTouch s Folio.siteOrder) : exec (.readerClear dt ref n) s =
    .next ((s.taken dt Folio.siteOrder ref (siteBytes 6 (byte1 n))).serveReaderClear n) :=
  congrArg _ (State.request_eq h siteOrder_ge _)

theorem exec_readerRestart (h : CanTouch s Folio.siteOrder) : exec (.readerRestart dt ref n) s =
    .next ((s.taken dt Folio.siteOrder ref (siteBytes 7 (byte1 n))).serveReaderRestart n) :=
  congrArg _ (State.request_eq h siteOrder_ge _)

/-- A READER_CLEAR that is refused (R123). -/
theorem readerClear_refused {r : Result} (h : CanTouch s Folio.siteOrder)
    (hserve : ∀ u : State, u.gate = s.gate → u.mode = s.mode →
      u.serveReaderClear n = u.handOver Folio.siteOrder r) :
    ∃ t, exec (.readerClear dt ref n) s = .next t ∧ Refused dt s t Folio.siteOrder ref r 0 :=
  ⟨_, (exec_readerClear h).trans (congrArg _ (hserve _ (funext fun _ => by simp) (by simp))),
    refused_handOver h siteOrder_ge r 0⟩

/-- A READER_RESTART that is refused (R124). -/
theorem readerRestart_refused {r : Result} (h : CanTouch s Folio.siteOrder)
    (hserve : ∀ u : State, u.gate = s.gate → u.serveReaderRestart n = u.handOver Folio.siteOrder r) :
    ∃ t, exec (.readerRestart dt ref n) s = .next t ∧ Refused dt s t Folio.siteOrder ref r 0 :=
  ⟨_, (exec_readerRestart h).trans (congrArg _ (hserve _ (funext fun _ => by simp))),
    refused_handOver h siteOrder_ge r 0⟩

/-- The gate in STARTING, its domain powered on (R119). -/
def State.started (s : State) (sd : Side) : GateCtl :=
  { s.powerUp sd (s.gate sd) with state := .starting, trip := none, restart := none }

theorem gateStart_eq (s : State) (sd : Side) (c : GateCause) :
    s.gateStart sd c = s.gateChange sd (s.started sd) c := rfl

/-- The gate in RESTARTING, its domain off (R121). -/
def GateCtl.restarted (g : GateCtl) (o : RestartOrigin) (now : Nat) : GateCtl :=
  { g.powerDown with
    state := .restarting, restart := some (o, .offTime), offT := some (now + seconds 2)
    restartUsed := g.restartUsed || decide (o = .automatic) }

@[simp] theorem State.gateRestart_gate (s : State) (sd : Side) (o : RestartOrigin) :
    (s.gateRestart sd o).gate sd = (if (s.gate sd).state = .opened then ((s.gate sd).restarted o s.now).answered
        else (s.gate sd).restarted o s.now) ∧
      (s.gateRestart sd o).gate sd.other = s.gate sd.other := s.gateChange_gate sd _ _

theorem GateCtl.restarted_frame (g : GateCtl) (now : Nat) : (g.restarted .ordered now).state = .restarting ∧
    (g.restarted .ordered now).restart = some (.ordered, .offTime) ∧ (g.restarted .ordered now).power = false ∧
    (g.restarted .ordered now).offT = some (now + seconds 2) ∧
    (g.restarted .ordered now).restartUsed = g.restartUsed := by
  simp [GateCtl.restarted, GateCtl.powerDown]

theorem serveReaderClear_of_starts (hn : Side.ofNumber n = some sd) (hm : u.mode.mode = .openMode)
    (hst : (u.gate sd).state = .off ∨ (u.gate sd).state = .tripped) (ht : (u.gate sd).tamper = false) :
    u.serveReaderClear n = (u.gateChange sd (u.started sd) .readerClear).handOver Folio.siteOrder .done := by
  have hlive : (u.gate sd).state.live = false := by rcases hst with h | h <;> simp [h, GateState.live]
  simp [State.serveReaderClear, hn, hm, hlive, ht, gateStart_eq]

theorem serveReaderRestart_of_live (hn : Side.ofNumber n = some sd)
    (hst : (u.gate sd).state = .starting ∨ (u.gate sd).state = .opened) : u.serveReaderRestart n =
      ((u.gateRestart sd .ordered).afterGate sd (u.gate sd).state).handOver Folio.siteOrder .done := by
  simp [State.serveReaderRestart, hn, hst, State.onGate]

end Sys2Proof.Machine

open Sys2Proof Sys2Proof.Machine

/-- Settles O40: the refusals in their order, the start of a gate, and the two restarts. -/
theorem readersAreClearedAndRestarted : Obligations.ReadersAreClearedAndRestarted := by
  unfold Obligations.ReadersAreClearedAndRestarted
  intro dt ref n s hs
  refine ⟨fun hn c hc => ?_, fun sd hn => ⟨fun hm => ?_, fun hm hoff htr => ?_, fun hm hst => ⟨fun ht => ?_, fun ht => ?_⟩,
    fun hst hop => ?_, fun hst hr => ?_, fun hst hstage => ?_⟩⟩
  · rcases List.mem_pair.1 hc with rfl | rfl
    · exact readerClear_refused hs fun u _ _ => by simp [State.serveReaderClear, hn]
    · exact readerRestart_refused hs fun u _ => by simp [State.serveReaderRestart, hn]
  · exact readerClear_refused hs fun u _ hmode => by simp [State.serveReaderClear, hn, hmode, hm]
  · have hlive : (s.gate sd).state.live = true := by cases h : (s.gate sd).state <;> simp_all [GateState.live]
    exact readerClear_refused hs fun u hg hmode => by simp [State.serveReaderClear, hn, hmode, hm, hg, hlive]
  · have hlive : (s.gate sd).state.live = false := by rcases hst with h | h <;> simp [h, GateState.live]
    exact readerClear_refused hs fun u hg hmode => by simp [State.serveReaderClear, hn, hmode, hm, hg, hlive, ht]
  · generalize hv : s.taken dt Folio.siteOrder ref (siteBytes 6 (byte1 n)) = v
    have hvg : ∀ x, v.gate x = s.gate x := fun x => by simp [← hv]
    have hserve := serveReaderClear_of_starts (u := v) hn (by simpa [← hv] using hm) (by rwa [hvg]) (by rwa [hvg])
    have hno : (v.gate sd).state ≠ .opened := by rw [hvg]; rcases hst with h | h <;> simp [h]
    have hself := (v.gateChange_gate sd (v.started sd) .readerClear).1
    rw [if_neg hno] at hself
    have hself : ((v.gateChange sd (v.started sd) .readerClear).handOver Folio.siteOrder .done).gate sd =
      v.started sd := hself
    refine ⟨_, ((exec_readerClear hs).trans (by rw [hv])).trans (congrArg _ hserve), ?_, ?_, ?_, ?_, ?_, ?_, ?_, ?_, ?_⟩
    · simp [lands_iff, ← hv]
    · rw [hself]; rfl
    · rw [hself]; rfl
    · rw [hself]; rfl
    · rw [hself, ← hv]; simp [State.started, State.powerUp, State.cfg]
    · rw [hself, ← hvg]; rfl
    · exact (v.gateChange_gate sd (v.started sd) .readerClear).2.trans (hvg _)
    · refine answered_handOver (dt := dt) (bytes := siteBytes 6 (byte1 n)) hs siteOrder_ge ?_ _ _
      rw [State.gateChange_owned _ _ _ _ hno, ← hv]
    · rw [State.handOver_nextEvent, State.gateChange_nextEvent, ← hv, (events_of_log (taken_log hs siteOrder_ge)).2]
  · exact readerRestart_refused hs fun u hg => by simp [State.serveReaderRestart, hn, hg, hst, hop]
  · generalize hv : s.taken dt Folio.siteOrder ref (siteBytes 7 (byte1 n)) = v
    have hvg : ∀ x, v.gate x = s.gate x := fun x => by simp [← hv]
    have hno : (v.gate sd).state ≠ .opened := by rw [hvg, hst]; simp
    have hstays := afterGate_of_stays (s := v.gateRestart sd .ordered) (sd := sd) (.inl hno) (by simpa [← hv] using hr)
    have hserve := serveReaderRestart_of_live (u := v) hn (.inl (by rw [hvg, hst]))
    rw [hstays] at hserve
    have hself := (v.gateRestart_gate sd .ordered).1
    rw [if_neg hno] at hself
    have hself : ((v.gateRestart sd .ordered).handOver Folio.siteOrder .done).gate sd = _ := hself
    obtain ⟨hstate, hrestart, hpower, hoff, hused⟩ := (v.gate sd).restarted_frame v.now
    refine ⟨_, ((exec_readerRestart hs).trans (by rw [hv])).trans (congrArg _ hserve), ?_, ?_, ?_, ?_, ?_, ?_, ?_, ?_⟩
    · simp [lands_iff, ← hv]
    · rw [hself, hstate]
    · rw [hself, hrestart]
    · rw [hself, hpower]
    · rw [hself, hoff, ← hv]; simp
    · rw [hself, hused, hvg]
    · exact (v.gateRestart_gate sd .ordered).2.trans (hvg _)
    · refine answered_handOver (dt := dt) (bytes := siteBytes 7 (byte1 n)) hs siteOrder_ge ?_ _ _
      exact (State.gateChange_owned _ _ _ _ hno).trans (by rw [← hv])
  · generalize hv : s.taken dt Folio.siteOrder ref (siteBytes 7 (byte1 n)) = v
    have hvg : ∀ x, v.gate x = s.gate x := fun x => by simp [← hv]
    have hopen : (v.gate sd).state = .opened := by rw [hvg, hst]
    have hserve := serveReaderRestart_of_live (u := v) hn (.inr hopen)
    generalize hw : (v.gateRestart sd .ordered).afterGate sd (v.gate sd).state = w at hserve
    have hgates : w.gates = (v.gateRestart sd .ordered).gates := by
      rw [← hw]; exact (afterGate_stands (by simpa [← hv] using hstage)).1
    have hself := (State.gate_eq_of_gates hgates sd).trans (v.gateRestart_gate sd .ordered).1
    rw [if_pos hopen] at hself
    have hself : (w.handOver Folio.siteOrder .done).gate sd = _ := hself
    obtain ⟨hstate, hrestart, hpower, -, hused⟩ := (v.gate sd).restarted_frame v.now
    have hhead := (w.handOver_header Folio.siteOrder .done 0).1
    refine ⟨_, ((exec_readerRestart hs).trans (by rw [hv])).trans (congrArg _ hserve), ?_, ?_, ?_, ?_, ?_, ?_, ?_, ?_, ?_⟩
    · simp [← hw, ← hv]
    · rw [hself]; exact hstate
    · rw [hself]; exact hrestart
    · rw [hself]; exact hpower
    · rw [hself]; rfl
    · rw [hself]; exact hused.trans (by rw [hvg])
    · exact ((State.gate_eq_of_gates hgates sd.other).trans (v.gateRestart_gate sd .ordered).2).trans (hvg _)
    · rw [hhead]
    · rw [hhead]
end


/-! ### DOWNLINK -/
section
namespace Sys2Proof.Machine

variable {s t u : State} {sd : Side} {dt : Nat} {ref : Word32} {r : DownlinkReq} {i : ModuleId}

theorem exec_downlink (h : CanTouch s (Folio.downlink sd)) : exec (.downlink dt sd ref r) s =
    .next ((s.taken dt (Folio.downlink sd) ref r.bytes).serveDownlink sd r) :=
  congrArg _ (State.request_eq h (downlink_ge sd) _)

theorem downlinkRefusal_taken (s : State) (dt : Nat) (ref : Word32) (bytes : List Byte) (i : ModuleId) :
    (s.taken dt (Folio.downlink sd) ref bytes).downlinkRefusal sd i r = s.downlinkRefusal sd i r := by
  simp only [State.downlinkRefusal, State.downAllowed, State.cfg, State.taken_reads, State.taken_frame]
  rfl

/-- A downlink that a check refuses (R129). -/
theorem downlink_refused {e : Result} (h : CanTouch s (Folio.downlink sd)) (hi : (s.gate sd).target r.addr = some i)
    (he : s.downlinkRefusal sd i r = some e) :
    ∃ t, exec (.downlink dt sd ref r) s = .next t ∧ Refused dt s t (Folio.downlink sd) ref e 0 := by
  have htaken := (downlinkRefusal_taken s dt ref r.bytes i).trans he
  have hserve : (s.taken dt (Folio.downlink sd) ref r.bytes).serveDownlink sd r =
      (s.taken dt (Folio.downlink sd) ref r.bytes).handOver (Folio.downlink sd) e := by
    simp [State.serveDownlink, hi, htaken]
  exact ⟨_, (exec_downlink h).trans (congrArg _ hserve), refused_handOver h (downlink_ge sd) e 0⟩

/-- A frame is one the part may send down (R112, R129). -/
theorem frameOk_iff (r : DownlinkReq) : (isDownlinkClass r.cls = false ∨ 200 < r.payload.length) ↔
    ¬ ((r.cls = .prompt ∨ r.cls = .payload) ∧ r.payload.length ≤ 200) := by
  cases r.cls <;> simp [isDownlinkClass]

theorem downAllowed_iff (s : State) (sd : Side) (m : Module) (cls : FrameClass) : s.downAllowed sd m cls = true ↔
    s.exch.config.admissionMode.get sd = .openAll ∨
      ((s.gate sd).admission.down.get (m.scope.getD .other)).allows cls = true := by
  rw [State.downAllowed, Bool.or_eq_true, decide_eq_true_iff]
  rfl

end Sys2Proof.Machine

open Sys2Proof Sys2Proof.Machine

/-- Settles O41: the checks of R129 in order, and the downlink that passes them. -/
theorem downlinkIsLaunched : Obligations.DownlinkIsLaunched := by
  unfold Obligations.DownlinkIsLaunched
  refine fun dt sd ref r s hs _ => ⟨fun hnone => ?_, fun i hi => ⟨fun hbad => ?_, fun hok hst => ?_,
    fun hok hst hno => ?_, fun hok hst hact hall => ?_⟩⟩
  · have hserve : (s.taken dt (Folio.downlink sd) ref r.bytes).serveDownlink sd r =
        (s.taken dt (Folio.downlink sd) ref r.bytes).handOver (Folio.downlink sd) .invalidModule := by
      simp [State.serveDownlink, hnone]
    exact ⟨_, (exec_downlink hs).trans (congrArg _ hserve), refused_handOver hs (downlink_ge sd) _ 0⟩
  · exact downlink_refused hs hi (by rw [State.downlinkRefusal]; exact if_pos ((frameOk_iff r).2 hbad))
  · refine downlink_refused hs hi ?_
    simp only [State.downlinkRefusal, if_neg (fun h => (frameOk_iff r).1 h hok), if_pos hst]
  · refine downlink_refused hs hi ?_
    rw [← downAllowed_iff, Bool.not_eq_true] at hno
    simp only [State.downlinkRefusal, if_neg (fun h => (frameOk_iff r).1 h hok), hst]
    rcases hno with h | h <;> simp [h]
  · rw [← downAllowed_iff] at hall
    have hnone : s.downlinkRefusal sd i r = none := by
      simp only [State.downlinkRefusal, if_neg (fun h => (frameOk_iff r).1 h hok), hst]
      simp [hact, hall]
    have htaken := (downlinkRefusal_taken s dt ref r.bytes i).trans hnone
    have hserve : (s.taken dt (Folio.downlink sd) ref r.bytes).serveDownlink sd r =
        (s.taken dt (Folio.downlink sd) ref r.bytes).setGate sd ((s.gate sd).launch i r) := by
      simp [State.serveDownlink, hi, htaken]
    refine ⟨_, (exec_downlink hs).trans (congrArg _ hserve), by simp [lands_iff], by simp [GateCtl.launch], by simp, ?_⟩
    have hhead := (s.taken_header dt r.bytes (ref := ref) hs.2).1
    exact ⟨by simp [hhead], by simp [hhead]⟩
end


/-! ### The bytes of a folio's body -/
section
namespace Sys2Proof.Machine

variable {s t u : State} {f : Folio} {dt : Nat} {ref : Word32} {bytes : List Byte} {sd : Side}

theorem Memory.length_readAll (m : Memory) (a n : Nat) : (Memory.readAll m a n).length = n := by
  induction n generalizing a with
  | zero => rfl
  | succ n ih => simp [Memory.readAll, ih]

theorem Memory.getElem_readAll (m : Memory) (a n i : Nat) (h : i < (Memory.readAll m a n).length) :
    (Memory.readAll m a n)[i] = Memory.read m (a + i) := by
  induction n generalizing a i with
  | zero => cases h
  | succ n ih =>
    cases i with
    | zero => rfl
    | succ i =>
      simp only [Memory.readAll, List.getElem_cons_succ]
      rw [ih, Nat.add_right_comm]
      rfl

/-- Bytes stored over the start of a stretch of memory stand before what the rest of it held. -/
theorem Memory.readAll_writeAll {m : Memory} (hm : Memory.wf m = true) {vs : List Byte} {n : Nat} (a : Nat)
    (h : vs.length ≤ n) :
    Memory.readAll (Memory.writeAll m a vs) a n = vs ++ (Memory.readAll m a n).drop vs.length := by
  refine List.ext_getElem (by simp [Memory.length_readAll, h]) fun i h₁ h₂ => ?_
  rw [Memory.getElem_readAll, List.getElem_append]
  split
  case isTrue hi => exact Memory.read_writeAll_inside vs m a i hm hi
  case isFalse hi =>
    have hi : vs.length ≤ i := Nat.not_lt.1 hi
    rw [Memory.read_writeAll_outside vs m a _ hm (.inr (by omega)), List.getElem_drop, Memory.getElem_readAll]
    congr 1
    omega

/-- The body of a folio the host has filled with a request and touched (R179, R180). -/
theorem bodyBytes_taken (h : CanTouch s f) (hm : Memory.wf s.exch.mem = true) (hlen : bytes.length ≤ 240) :
    (s.taken dt f ref bytes).bodyBytes f = bytes ++ (s.bodyBytes f).drop bytes.length := by
  have hmem := congrArg Exchange.mem (s.taken_exch dt bytes (ref := ref) h.2)
  rw [List.take_of_length_le hlen] at hmem
  rw [State.bodyBytes, hmem]
  exact Memory.readAll_writeAll hm _ hlen

/-! ### CONFIG -/

theorem fieldNat_append {b c : List Byte} {off len : Nat} (h : off + len ≤ b.length) :
    fieldNat (b ++ c) off len = fieldNat b off len := by
  rw [fieldNat, fieldNat, List.drop_append_of_le_length (by omega), List.take_append_of_le_length (by simp; omega)]

theorem fieldByte_append {b c : List Byte} {off : Nat} (h : off < b.length) :
    fieldByte (b ++ c) off = fieldByte b off :=
  List.getD_append _ _ _ _ h

/-- The 46 bytes of the layout alone spell the settings (R184). -/
theorem Settings.ofBytes_append {b c : List Byte} (h : 46 ≤ b.length) :
    Settings.ofBytes (b ++ c) = Settings.ofBytes b := by
  have hn : ∀ {off len : Nat}, off + len ≤ 46 → fieldNat (b ++ c) off len = fieldNat b off len :=
    fun hol => fieldNat_append (by omega)
  have hb : ∀ {off : Nat}, off < 46 → fieldByte (b ++ c) off = fieldByte b off :=
    fun hol => fieldByte_append (by omega)
  simp (disch := omega) only [Settings.ofBytes, maxFlowsAt, maxFlowAt, hn, hb]

theorem clampNat_range {lo hi : Nat} (n : Nat) (h : lo ≤ hi) : lo ≤ (clampNat lo hi n).1 ∧ (clampNat lo hi n).1 ≤ hi := by
  simp only [clampNat]; omega

theorem clampThreshold_range (b : Byte) : -30 ≤ (clampThreshold b).1 ∧ (clampThreshold b).1 ≤ 10 := by
  simp only [clampThreshold]; omega

theorem fieldNat_one_le (b : List Byte) (off : Nat) : fieldNat b off 1 ≤ 255 := by
  unfold fieldNat
  rcases b.drop off with _ | ⟨x, xs⟩
  · simp [ofBe]
  · have := x.isLt
    simp [ofBe]
    omega

/-- Every accepted CONFIG is in its ranges (R184). -/
theorem Settings.ofBytes_inRange (b : List Byte) : (Settings.ofBytes b).inRange := by
  refine ⟨clampNat_range _ (by decide), clampNat_range _ (by decide), clampNat_range _ (by decide),
    (clampNat_range _ (by decide)).2, clampNat_range _ (by decide), clampNat_range _ (by decide), fun m => ?_,
    clampNat_range _ (by decide), clampNat_range _ (by decide), clampNat_range _ (by decide),
    (clampNat_range _ (by decide)).2, clampNat_range _ (by decide), clampThreshold_range _,
    clampNat_range _ (by decide), (clampNat_range _ (by decide)).2, fieldNat_one_le _ _, clampNat_range _ (by decide),
    clampNat_range _ (by decide), clampNat_range _ (by decide), (clampNat_range _ (by decide)).2,
    clampNat_range _ (by decide)⟩
  obtain ⟨x, p⟩ := m
  cases x <;> cases p <;> exact clampNat_range _ (by decide)

theorem exec_config {body : List Byte} (h : CanTouch s Folio.config) : exec (.config dt ref body) s =
    .next ((s.taken dt Folio.config ref body).serveConfig) :=
  congrArg _ (State.request_eq h configFolio_ge _)

theorem exec_schedule {r : ScheduleReq} (h : CanTouch s Folio.schedule) : exec (.schedule dt ref r) s =
    .next ((s.taken dt Folio.schedule ref r.bytes).serveSchedule r) :=
  congrArg _ (State.request_eq h scheduleFolio_ge _)

theorem exec_admission {r : AdmissionReq} (h : CanTouch s Folio.admission) : exec (.admission dt ref r) s =
    .next ((s.taken dt Folio.admission ref (admissionBytes r)).serveAdmission r) :=
  congrArg _ (State.request_eq h admissionFolio_ge _)

/-- A schedule that is accepted (R163). -/
theorem schedule_accepted {r : ScheduleReq} {x : Schedule} (h : CanTouch s Folio.schedule)
    (hserve : ∀ u : State, u.serveSchedule r = u.acceptSchedule x) :
    ∃ t, exec (.schedule dt ref r) s = .next t ∧ Lands dt [.store, .journal, .mode, .exch] s t ∧
      t.mode = { s.mode with schedule := x } ∧ t.exch.statusAsked = true ∧
      Answered s t Folio.schedule ref .done 0 :=
  ⟨_, (exec_schedule h).trans (congrArg _ (hserve _)), by simp [lands_iff, State.acceptSchedule],
    by simp [State.acceptSchedule], rfl,
    answered_handOver (dt := dt) (bytes := r.bytes) h scheduleFolio_ge (by simp) _ _⟩

theorem schedule_refused {r : ScheduleReq} {d : Word32} (h : CanTouch s Folio.schedule)
    (hserve : ∀ u : State, u.serveSchedule r = u.handOver Folio.schedule .invalidSchedule d) :
    ∃ t, exec (.schedule dt ref r) s = .next t ∧ Refused dt s t Folio.schedule ref .invalidSchedule d :=
  ⟨_, (exec_schedule h).trans (congrArg _ (hserve _)), refused_handOver h scheduleFolio_ge _ d⟩

end Sys2Proof.Machine

open Sys2Proof Sys2Proof.Machine

/-- Settles O45: each folio's values stand in place of the old ones. -/
theorem settingsAreReplaced : Obligations.SettingsAreReplaced := by
  unfold Obligations.SettingsAreReplaced
  refine fun dt ref s => ⟨fun r hs => ?_, fun r hs => ⟨fun days i hr hbad => ?_, fun x hx => ?_, fun hr => ?_⟩,
    fun body hs hwf hlen => ?_⟩
  · refine ⟨_, exec_admission hs, by simp [lands_iff, State.serveAdmission], fun sd => ?_,
      answered_handOver (dt := dt) (bytes := admissionBytes r) hs admissionFolio_ge (by simp) _ _⟩
    cases sd <;> simp [State.serveAdmission, State.gate, Both.get]
  · exact schedule_refused hs fun u => by simp [State.serveSchedule, hr, hbad]
  · rcases hx with ⟨hr, hx⟩ | ⟨days, hr, hok, hx⟩
    · exact schedule_accepted hs fun u => by simp [State.serveSchedule, hr, hx]
    · exact schedule_accepted hs fun u => by simp [State.serveSchedule, hr, hok, hx]
  · exact schedule_refused hs fun u => by simp [State.serveSchedule, hr]
  · have hbody := bodyBytes_taken (dt := dt) (ref := ref) hs hwf hlen
    generalize hw : body ++ (s.bodyBytes Folio.config).drop body.length = whole at hbody
    have hserve : (s.taken dt Folio.config ref body).serveConfig =
        State.handOver (State.requestSnapshot { s.taken dt Folio.config ref body with
          exch := { (s.taken dt Folio.config ref body).exch with config := Settings.ofBytes whole } })
          Folio.config .done (configDetail whole) := by simp only [State.serveConfig, hbody]
    refine ⟨_, (exec_config hs).trans (congrArg _ hserve), by simp [lands_iff], ?_, by simp,
      answered_handOver (dt := dt) (bytes := body) hs configFolio_ge ?_ _ _, fun h46 => ?_⟩
    · simpa using Settings.ofBytes_inRange whole
    · simp; rfl
    · simp [← hw, Settings.ofBytes_append h46]
end


/-! ### WATCH, and the watch that a counted cycle fires -/
section
namespace Sys2Proof.Machine

variable {s t u : State} {dt : Nat} {ref : Word32} {m : Meter} {ph : Phase} {i j : Fin 4} {x : TotalId} {old new : Nat}

theorem exec_watchFolio {r : Vector WatchReq 4} (h : CanTouch s Folio.watch) : exec (.watchFolio dt ref r) s =
    .next ((s.taken dt Folio.watch ref (watchBytes r)).serveWatch r) :=
  congrArg _ (State.request_eq h watchFolio_ge _)

theorem firstBadWatch_taken (s : State) (dt : Nat) (f : Folio) (bytes : List Byte) (r : Vector WatchReq 4) :
    (s.taken dt f ref bytes).firstBadWatch r = s.firstBadWatch r := by
  simp [State.firstBadWatch, State.watchRefusal]

/-- A watch after its entry, by the entry's action (R143). -/
theorem Watch.apply_eq (w : Watch) (r : WatchReq) :
    (r.action = 0 → w.apply r = w) ∧
      (∀ o, r.action = 1 → totalOf r.object = some o → w.apply r = ⟨o, r.threshold, true⟩) ∧
      (r.action = 2 → w.apply r = { w with armed := false }) := by
  refine ⟨fun h => by simp [Watch.apply, h], fun o h ho => by simp [Watch.apply, h, ho], fun h => ?_⟩
  simp [Watch.apply, h]

/-- Where a counted cycle goes is no matter of the watches (R9). -/
theorem State.attribute_watches (s : State) (m : Meter) (cf : Nat) :
    (s.attribute m cf).store.watches = s.store.watches := by
  have hperiodic : ∀ v : State, (v.periodicAdd cf).store.watches = v.store.watches := fun v => by
    unfold State.periodicAdd
    dsimp only
    split <;> simp
  unfold State.attribute
  dsimp only
  split <;> simp [hperiodic]

/-- A counted cycle that is noted by no event leaves the ring as the total's watches left it (R9, R12, R13). -/
theorem State.attribute_log (cf : Nat) (h : (s.chan m).attached = none →
    (s.pfe.stray.get m.side).reported = true ∧ s.pfe.nightFlag = true) :
    (s.attribute m cf).exch.log = s.exch.log := by
  unfold State.attribute
  dsimp only
  cases ha : (s.chan m).attached with
  | none =>
    obtain ⟨hstray, hnight⟩ := h ha
    exact State.unattributedFlow_log (s := s.addUnattributed m cf) hstray hnight cf
  | some a => simp

theorem State.testWatch_of_not (h : ¬ (s.store.watches.get i).fires x old new) : s.testWatch x old new i = s := if_neg h

theorem State.testWatch_of_fires (h : (s.store.watches.get i).fires x old new) : s.testWatch x old new i =
    (({ s with store := { s.store with
      watches := s.store.watches.set i.val { s.store.watches.get i with armed := false } } }).raise .watch (i.val + 1)
      (.total x) (.num (new % 2 ^ 32))).updateTotalsWatches := if_pos h

/-- With one watch firing the other three stand (R142). -/
theorem State.testWatches_of_one (h : ∀ j, j ≠ i → ¬ (s.store.watches.get j).fires x old new) :
    s.testWatches x old new = s.testWatch x old new i := by
  have before : ∀ j, j ≠ i → s.testWatch x old new j = s := fun j hj => State.testWatch_of_not (h j hj)
  have later : ∀ j, j ≠ i → (s.testWatch x old new i).testWatch x old new j = s.testWatch x old new i := fun j hj => by
    refine State.testWatch_of_not ?_
    have hv : i.val ≠ j.val := fun e => hj (Fin.ext e.symm)
    have hkeep : (s.testWatch x old new i).store.watches.get j = s.store.watches.get j := by
      rw [State.testWatch_watches]
      exact Vector.getElem_set_ne _ _ hv
    rw [hkeep]
    exact h j hj
  obtain rfl | rfl | rfl | rfl : i = 0 ∨ i = 1 ∨ i = 2 ∨ i = 3 := by omega
  all_goals simp +decide [State.testWatches, before, later]

/-- The four watches once a cycle has been counted (R142). -/
theorem cycleCounted_watch (s : State) (dt : Nat) (m : Meter) (ph : Phase) (i : Fin 4) :
    ((decodedCycle s dt m ph).cycleCounted m).store.watches.get i =
      (s.store.watches.get i).after (.meter m) (PerMeter.get s.store.totals.meter m)
        (satAdd64 (PerMeter.get s.store.totals.meter m) (s.chan m).cf) := by
  have hw : ((decodedCycle s dt m ph).cycleCounted m).store.watches =
      ((decodedCycle s dt m ph).addMeterTotal m ((decodedCycle s dt m ph).chan m).cf).store.watches :=
    State.attribute_watches _ _ _
  rw [hw, State.addMeterTotal, State.testWatches_watch, State.setTotals_watches,
    (decodedCycle_counts s dt m ph).2.2.1]
  simp

/-- A counted cycle that fires one watch, and is noted by no event, raises WATCH and nothing more (R142). -/
theorem cycleCounted_raised (dt : Nat) (ph : Phase)
    (hf : (s.store.watches.get i).fires (.meter m) (PerMeter.get s.store.totals.meter m)
      (satAdd64 (PerMeter.get s.store.totals.meter m) (s.chan m).cf))
    (hone : ∀ j, j ≠ i → ¬ (s.store.watches.get j).fires (.meter m) (PerMeter.get s.store.totals.meter m)
      (satAdd64 (PerMeter.get s.store.totals.meter m) (s.chan m).cf))
    (hnoted : (s.chan m).attached = none → (s.pfe.stray.get m.side).reported = true ∧ s.pfe.nightFlag = true) :
    Raised s ((decodedCycle s dt m ph).cycleCounted m) .watch (i.val + 1) (.total (.meter m))
      (.num (satAdd64 (PerMeter.get s.store.totals.meter m) (s.chan m).cf % 2 ^ 32)) := by
  obtain ⟨hatt, -, hcf, -, -⟩ := decodedCycle_counts s dt m ph
  generalize hnew : satAdd64 (PerMeter.get s.store.totals.meter m) (s.chan m).cf = new at hf hone ⊢
  generalize hv : (decodedCycle s dt m ph).setTotals { s.store.totals with
    meter := PerMeter.set s.store.totals.meter m new } = v
  have hwatches : v.store.watches = s.store.watches := by rw [← hv, State.setTotals_watches]; simp
  generalize hu : ({ v with store := { v.store with
    watches := v.store.watches.set i.val { v.store.watches.get i with armed := false } } } : State) = u
  have htotal : (decodedCycle s dt m ph).addMeterTotal m (s.chan m).cf =
      (u.raise .watch (i.val + 1) (.total (.meter m)) (.num (new % 2 ^ 32))).updateTotalsWatches := by
    have htests := State.testWatches_of_one (s := v) (i := i) (by rw [hwatches]; exact hone)
    rw [State.testWatch_of_fires (by rw [hwatches]; exact hf), hu] at htests
    rw [← htests, ← hv]
    simp only [State.addMeterTotal, decodedCycle_frame, hnew]
  have hattribute : ((decodedCycle s dt m ph).addMeterTotal m (s.chan m).cf).attribute m (s.chan m).cf =
      (u.raise .watch (i.val + 1) (.total (.meter m)) (.num (new % 2 ^ 32))).updateTotalsWatches.attribute m
        (s.chan m).cf := by rw [htotal]
  have hraised := raised_of (B := fun _ => False) (s := s) (u := u)
    (t := ((decodedCycle s dt m ph).addMeterTotal m (s.chan m).cf).attribute m (s.chan m).cf)
    (k := .watch) (o := i.val + 1) (d1 := .total (.meter m)) (d2 := .num (new % 2 ^ 32))
    (by simp [← hu, ← hv, State.setTotals]) (by simp [← hu, ← hv, State.setTotals])
    (by
      rw [State.attribute_log _ (by simpa [hatt, State.setTotals] using hnoted), htotal]
      simp)
    (by rw [hattribute]; exact (Keeps.refl _ _).updateTotalsWatches.attributed)
  rw [State.cycleCounted, hcf]
  exact hraised

end Sys2Proof.Machine

open Sys2Proof Sys2Proof.Machine

/-- Settles O44: the folio's entries, and the one total that a counted cycle changes. -/
theorem watchesAreSetAndFire : Obligations.WatchesAreSetAndFire := by
  unfold Obligations.WatchesAreSetAndFire
  refine ⟨fun dt ref r s hs => ⟨fun i e he => ?_, fun hnone => ?_⟩, fun dt m ph s hforward hback hspeed => ?_⟩
  · have hserve : (s.taken dt Folio.watch ref (watchBytes r)).serveWatch r =
        (s.taken dt Folio.watch ref (watchBytes r)).handOver Folio.watch e (detailNum (i.val + 1)) := by
      simp [State.serveWatch, firstBadWatch_taken, he]
    exact ⟨_, (exec_watchFolio hs).trans (congrArg _ hserve), refused_handOver hs watchFolio_ge _ _⟩
  · generalize hw : (Vector.ofFn fun i : Fin 4 => (s.store.watches.get i).apply (r.get i)) = new
    have hserve : (s.taken dt Folio.watch ref (watchBytes r)).serveWatch r =
        ({ s.taken dt Folio.watch ref (watchBytes r) with
          store := { s.store with watches := new } } : State).updateTotalsWatches.handOver Folio.watch .done := by
      simp [State.serveWatch, firstBadWatch_taken, hnone, ← hw]
    refine ⟨_, (exec_watchFolio hs).trans (congrArg _ hserve), by simp [lands_iff], by simp,
      answered_handOver (dt := dt) (bytes := watchBytes r) hs watchFolio_ge ?_ _ _, fun i => ?_⟩
    · exact (State.updateTotalsWatches_quiet _).2
    · have hget : new.get i = (s.store.watches.get i).apply (r.get i) := by
        rw [← hw]; simp [Vector.get_eq_getElem]
      simpa [hget] using (s.store.watches.get i).apply_eq (r.get i)
  · refine ⟨_, exec_pulserEdge_of_keepsSpeed hforward hback hspeed, by simp [lands_iff, State.cycleCounted],
      fun i => ⟨fun hf => ?_, fun hf => ?_⟩, fun i hf hone hnoted => cycleCounted_raised dt ph hf hone hnoted⟩
    · rw [cycleCounted_watch, Watch.after_of_fires hf]
    · rw [cycleCounted_watch, Watch.after_of_not hf]
end


/-! ### MESSAGE -/
section
namespace Sys2Proof.Machine

variable {s : State} {sd : Side} {dt : Nat} {ref : Word32} {text : List Byte}

theorem exec_message (h : CanTouch s (Folio.message sd)) : exec (.message dt sd ref text) s =
    .next ((s.taken dt (Folio.message sd) ref text).serveMessage sd) :=
  congrArg _ (State.request_eq h (message_ge sd) _)

/-- The text in a MESSAGE folio is the text the host has put there (R179). -/
theorem messageOf_taken (h : CanTouch s (Folio.message sd)) (hm : Memory.wf s.exch.mem = true)
    (hlen : text.length ≤ 240) : (s.taken dt (Folio.message sd) ref text).messageOf sd = text := by
  have hhead := (s.taken_header dt text (ref := ref) h.2).1
  have hnat : ((s.taken dt (Folio.message sd) ref text).header (Folio.message sd)).len.toNat = text.length := by
    rw [hhead]
    simp [List.take_of_length_le hlen]
    omega
  rw [State.messageOf, hnat, bodyBytes_taken h hm hlen, List.take_left]

/-- The characters of a host text, each with its code (R97). -/
theorem textChar_eq (c : Byte) : textChar c =
    if (0x30 ≤ c.toNat ∧ c.toNat ≤ 0x39) ∨ (0x41 ≤ c.toNat ∧ c.toNat ≤ 0x5A) ∨ c = 0x2D#8 ∨ c = 0x2E#8 then c
    else 0x20#8 := by
  have hcode : ∀ n : Nat, n < 256 → (c.toNat = n ↔ c = BitVec.ofNat 8 n) := fun n hn => by
    rw [← BitVec.toNat_inj, BitVec.toNat_ofNat, Nat.mod_eq_of_lt hn]
  by_cases hblank : c = 0x20#8
  · simp [textChar, hblank]
  · simp only [textChar, hcode 32 (by decide), hcode 45 (by decide), hcode 46 (by decide), hblank, false_or]

/-- A source change recomposes the frame of a side that shows one (R98). -/
theorem recompose_disp (u : State) (sd : Side) : (u.recompose sd).disp sd = { u.disp sd with
      recompose := (u.disp sd).recompose || decide ((u.disp sd).state = .lit ∨ (u.disp sd).state = .testing) } ∧
    (u.recompose sd).disp sd.other = u.disp sd.other := by
  unfold State.recompose
  dsimp only
  split
  case h_1 h => simp [h]
  case h_2 h => simp [h]
  case h_3 h h' => simp [show ¬ (u.disp sd).state = .lit from h, show ¬ (u.disp sd).state = .testing from h']

end Sys2Proof.Machine

open Sys2Proof Sys2Proof.Machine

/-- Settles O32: the text's first 8 characters, each as it is shown, and the source change on a side that shows. -/
theorem messageSetsTheHostText : Obligations.MessageSetsTheHostText := by
  unfold Obligations.MessageSetsTheHostText
  intro dt sd ref text s hs hm hlen
  generalize hu : s.taken dt (Folio.message sd) ref text = u
  generalize hy : ({ s.disp sd with hostText := (text.take 8).map textChar } : DispSide) = y
  have hserve : (s.taken dt (Folio.message sd) ref text).serveMessage sd =
      ((u.setDisp sd y).recompose sd).handOver (Folio.message sd) .done (if 8 < text.length then clampedBit else 0) := by
    simp [State.serveMessage, messageOf_taken hs hm hlen, ← hu, ← hy]
  obtain ⟨hself, hother⟩ := recompose_disp (u.setDisp sd y) sd
  rw [State.setDisp_disp_self] at hself
  rw [State.setDisp_disp_other] at hother
  refine ⟨_, (exec_message hs).trans (congrArg _ hserve), ?_, ?_, hother.trans (by simp [← hu]),
    answered_handOver (dt := dt) (bytes := text) hs (message_ge sd) (by simp [← hu]) _ _⟩
  · simp [lands_iff, ← hu]
  · refine hself.trans ?_
    simp only [← hy, funext textChar_eq]
end


/-! ### Staging and the swap -/
section
namespace Sys2Proof.Machine

variable {s t u : State} {sd : Side} {dt : Nat} {ref : Word32} {r : StagingReq} {b : Staged} {c : Condition}

theorem exec_priceStaging (h : CanTouch s Folio.priceStaging) : exec (.priceStaging dt ref r) s =
    .next ((s.taken dt Folio.priceStaging ref r.bytes).serveStaging r) :=
  congrArg _ (State.request_eq h priceStaging_ge _)

/-- A staging that a check refuses (R27). -/
theorem staging_refused {e : Result} {d : Word32} (h : CanTouch s Folio.priceStaging)
    (hserve : ∀ v : State, v.prices = s.prices → v.mode = s.mode →
      v.serveStaging r = v.handOver Folio.priceStaging e d) :
    ∃ t, exec (.priceStaging dt ref r) s = .next t ∧ Refused dt s t Folio.priceStaging ref e d :=
  ⟨_, (exec_priceStaging h).trans (congrArg _ (hserve _ (by simp) (by simp))), refused_handOver h priceStaging_ge e d⟩

theorem serveStaging_of_good (hhigh : firstTooHigh r.prices = none)
    (hprice : firstUnpriced u.prices.maps r.prices = none) (hc : stagingCondition r = some c)
    (hclock : c = .atOnce ∨ u.mode.clockUnset = false) :
    u.serveStaging r = (u.acceptStaging ⟨r.prices, r.tag, c⟩).handOver Folio.priceStaging .done := by
  have hno : ¬ (c ≠ .atOnce ∧ u.mode.clockUnset = true) := by rcases hclock with h | h <;> simp [h]
  simp [State.serveStaging, hhigh, hprice, hc, hno]

/-- No side waits to capture, and nothing is told (R33). -/
theorem tellWaiting_of_none (h : ∀ sd, (s.side sd).waiting = false) : s.tellWaiting = s := by
  simp [State.tellWaiting, State.bothSides, h]

/-- An accepted staging before it is put to use: the superseded bank is named, and the new one stands (R28). -/
def State.staged (s : State) (b : Staged) (due : Bool) : State :=
  ({ (match s.prices.staged with
      | some old => s.raise .priceSuperseded 0 (.num old.tag.toNat) (.num b.tag.toNat)
      | none => s) with prices := { s.prices with staged := some b, swapDue := due } }).postPriceView

theorem acceptStaging_eq (s : State) (b : Staged) : s.acceptStaging b =
    if s.dueNow b then (s.staged b (s.dueNow b)).swapTest else (s.staged b (s.dueNow b)).tellWaiting := by
  unfold State.acceptStaging State.staged
  cases s.prices.staged <;> rfl

@[simp] theorem State.staged_frame (s : State) (b : Staged) (due : Bool) : (s.staged b due).now = s.now ∧
    (s.staged b due).pfe = s.pfe ∧ (s.staged b due).sides = s.sides ∧
    (s.staged b due).prices = { s.prices with staged := some b, swapDue := due } ∧
    (s.staged b due).motors = s.motors ∧ (s.staged b due).display = s.display ∧ (s.staged b due).gates = s.gates ∧
    (s.staged b due).store = s.store ∧ (s.staged b due).journal = s.journal ∧ (s.staged b due).mode = s.mode ∧
    (s.staged b due).pins = s.pins ∧ (s.staged b due).pending = s.pending ∧
    (s.staged b due).exch.owned = s.exch.owned := by
  unfold State.staged
  cases s.prices.staged with
  | none => simp
  | some old =>
    simp only [State.postPriceView_frame, State.raise_frame, true_and]
    refine (State.postPriceView_quiet _).2.trans ?_
    exact (s.raise_owned .priceSuperseded 0 (.num old.tag.toNat) (.num b.tag.toNat))

theorem State.staged_nextEvent (s : State) (b : Staged) (due : Bool) : (s.staged b due).exch.nextEvent =
    if s.prices.staged = none then s.exch.nextEvent else succ32 s.exch.nextEvent := by
  unfold State.staged
  rw [(events_of_log (State.postPriceView_quiet _).1).2]
  cases s.prices.staged <;> rfl

/-- A sale in a blocking state holds the swap back (R31). -/
theorem swapTest_of_blocked (h : (s.side sd).state.blocksSwap = true) : s.swapTest = s := by
  cases sd <;> simp [State.swapTest, h]

/-- The swap (R31, R32): the STAGED prices become ACTIVE, and no side waits. -/
theorem swapTest_of_free (hdue : s.prices.swapDue = true) (hb : s.prices.staged = some b) (hd : s.dormant = false)
    (hfree : ∀ sd, (s.side sd).state.blocksSwap = false) (hw : ∀ sd, (s.side sd).waiting = false) :
    Lands 0 [.prices, .display, .store, .journal, .exch] s s.swapTest ∧
      s.swapTest.prices = { s.prices with active := b.prices, staged := none, swapDue := false } ∧
      s.swapTest.exch.nextEvent = succ32 s.exch.nextEvent := by
  have hswap : s.swapTest = s.doSwap b := by simp [State.swapTest, hdue, hd, hfree, hb]
  rw [hswap]
  unfold State.doSwap
  dsimp only
  rw [tellWaiting_of_none (fun sd => by simp only [State.requestSnapshot_reads, State.raise_reads,
    State.postPriceView_reads, State.recomposeBoth_reads]; exact hw sd)]
  refine ⟨by simp [lands_iff], by simp, ?_⟩
  rw [State.requestSnapshot_exch]
  refine congrArg succ32 ?_
  rw [(events_of_log (State.postPriceView_quiet _).1).2, State.recomposeBoth_exch]

theorem stagingCondition_time (h : r.cond = 1) : stagingCondition r =
    if r.weekday ≤ 6 ∧ r.second ≤ 86399 then some (.atTime r.weekday r.second) else none := by
  simp [stagingCondition, h]

/-- A bank staged at once or for the present moment is due as it is accepted (R29, R30). -/
theorem dueNow_time (s : State) (p : Vector Nat 6) (tag : Word32) (w n : Nat) :
    s.dueNow ⟨p, tag, .atTime w n⟩ = (!s.mode.clockUnset && decide (s.mode.clock = ⟨w, n⟩)) := rfl

end Sys2Proof.Machine

open Sys2Proof Sys2Proof.Machine

/-- Settles O17: the checks in their order, the staged bank, and the swap that no sale blocks. -/
theorem stagingAndSwap : Obligations.StagingAndSwap := by
  unfold Obligations.StagingAndSwap
  refine ⟨fun dt ref r s hs => ⟨fun g hg => ?_, fun g hhigh hg => ?_, fun hhigh hprice => ⟨fun hbad => ?_,
    fun hcond hr hun => ?_, fun hcond hr hset hlater hwa hwb => ?_, fun c hc => ?_⟩⟩,
    fun dt s => ⟨fun b hdue hb hd hfree hw => ?_, fun sd hblock => ?_⟩⟩
  · exact staging_refused hs fun v _ _ => by simp [State.serveStaging, hg]
  · exact staging_refused hs fun v hp _ => by simp [State.serveStaging, hhigh, hp, hg]
  · have hnone : stagingCondition r = none := by
      rcases hbad with h | ⟨h, hr⟩
      · obtain ⟨k, hk⟩ : ∃ k, r.cond = k + 2 := ⟨r.cond - 2, by omega⟩
        simp [stagingCondition, hk]
      · rw [stagingCondition_time h, if_neg hr]
    exact staging_refused hs fun v hp _ => by simp [State.serveStaging, hhigh, hp, hprice, hnone]
  · have hsome := (stagingCondition_time hcond).trans (if_pos hr)
    exact staging_refused hs fun v hp hm => by simp [State.serveStaging, hhigh, hp, hprice, hsome, hm, hun]
  · have hsome := (stagingCondition_time hcond).trans (if_pos hr)
    generalize hv : s.taken dt Folio.priceStaging ref r.bytes = v
    have hvm : v.mode = s.mode := by simp [← hv]
    have hserve := serveStaging_of_good (u := v) hhigh (by simpa [← hv] using hprice) hsome (.inr (by rw [hvm, hset]))
    have hdue : v.dueNow ⟨r.prices, r.tag, .atTime r.weekday r.second⟩ = false := by
      rw [dueNow_time, hvm]; simp [hlater]
    rw [acceptStaging_eq, hdue, if_neg (by simp), tellWaiting_of_none (fun sd => by
      cases sd <;> simpa [State.side, ← hv] using by assumption)] at hserve
    refine ⟨_, ((exec_priceStaging hs).trans (by rw [hv])).trans (congrArg _ hserve), by simp [lands_iff, ← hv],
      by simp [← hv], answered_handOver (dt := dt) (bytes := r.bytes) hs priceStaging_ge (by simp [← hv]) _ _, ?_⟩
    rw [State.handOver_nextEvent, State.staged_nextEvent, ← hv, (events_of_log (taken_log hs priceStaging_ge)).2]
    simp
  · generalize hv : s.taken dt Folio.priceStaging ref r.bytes = v
    have hvm : v.mode = s.mode := by simp [← hv]
    have hvside : ∀ sd, v.side sd = s.side sd := fun sd => by simp [← hv]
    have hsome : stagingCondition r = some c := by
      rcases hc with ⟨h, rfl⟩ | ⟨h, hr, -, -, rfl⟩
      · simp [stagingCondition, h]
      · rw [stagingCondition_time h, if_pos hr]
    have hclock : c = .atOnce ∨ v.mode.clockUnset = false := by
      rw [hvm]
      rcases hc with ⟨-, rfl⟩ | ⟨-, -, hset, -, -⟩
      · exact .inl rfl
      · exact .inr hset
    have hdue : v.dueNow ⟨r.prices, r.tag, c⟩ = true := by
      rcases hc with ⟨-, rfl⟩ | ⟨-, -, hset, hnow, rfl⟩
      · rfl
      · rw [dueNow_time, hvm]; simp [hset, hnow]
    have hserve := serveStaging_of_good (u := v) hhigh (by simpa [← hv] using hprice) hsome hclock
    rw [acceptStaging_eq, hdue, if_pos rfl] at hserve
    have hex := ((exec_priceStaging (dt := dt) (ref := ref) hs).trans (by rw [hv])).trans (congrArg _ hserve)
    refine ⟨fun ⟨sd, hblock⟩ => ?_, fun hd hfree hw => ?_⟩
    · rw [swapTest_of_blocked (sd := sd) (by simpa [State.side, ← hv] using hblock)] at hex
      exact ⟨_, hex, by simp [lands_iff, ← hv], by simp [← hv],
        answered_handOver (dt := dt) (bytes := r.bytes) hs priceStaging_ge (by simp [← hv]) _ _⟩
    · obtain ⟨hland, hprices, -⟩ := swapTest_of_free (s := v.staged ⟨r.prices, r.tag, c⟩ true) (by simp) (by simp; rfl)
        (by simpa [State.dormant, ← hv] using hd) (by simpa [State.side, ← hv] using hfree)
        (by simpa [State.side, ← hv] using hw)
      rw [lands_iff] at hland
      refine ⟨_, hex, ?_, ?_, answered_handOver (dt := dt) (bytes := r.bytes) hs priceStaging_ge (by simp [← hv]) _ _⟩
      · rw [lands_iff]; simpa [← hv] using hland
      · refine hprices.trans ?_
        simp [← hv]
  · obtain ⟨hland, hprices, hnext⟩ := swapTest_of_free (s := s.elapse dt) hdue hb hd hfree hw
    exact ⟨_, rfl, hland, hprices, hnext⟩
  · exact congrArg _ (swapTest_of_blocked (s := s.elapse dt) hblock)
end


/-! ### A request's bytes spell the request -/
section
namespace Sys2Proof.Machine

/-! #### Fields -/

@[simp] theorem length_be (k v : Nat) : (be k v).length = k := by
  induction k with
  | zero => rfl
  | succ k ih => simp [be, ih]

theorem byte1_eq_be (n : Nat) : byte1 n = be 1 n := by simp [byte1, be]

/-- A number written most significant byte first reads back modulo its width. -/
theorem ofBe_be (k v : Nat) : ofBe (be k v) = v % 256 ^ k := by
  induction k with
  | zero => simp [be, ofBe, Nat.mod_one]
  | succ k ih =>
    rw [be, ofBe, length_be, ih, BitVec.toNat_ofNat, Nat.mod_pow_succ (b := 256), Nat.add_comm, Nat.mul_comm]

theorem fieldNat_be {k v : Nat} (h : fits k v = true) : fieldNat (be k v) 0 k = v := by
  have hlt : v < 256 ^ k := by simpa [fits] using h
  have hall : (be k v).take k = be k v := List.take_of_length_le (by simp)
  rw [fieldNat, List.drop_zero, hall, ofBe_be, Nat.mod_eq_of_lt hlt]

theorem fieldNat_skip {a b : List Byte} {off len : Nat} (h : a.length ≤ off) :
    fieldNat (a ++ b) off len = fieldNat b (off - a.length) len := by
  rw [fieldNat, fieldNat, List.drop_append, List.drop_of_length_le h, List.nil_append]

theorem fieldByte_skip {a b : List Byte} {off : Nat} (h : a.length ≤ off) :
    fieldByte (a ++ b) off = fieldByte b (off - a.length) :=
  List.getD_append_right _ _ _ _ h

section
variable {α : Type} {enc : α → List Byte} {w : Nat} (hw : ∀ x, (enc x).length = w)
include hw

/-- The `i`-th of equally long records begins at `w * i`. -/
theorem flatMap_split (l : List α) (i : Nat) (hi : i < l.length) :
    ∃ pre post, l.flatMap enc = pre ++ (enc l[i] ++ post) ∧ pre.length = w * i := by
  refine ⟨(l.take i).flatMap enc, (l.drop (i + 1)).flatMap enc, ?_, ?_⟩
  · have hl : l = l.take i ++ l[i] :: l.drop (i + 1) := by simp
    exact (congrArg (List.flatMap enc) hl).trans (by rw [List.flatMap_append, List.flatMap_cons])
  · simp [hw, Nat.min_eq_left hi.le, Nat.mul_comm]

theorem fieldNat_flatMap (l : List α) (rest : List Byte) {i off len : Nat} (hi : i < l.length) (ho : off + len ≤ w) :
    fieldNat (l.flatMap enc ++ rest) (w * i + off) len = fieldNat (enc l[i]) off len := by
  obtain ⟨pre, post, hsplit, hpre⟩ := flatMap_split hw l i hi
  rw [hsplit, List.append_assoc, fieldNat_skip (by omega), hpre, Nat.add_sub_cancel_left, List.append_assoc,
    fieldNat_append (by rw [hw]; exact ho)]

theorem fieldByte_flatMap (l : List α) (rest : List Byte) {i off : Nat} (hi : i < l.length) (ho : off < w) :
    fieldByte (l.flatMap enc ++ rest) (w * i + off) = fieldByte (enc l[i]) off := by
  obtain ⟨pre, post, hsplit, hpre⟩ := flatMap_split hw l i hi
  rw [hsplit, List.append_assoc, fieldByte_skip (by omega), hpre, Nat.add_sub_cancel_left, List.append_assoc,
    fieldByte_append (by rw [hw]; exact ho)]

end

/-! #### The four bodies -/

theorem StagingReq.ofBytes_bytes {r : StagingReq} (h : r.wellFormed = true) (rest : List Byte) :
    StagingReq.ofBytes (r.bytes ++ rest) = r := by
  simp only [StagingReq.wellFormed, Bool.and_eq_true, List.all_eq_true] at h
  obtain ⟨⟨⟨hp, hc⟩, hw⟩, hs⟩ := h
  have hlen : (r.prices.toList.flatMap (be 3)).length = 18 := by simp
  have htag : fits 4 r.tag.toNat = true := by simpa [fits] using r.tag.isLt
  simp only [StagingReq.bytes, StagingReq.ofBytes, List.append_assoc, byte1_eq_be]
  congr 1
  · refine Vector.ext fun i hi => ?_
    rw [Vector.getElem_ofFn]
    have := fieldNat_flatMap (length_be 3) r.prices.toList (be 4 r.tag.toNat ++ (be 1 r.cond ++ (be 1 r.weekday ++
      (be 3 r.second ++ rest)))) (i := i) (off := 0) (len := 3) (by simpa using hi) (by simp)
    rw [Nat.add_zero] at this
    rw [this, fieldNat_be (hp _ (by simp)), Vector.getElem_toList]
  · rw [fieldNat_skip (by omega), hlen, fieldNat_append (by simp), Nat.sub_self, fieldNat_be htag]
    simp
  · rw [fieldNat_skip (by omega), hlen, fieldNat_skip (by simp), length_be, fieldNat_append (by simp)]
    exact fieldNat_be hc
  · rw [fieldNat_skip (by omega), hlen, fieldNat_skip (by simp), length_be, fieldNat_skip (by simp), length_be,
      fieldNat_append (by simp)]
    exact fieldNat_be hw
  · rw [fieldNat_skip (by omega), hlen, fieldNat_skip (by simp), length_be, fieldNat_skip (by simp), length_be,
      fieldNat_skip (by simp), length_be, fieldNat_append (by simp)]
    exact fieldNat_be hs

theorem GradeReq.length_bytes (g : GradeReq) : g.bytes.length = 6 := by simp [GradeReq.bytes, byte1]

/-- A grade record reads back. -/
theorem GradeReq.fields {g : GradeReq} (h : g.wellFormed = true) :
    fieldNat g.bytes 0 1 = g.comp ∧ fieldNat g.bytes 1 1 = g.margin ∧
      ∀ j : Fin 4, fieldByte g.bytes (2 + j.val) = g.text[j] := by
  simp only [GradeReq.wellFormed, Bool.and_eq_true] at h
  simp only [GradeReq.bytes, byte1_eq_be, List.append_assoc]
  refine ⟨?_, ?_, fun j => ?_⟩
  · rw [fieldNat_append (by simp), fieldNat_be h.1]
  · rw [fieldNat_skip (by simp), length_be, fieldNat_append (by simp)]
    exact fieldNat_be h.2
  · rw [fieldByte_skip (by simp; omega), length_be, fieldByte_skip (by simp), length_be]
    simp [fieldByte]

/-- A nozzle map reads back. -/
theorem map_ofBytes {m : Vector Nat 4} (h : ∀ x ∈ m.toList, fits 1 x = true) (rest : List Byte) :
    (Vector.ofFn fun j : Fin 4 => fieldNat (m.toList.flatMap (be 1) ++ rest) j.val 1) = m := by
  refine Vector.ext fun j hj => ?_
  have hfield := fieldNat_flatMap (length_be 1) m.toList rest (i := j) (off := 0) (len := 1) (by simpa using hj) (by simp)
  rw [Nat.add_zero, Nat.one_mul] at hfield
  rw [Vector.getElem_ofFn, hfield, fieldNat_be (h _ (by simp)), Vector.getElem_toList]

theorem GradesReq.ofBytes_bytes {r : GradesReq} (h : r.wellFormed = true) (rest : List Byte) :
    GradesReq.ofBytes (r.bytes ++ rest) = r := by
  simp only [GradesReq.wellFormed, Bool.and_eq_true, List.all_eq_true] at h
  obtain ⟨⟨hg, ha⟩, hb⟩ := h
  obtain ⟨grades, a, b⟩ := r
  have hskip : ∀ rest j, fieldNat (grades.toList.flatMap GradeReq.bytes ++ rest) (36 + j) 1 = fieldNat rest j 1 :=
    fun rest j => by
      have hlen : (grades.toList.flatMap GradeReq.bytes).length = 36 := by simp [GradeReq.length_bytes]
      rw [fieldNat_skip (by omega), hlen, Nat.add_sub_cancel_left]
  have hskip' : ∀ rest j, fieldNat (a.toList.flatMap (be 1) ++ rest) (4 + j) 1 = fieldNat rest j 1 := fun rest j => by
    rw [fieldNat_skip (by simp)]; simp
  simp only [GradesReq.bytes, GradesReq.ofBytes, List.append_assoc, funext byte1_eq_be]
  congr 1
  · refine Vector.ext fun i hi => ?_
    have hi' : i < grades.toList.length := by simpa using hi
    obtain ⟨hcomp, hmargin, htext⟩ := GradeReq.fields (hg grades.toList[i] (by simp))
    have hnat := fun off len ho => fieldNat_flatMap GradeReq.length_bytes grades.toList
      (a.toList.flatMap (be 1) ++ (b.toList.flatMap (be 1) ++ rest)) (i := i) (off := off) (len := len) hi' ho
    have hbyte := fun off ho => fieldByte_flatMap GradeReq.length_bytes grades.toList
      (a.toList.flatMap (be 1) ++ (b.toList.flatMap (be 1) ++ rest)) (i := i) (off := off) hi' ho
    have hfirst := (hnat 0 1 (by simp)).trans hcomp
    rw [Nat.add_zero] at hfirst
    rw [Vector.getElem_ofFn]
    simp only [hfirst, (hnat 1 1 (by simp)).trans hmargin]
    rw [Vector.getElem_toList]
    congr 1
    refine Vector.ext fun j hj => ?_
    rw [Vector.getElem_ofFn, Nat.add_assoc, hbyte (2 + j) (by omega), htext ⟨j, hj⟩]
    simp
  · simp only [hskip]
    congr 1
    · exact map_ofBytes ha _
    · simp only [show ∀ j : Fin 4, 40 + j.val = 36 + (4 + j.val) from fun j => by omega, hskip, hskip']
      exact map_ofBytes hb _

/-- One WATCH entry's bytes. -/
def watchRecord (w : WatchReq) : List Byte := be 1 w.action ++ (be 1 w.object ++ be 8 w.threshold)

theorem watchBytes_eq (r : Vector WatchReq 4) : watchBytes r = r.toList.flatMap watchRecord := by
  simp only [watchBytes, byte1_eq_be, List.append_assoc]
  rfl

theorem length_watchRecord (w : WatchReq) : (watchRecord w).length = 10 := by simp [watchRecord]

/-- A WATCH entry reads back. -/
theorem watchRecord_fields {w : WatchReq} (h : w.wellFormed = true) : fieldNat (watchRecord w) 0 1 = w.action ∧
    fieldNat (watchRecord w) 1 1 = w.object ∧ fieldNat (watchRecord w) 2 8 = w.threshold := by
  simp only [WatchReq.wellFormed, Bool.and_eq_true] at h
  obtain ⟨⟨haction, hobject⟩, hthreshold⟩ := h
  unfold watchRecord
  refine ⟨?_, ?_, ?_⟩
  · rw [fieldNat_append (by simp), fieldNat_be haction]
  · rw [fieldNat_skip (by simp), length_be, fieldNat_append (by simp)]
    exact fieldNat_be hobject
  · rw [fieldNat_skip (by simp), length_be, fieldNat_skip (by simp), length_be]
    exact fieldNat_be hthreshold

theorem watchOfBytes_watchBytes {r : Vector WatchReq 4} (h : r.toList.all WatchReq.wellFormed = true)
    (rest : List Byte) : watchOfBytes (watchBytes r ++ rest) = r := by
  rw [List.all_eq_true] at h
  refine Vector.ext fun i hi => ?_
  have hi' : i < r.toList.length := by simpa using hi
  obtain ⟨haction, hobject, hthreshold⟩ := watchRecord_fields (h r.toList[i] (by simp))
  have hnat := fun off len ho =>
    fieldNat_flatMap length_watchRecord r.toList rest (i := i) (off := off) (len := len) hi' ho
  have hfirst := (hnat 0 1 (by simp)).trans haction
  rw [Nat.add_zero] at hfirst
  simp only [watchOfBytes, watchBytes_eq, Vector.getElem_ofFn, hfirst, (hnat 1 1 (by simp)).trans hobject,
    (hnat 2 8 (by simp)).trans hthreshold]
  simp

theorem CalEntry.length_bytes (e : CalEntry) : e.bytes.length = 3 := by cases e <;> simp [CalEntry.bytes]

/-- An entry is what its three bytes spell, wherever they stand. -/
theorem CalEntry.ofBytes_congr {b b' : List Byte} {off off' : Nat} (hbyte : fieldByte b off = fieldByte b' off')
    (hnat : fieldNat b (off + 1) 2 = fieldNat b' (off' + 1) 2) : CalEntry.ofBytes b off = CalEntry.ofBytes b' off' := by
  simp only [CalEntry.ofBytes, hbyte, hnat]

theorem CalEntry.ofBytes_bytes {e : CalEntry} (h : e.wellFormed = true) : CalEntry.ofBytes e.bytes 0 = e := by
  cases e with
  | leave => rfl
  | set cf =>
    have hcf : fieldNat (1#8 :: be 2 cf) 1 2 = cf := fieldNat_be h
    have hone : fieldByte (1#8 :: be 2 cf) 0 = 1#8 := rfl
    show CalEntry.ofBytes (1#8 :: be 2 cf) 0 = _
    simp only [CalEntry.ofBytes, hcf, hone]
    rfl

theorem calOfBytes_calBytes {r : CalReq} (h : calWellFormed r = true) (rest : List Byte) :
    calOfBytes (calBytes r ++ rest) = r := by
  rw [calWellFormed, List.all_eq_true] at h
  have hlen : ∀ m : Meter, (PerMeter.get r m).bytes.length = 3 := fun m => CalEntry.length_bytes _
  have hentry : ∀ i (hi : i < Meter.all.length), CalEntry.ofBytes (calBytes r ++ rest) (3 * i) =
      PerMeter.get r Meter.all[i] := fun i hi => by
    have hb := fieldByte_flatMap hlen Meter.all rest (i := i) (off := 0) hi (by simp)
    have hn := fieldNat_flatMap hlen Meter.all rest (i := i) (off := 1) (len := 2) hi (by simp)
    exact (CalEntry.ofBytes_congr hb hn).trans (CalEntry.ofBytes_bytes (h _ (List.getElem_mem hi)))
  have h0 := hentry 0 (by decide)
  have h1 := hentry 1 (by decide)
  have h2 := hentry 2 (by decide)
  have h3 := hentry 3 (by decide)
  have h4 := hentry 4 (by decide)
  have h5 := hentry 5 (by decide)
  simp only [Nat.mul_zero, Nat.mul_one, Nat.reduceMul] at h0 h1 h2 h3 h4 h5
  simp only [calOfBytes, h0, h1, h2, h3, h4, h5]
  rfl

/-! #### The touch -/

variable {s : State} {f : Folio} {dt : Nat} {ref : Word32} {bytes : List Byte} {serve : State → State} {v : Word32}

theorem hostFill_elapse (s : State) (dt : Nat) (f : Folio) (ref : Word32) (bytes : List Byte) :
    (s.hostFill f ref bytes).elapse dt = (s.elapse dt).hostFill f ref bytes := by
  unfold State.hostFill
  split
  case isTrue h => rw [if_pos (show ((s.elapse dt).header f).holder = .host from h)]; rfl
  case isFalse h => rw [if_neg (show ¬ ((s.elapse dt).header f).holder = .host from h)]

/-- A request command is the touch of its folio, filled, when its folio's bytes spell it (R179, R180). -/
theorem request_eq_touch (hv : v.toNat % 256 = f.val) (hhost : (s.header f).holder = .host)
    (hserve : CanTouch s f → (s.taken dt f ref bytes).serveFolio f = serve (s.taken dt f ref bytes)) :
    Host.Outcome.next ((s.elapse dt).request f ref bytes serve) = exec (.touch dt v) (s.hostFill f ref bytes) := by
  rw [exec_touch hv, hostFill_elapse]
  refine congrArg _ ?_
  unfold State.request State.touchWith
  split
  case isTrue ht =>
    have hready : s.exch.ready = true := by
      simp only [State.touchable, Bool.and_eq_true] at ht
      simpa using ht.1.1
    have htouched : (s.taken dt f ref bytes) = ((s.elapse dt).hostFill f ref bytes).touched f := rfl
    rw [← htouched]
    exact congrArg (ite _ _) (hserve ⟨hready, hhost⟩).symm
  case isFalse => rfl

end Sys2Proof.Machine

open Sys2Proof Sys2Proof.Machine

/-- Settles O10: each of the four bodies reads back as the request that was written. -/
theorem touchTakesTheRequest : Obligations.TouchTakesTheRequest := by
  unfold Obligations.TouchTakesTheRequest
  refine fun s dt ref hm => ⟨fun r hr hh => request_eq_touch rfl hh fun hs => ?_,
    fun r hr hh => request_eq_touch rfl hh fun hs => ?_, fun r hr hh => request_eq_touch rfl hh fun hs => ?_,
    fun r hr hh => request_eq_touch rfl hh fun hs => ?_⟩
  · have hbody := bodyBytes_taken (dt := dt) (ref := ref) (bytes := r.bytes) hs hm (by simp [StagingReq.bytes, byte1])
    exact congrArg (State.serveStaging _) ((congrArg StagingReq.ofBytes hbody).trans (StagingReq.ofBytes_bytes hr _))
  · have hbody := bodyBytes_taken (dt := dt) (ref := ref) (bytes := r.bytes) hs hm
      (by simp [GradesReq.bytes, GradeReq.length_bytes, byte1])
    exact congrArg (State.serveGrades _) ((congrArg GradesReq.ofBytes hbody).trans (GradesReq.ofBytes_bytes hr _))
  · have hbody := bodyBytes_taken (dt := dt) (ref := ref) (bytes := watchBytes r) hs hm
      (by simp [watchBytes_eq, length_watchRecord])
    exact congrArg (State.serveWatch _) ((congrArg watchOfBytes hbody).trans (watchOfBytes_watchBytes hr _))
  · have hbody := bodyBytes_taken (dt := dt) (ref := ref) (bytes := calBytes r) hs hm
      (by simp [calBytes, CalEntry.length_bytes, Meter.all])
    exact congrArg (State.serveCalibration _) ((congrArg calOfBytes hbody).trans (calOfBytes_calBytes hr _))
end


/-! ### What the Mode Controller's moves leave: the user sets and the clock -/
section
namespace Sys2Proof.Machine

variable {s t u : State} {sd : Side} {p q : Product} {w : User}

/-! #### User sets -/

theorem motor_of_set {m : Motor} (h : t.motors.motor = s.motors.motor.set p m)
    (hm : m.users = (s.motor p).users) (q : Product) : (t.motor q).users = (s.motor q).users := by
  rw [State.motor, h]
  by_cases hq : q = p
  · subst hq; simp [hm]
  · simp [PerProduct.get_set_ne _ _ hq, State.motor]

theorem State.ranDown_users (s : State) (m : Motor) : (s.ranDown m).users = m.users := by
  unfold State.ranDown
  split <;> rfl

/-- A confirmed start, a grant and the arbiter's test change no user set (R77, R80, R82). -/
theorem confirmStart_users (s : State) (p q : Product) : ((s.confirmStart p).motor q).users = (s.motor q).users := by
  refine motor_of_set (congrArg Motors.motor (confirmStart_motors s p)) ?_ q
  unfold State.confirmed
  split
  · rfl
  · exact s.ranDown_users _

theorem granted_users (s : State) (p : Product) (rest : List Product) (q : Product) :
    ((s.granted p rest).motor q).users = (s.motor q).users := motor_of_set (congrArg Motors.motor (granted_motors s p rest)) rfl q

@[simp] theorem arbiterTest_users (s : State) (q : Product) : (s.arbiterTest.motor q).users = (s.motor q).users := by
  unfold State.arbiterTest
  split
  · rfl
  · split
    · rw [grant_eq]
      split
      · rw [confirmStart_users, granted_users]
      · rw [granted_users]
    · rfl

@[simp] theorem newHeadTest_users (s : State) (o : Option Product) (q : Product) :
    ((s.newHeadTest o).motor q).users = (s.motor q).users := by
  unfold State.newHeadTest
  split <;> simp

theorem Users.remove_of_not (us : Users) (h : us.has w = false) : us.remove w = us := by
  obtain ⟨a, b, c⟩ := us
  cases w with
  | side sd => cases sd <;> cases h <;> rfl
  | prime => cases h; rfl

/-- A release takes its user out of one product's set (R77). -/
theorem release_users (s : State) (w : User) (p q : Product) : ((s.release w p).motor q).users =
    if q = p then (s.motor p).users.remove w else (s.motor q).users := by
  by_cases hq : q = p
  · subst hq
    rw [if_pos rfl]
    unfold State.release
    dsimp only
    split
    case isTrue =>
      split
      · simp
      · split <;> simp [State.motor, rundown_motors, State.dropFifo, State.setFifo, State.ranDown_users, State.setMotor]
    case isFalse hn => exact (Users.remove_of_not _ (by simpa using hn)).symm
  · rw [if_neg hq, release_motor_ne w hq]

/-- A release from every product takes the user out of every set (R77). -/
theorem releaseAll_users (s : State) (w : User) (q : Product) :
    ((s.releaseAll w).motor q).users = (s.motor q).users.remove w := by
  rw [State.releaseAll, newHeadTest_users]
  cases q <;> simp only [release_users] <;> simp

theorem releaseAll_prime (s : State) (q : Product) : ((s.releaseAll .prime).motor q).users.prime = false := by
  rw [releaseAll_users]; rfl

/-! #### The gates -/

/-- A mode claim leaves a gate OFF or TRIPPED, and the other as it was (R125). -/
theorem gateClaim_gate (s : State) (sd : Side) :
    (((s.gateClaim sd).gate sd).state = .off ∨ ((s.gateClaim sd).gate sd).state = .tripped) ∧
      (s.gateClaim sd).gate sd.other = s.gate sd.other := by
  have hoff : ((s.gateOff sd).gate sd).state = .off ∧ (s.gateOff sd).gate sd.other = s.gate sd.other := by
    unfold State.gateOff
    simp only [State.gateChange_gate, and_true]
    split <;> rfl
  cases h : (s.gate sd).state <;> simp [State.gateClaim, h, hoff]

/-! #### The clock -/

/-- The clock, its CLOCK_UNSET flag and the schedule. -/
def ModeCtl.times (m : ModeCtl) : Clock × Bool × Schedule := (m.clock, m.clockUnset, m.schedule)

theorem ModeStands.times (h : ModeStands s t) : t.mode.times = s.mode.times := by rw [h]; rfl

@[simp] theorem setMode_times (s : State) (m : ModeCtl) : (s.setMode m).mode.times = m.times := rfl

@[simp] theorem changeMode_times (s : State) (m : Mode) (st : Option Stage) (d : Detail) :
    (s.changeMode m st d).mode.times = s.mode.times := by rw [State.changeMode_mode]; rfl

@[simp] theorem toStage_times (s : State) (st : Stage) : (s.toStage st).mode.times = s.mode.times := by
  rw [State.toStage_mode]; rfl

theorem darkReport_mode (s : State) : s.darkReport.mode = s.mode ∨
    s.darkReport.mode = { s.mode with stage := some .snapshot } := by
  unfold State.darkReport
  split
  · dsimp only
    split
    · exact .inr (by simp [State.snapshotStage])
    · exact .inl rfl
  · exact .inl rfl

@[simp] theorem darkReport_times (s : State) : s.darkReport.mode.times = s.mode.times := by
  rcases darkReport_mode s with h | h
  · rw [h]
  · rw [h]; rfl

theorem stopMotor_stands (s : State) (p : Product) : ModeStands s (s.stopMotor p) := by
  unfold State.stopMotor
  dsimp only
  split
  · exact ModeStands.newHeadTest ((ModeStands.refl s).of_eq (by simp [State.dropFifo]))
  · exact ModeStands.arbiterTest ((ModeStands.refl s).of_eq (by simp))
  all_goals exact (ModeStands.refl s).of_eq (by simp)

@[simp] theorem motorsOffStage_times (s : State) : s.motorsOffStage.mode.times = s.mode.times := by
  have hstop := (stopMotor_stands (s.toStage .motorsOff) .low).times
  rw [toStage_times] at hstop
  exact hstop

@[simp] theorem drainTest_times (s : State) : s.drainTest.mode.times = s.mode.times := by
  unfold State.drainTest
  split
  · simp only [State.readersOffStage, motorsOffStage_times, State.gateClaim_frame, toStage_times, setMode_times]
    rfl
  · rfl

@[simp] theorem drainReport_times (s : State) (sd : Side) : (s.drainReport sd).mode.times = s.mode.times := by
  unfold State.drainReport
  split
  · rw [drainTest_times]; rfl
  · rfl

@[simp] theorem finishSale_times (s : State) (sd : Side) (r : Option EndReason) :
    (s.finishSale sd r).mode.times = s.mode.times := by
  have hc : ModeStands s (s.completeSale sd r) := (ModeStands.refl s).completeSale
  unfold State.finishSale
  dsimp only
  rw [drainReport_times]
  have hswap : ModeStands s (if (s.side sd).state.blocksSwap then (s.completeSale sd r).swapTest else s.completeSale sd r) :=
    ModeStands.ite (fun _ => hc.swapTest) fun _ => hc
  exact (ModeStands.bothSides (f := State.startingTest) hswap fun _ _ k => k.startingTest).times

@[simp] theorem beginOpening_times (s : State) (c : ModeCause) : (s.beginOpening c).mode.times = s.mode.times := by
  unfold State.beginOpening
  rw [(State.supplyOn_frame _).2.2.2.2.2.2.2.2.1, changeMode_times]
  rfl

@[simp] theorem beginClosing_times (s : State) (c : ModeCause) : (s.beginClosing c).mode.times = s.mode.times := by
  have hrefuse : ∀ (v : State) (x : Side), (v.refuseSale x).mode.times = v.mode.times := fun v x => by
    unfold State.refuseSale
    split <;> simp
  have hboth : ∀ v : State, (v.bothSides State.refuseSale).mode.times = v.mode.times := fun v =>
    (hrefuse _ .b).trans (hrefuse v .a)
  have hstage : (((s.changeMode .closing (some .refuse) (.modeCause c)).bothSides State.refuseSale).toStage
      .drain).mode.times = s.mode.times := by rw [toStage_times, hboth, changeMode_times]
  unfold State.beginClosing
  dsimp only
  rw [drainTest_times]
  exact hstage

@[simp] theorem returnToClosed_times (s : State) (c : ModeCause) : (s.returnToClosed c).mode.times = s.mode.times := by
  unfold State.returnToClosed
  dsimp only
  rw [changeMode_times, setMode_times]
  refine (darkReport_times _).trans ?_
  simp only [State.goDark_frame, State.gateClaim_frame]
  exact (ModeStands.releaseAll (ModeStands.refl s)).times

@[simp] theorem clockForSchedule_times (s : State) : s.clockForSchedule.mode.times = s.mode.times := by
  unfold State.clockForSchedule
  repeat' split
  all_goals dsimp only
  all_goals repeat' split
  all_goals simp

@[simp] theorem clockForPrices_times (s : State) : s.clockForPrices.mode.times = s.mode.times := by
  unfold State.clockForPrices
  split
  · split
    · unfold State.setDue
      exact (ModeStands.swapTest ((ModeStands.refl s).of_eq (by simp))).times
    · rfl
  · rfl

@[simp] theorem newClock_times (s : State) : s.newClock.mode.times = s.mode.times := by simp [State.newClock]

@[simp] theorem openNowTest_times (s : State) : s.openNowTest.mode.times = s.mode.times := by
  unfold State.openNowTest
  split <;> simp

end Sys2Proof.Machine
end


/-! ### OPEN, CLOSE and the schedule's edges -/
section
namespace Sys2Proof.Machine

variable {s t u : State} {sd : Side} {dt weekday second : Nat} {ref : Word32} {c : ModeCause}

theorem changeMode_pfe {m : Mode} (st : Option Stage) (d : Detail) (h : m ≠ .closed) :
    (s.changeMode m st d).pfe = s.pfe := by
  have hclear : ∀ v : State, v.clearNight m = v := fun v => by
    unfold State.clearNight
    split
    · exact absurd rfl h
    · rfl
  simp [State.changeMode, hclear]

/-- A change of mode raises its event and nothing more (R160). -/
theorem changeMode_nextEvent (s : State) (m : Mode) (st : Option Stage) (d : Detail) :
    (s.changeMode m st d).exch.nextEvent = succ32 s.exch.nextEvent := by
  have hclear : ∀ v : State, (v.clearNight m).exch = v.exch := fun v => by
    unfold State.clearNight
    split <;> rfl
  unfold State.changeMode
  dsimp only
  rw [(events_of_log (State.postStatus_quiet _).1).2, State.recomposeBoth_exch, hclear]
  rfl

@[simp] theorem changeMode_plant (s : State) (m : Mode) (st : Option Stage) (d : Detail) :
    (s.changeMode m st d).display.plant = s.display.plant := by
  simp [State.changeMode, State.recomposeBoth]

/-- The opening has begun (R167): WAKE with its delay running, a clear outcome, and the supply on. -/
theorem beginOpening_facts (s : State) (c : ModeCause) :
    Lands 0 [.display, .mode, .exch] s (s.beginOpening c) ∧ (s.beginOpening c).mode = { s.mode with
        mode := .opening, stage := some .wake, outcome := Outcome.clear, wakeT := some (s.now + seconds 2) } ∧
      (s.beginOpening c).display.supply = true ∧ (s.beginOpening c).display.darkT = none ∧
      (s.beginOpening c).exch.nextEvent = succ32 s.exch.nextEvent ∧
      (s.beginOpening c).exch.owned = s.exch.owned := by
  unfold State.beginOpening
  refine ⟨?_, ?_, rfl, rfl, ?_, ?_⟩
  · simp [lands_iff, changeMode_pfe]
  · simp [State.changeMode_mode]
  · exact changeMode_nextEvent _ _ _ _
  · simp [State.supplyOn]

/-- Closing begins with a sale in hand and none to refuse (R172): DRAIN waits, its grace timer running. -/
theorem beginClosing_facts (hauth : ∀ sd, (s.side sd).state ≠ .authorized)
    (hsale : ∃ sd, (s.side sd).state.holdsSale = true) (c : ModeCause) :
    Lands 0 [.display, .mode, .exch] s (s.beginClosing c) ∧ (s.beginClosing c).mode = { s.mode with
        mode := .closing, stage := some .drain, graceT := some (s.now + seconds s.exch.config.closeGrace)
        drainAwait := ⟨(s.side .a).state.holdsSale, (s.side .b).state.holdsSale⟩ } ∧
      (s.beginClosing c).exch.owned = s.exch.owned := by
  generalize hv : s.changeMode .closing (some .refuse) (.modeCause c) = v
  have hside : ∀ x, v.side x = s.side x := fun x => by simp [← hv, State.side]
  have hrefuse : v.bothSides State.refuseSale = v := by
    simp [State.bothSides, State.refuseSale, hside, hauth]
  have hawait : (⟨(s.side .a).state.holdsSale, (s.side .b).state.holdsSale⟩ : Both Bool) ≠ Both.same false := by
    obtain ⟨x, hx⟩ := hsale
    intro h
    simp only [Both.same, Both.mk.injEq] at h
    cases x
    · rw [h.1] at hx; cases hx
    · rw [h.2] at hx; cases hx
  have heq : s.beginClosing c = (v.toStage .drain).setMode { (v.toStage .drain).mode with
      graceT := some (s.now + seconds s.exch.config.closeGrace)
      drainAwait := ⟨(s.side .a).state.holdsSale, (s.side .b).state.holdsSale⟩ } := by
    have hreads : ∀ x, (v.toStage .drain).side x = s.side x := fun x => by
      rw [State.side, (v.toStage_frame .drain).2.2.1]; exact hside x
    unfold State.beginClosing
    rw [hv, hrefuse]
    dsimp only
    rw [hreads .a, hreads .b]
    have hno : ∀ w : State, w.mode.drainAwait ≠ Both.same false → w.drainTest = w := fun w hw => by
      simp [State.drainTest, hw]
    rw [hno _ hawait]
    simp [State.cfg, ← hv]
  rw [heq]
  refine ⟨by simp [lands_iff, ← hv, changeMode_pfe], ?_, ?_⟩
  · rw [State.setMode_mode, State.toStage_mode, ← hv, State.changeMode_mode]
  · simp only [State.setMode]
    rw [State.toStage, (State.postStatus_quiet _).2, ← hv]
    simp [State.setMode]

@[simp] theorem goDark_plant (s : State) : s.goDark.display.heater = s.display.heater := by
  have hexpire : ∀ v : State, v.darkExpire.display.heater = v.display.heater := fun v => by
    have hone : ∀ (w : State) (x : Side), (w.darkenAtExpiry x).display.plant = w.display.plant := fun w x => by
      unfold State.darkenAtExpiry
      split <;> simp
    have := (Display.plant_iff _ _).1 ((hone _ .b).trans (hone { v with display := { v.display with
      darkT := none, darkening := true } } .a))
    exact this.2.1
  have htest : ∀ (w : State) (x : Side), (w.darkenTesting x).display.plant = w.display.plant := fun w x => by
    unfold State.darkenTesting
    dsimp only
    repeat' split
    all_goals simp
  have hboth := (Display.plant_iff _ _).1 ((htest _ .b).trans (htest s .a))
  unfold State.goDark
  dsimp only
  split
  · exact hboth.2.1
  · split
    · rw [hexpire]; exact hboth.2.1
    · exact hboth.2.1

@[simp] theorem darkReport_heater (s : State) : s.darkReport.display.heater = s.display.heater := by
  unfold State.darkReport State.snapshotStage
  dsimp only
  repeat' split
  all_goals simp

/-- The opening has returned to CLOSED (R171): the heater is off, no gate is up and PRIME is a user of no motor. -/
theorem returnToClosed_facts (s : State) (c : ModeCause) : (s.returnToClosed c).mode.mode = .closed ∧
    (s.returnToClosed c).mode.stage = none ∧ (s.returnToClosed c).display.heater = false ∧
    (∀ sd, ((s.returnToClosed c).gate sd).state = .off ∨ ((s.returnToClosed c).gate sd).state = .tripped) ∧
    ∀ p, ((s.returnToClosed c).motor p).users.prime = false := by
  generalize hv : ((s.releaseAll .prime).gateClaim .a).gateClaim .b = v
  generalize hw : ({ v with display := { v.display with heater := false, warmT := none } } : State).goDark.darkReport = w
  have hgates : w.gates = v.gates := by simp [← hw]
  have hmotors : w.motors = v.motors := by simp [← hw]
  have hoff : w.display.heater = false := by rw [← hw]; simp
  have heq : ∃ m, s.returnToClosed c = (w.setMode m).changeMode .closed none (.modeCause c) := by
    refine ⟨{ w.mode with
      wakeT := none, lampAwait := Both.same false, primeReg := PerProduct.same false
      primeWait := PerProduct.same false, readersAwait := Both.same false }, ?_⟩
    unfold State.returnToClosed
    rw [hv]
    dsimp only
    rw [hw]
  obtain ⟨m, heq⟩ := heq
  rw [heq]
  have hplant := (Display.plant_iff _ _).1 (changeMode_plant (w.setMode m) .closed none (.modeCause c))
  refine ⟨by rw [State.changeMode_mode], by rw [State.changeMode_mode], hplant.2.1.trans hoff, fun x => ?_,
    fun p => ?_⟩
  · have hgate : ((w.setMode m).changeMode .closed none (.modeCause c)).gate x = v.gate x := by
      simp [State.gate, hgates]
    rw [hgate, ← hv]
    cases x with
    | a =>
      have hkeep : (((s.releaseAll .prime).gateClaim .a).gateClaim .b).gate .a =
        ((s.releaseAll .prime).gateClaim .a).gate .a := (gateClaim_gate _ .b).2
      rw [hkeep]
      exact (gateClaim_gate _ .a).1
    | b => exact (gateClaim_gate _ .b).1
  · have hmotor : ((w.setMode m).changeMode .closed none (.modeCause c)).motor p = (s.releaseAll .prime).motor p := by
      simp [State.motor, hmotors, ← hv]
    rw [hmotor, releaseAll_prime]

theorem exec_openSite (h : CanTouch s Folio.siteOrder) : exec (.openSite dt ref) s =
    .next ((s.taken dt Folio.siteOrder ref (siteBytes 0 [])).serveOpen) :=
  congrArg _ (State.request_eq h siteOrder_ge _)

theorem exec_closeSite (h : CanTouch s Folio.siteOrder) : exec (.closeSite dt ref) s =
    .next ((s.taken dt Folio.siteOrder ref (siteBytes 1 [])).serveClose) :=
  congrArg _ (State.request_eq h siteOrder_ge _)

theorem exec_setClock (h : CanTouch s Folio.siteOrder) : exec (.setClock dt ref weekday second) s =
    .next ((s.taken dt Folio.siteOrder ref (siteBytes 2 (byte1 weekday ++ be 3 second))).serveSetClock weekday second) :=
  congrArg _ (State.request_eq h siteOrder_ge _)

/-- An OPEN that its folio alone answers (R166). -/
theorem openSite_refused {r : Result} (h : CanTouch s Folio.siteOrder)
    (hserve : ∀ v : State, v.mode = s.mode → v.serveOpen = v.handOver Folio.siteOrder r) :
    ∃ t, exec (.openSite dt ref) s = .next t ∧ Refused dt s t Folio.siteOrder ref r 0 :=
  ⟨_, (exec_openSite h).trans (congrArg _ (hserve _ (by simp))), refused_handOver h siteOrder_ge r 0⟩

/-- A CLOSE that its folio alone answers (R166). -/
theorem closeSite_refused {r : Result} (h : CanTouch s Folio.siteOrder)
    (hserve : ∀ v : State, v.mode = s.mode → v.serveClose = v.handOver Folio.siteOrder r) :
    ∃ t, exec (.closeSite dt ref) s = .next t ∧ Refused dt s t Folio.siteOrder ref r 0 :=
  ⟨_, (exec_closeSite h).trans (congrArg _ (hserve _ (by simp))), refused_handOver h siteOrder_ge r 0⟩

/-- The state a clock tick hands to the Price Table and the schedule (R161). -/
def State.ticked (s : State) (dt : Nat) : State :=
  (s.elapse dt).setMode { s.mode with clock := s.mode.clock.tick }

theorem exec_clockTick (s : State) (dt : Nat) : exec (.clockTick dt) s = .next (s.ticked dt).newClock := rfl

/-- With no bank staged, or with the clock unset, a new value of the clock is no matter of the prices (R30). -/
theorem clockForPrices_of (h : s.prices.staged = none ∨ s.mode.clockUnset = true) : s.clockForPrices = s := by
  unfold State.clockForPrices
  split
  case h_1 b hb =>
    have hno : s.atMoment b = false := by
      rcases h with h | h
      · rw [h] at hb; cases hb
      · unfold State.atMoment
        split <;> simp [h]
    simp [hno]
  case h_2 => rfl

/-- The clock's new value by the schedule's entry for its weekday (R164). -/
theorem newClock_of_entries {days : Vector (Nat × Nat) 7} (hset : s.mode.clockUnset = false)
    (hstaged : s.prices.staged = none) (hdays : s.mode.schedule = .entries days) :
    ((daySchedule days s.mode.clock.weekday).2 ≤ (daySchedule days s.mode.clock.weekday).1 → s.newClock = s) ∧
      ((daySchedule days s.mode.clock.weekday).1 < (daySchedule days s.mode.clock.weekday).2 →
        (s.mode.clock.second = (daySchedule days s.mode.clock.weekday).1 →
          (s.mode.mode = .closed → s.newClock = s.beginOpening .schedule) ∧
            (s.mode.mode ≠ .closed → s.newClock = s)) ∧
        (s.mode.clock.second ≠ (daySchedule days s.mode.clock.weekday).1 →
          s.mode.clock.second ≠ (daySchedule days s.mode.clock.weekday).2 → s.newClock = s) ∧
        (s.mode.clock.second = (daySchedule days s.mode.clock.weekday).2 →
          (s.mode.mode = .openMode → s.newClock = s.beginClosing .schedule) ∧
            (s.mode.mode = .opening → s.newClock = s.returnToClosed .aborted) ∧
            (s.mode.mode ≠ .openMode → s.mode.mode ≠ .opening → s.newClock = s))) := by
  generalize he : daySchedule days s.mode.clock.weekday = e
  have hnew : s.newClock = if e.1 < e.2 then
      if s.mode.clock.second = e.1 then
        if s.mode.mode = .closed then s.beginOpening .schedule else s
      else if s.mode.clock.second = e.2 then
        if s.mode.mode = .openMode then s.beginClosing .schedule
        else if s.mode.mode = .opening then s.returnToClosed .aborted else s
      else s else s := by
    rw [State.newClock, clockForPrices_of (.inl hstaged), State.clockForSchedule, if_neg (by simp [hset]), hdays]
    dsimp only
    rw [he]
    cases s.mode.mode <;> rfl
  rw [hnew]
  refine ⟨fun h => if_neg (by omega), fun hlt => ⟨fun h1 => ?_, fun h1 h2 => ?_, fun h2 => ?_⟩⟩
  · rw [if_pos hlt, if_pos h1]
    exact ⟨fun h => if_pos h, fun h => if_neg h⟩
  · rw [if_pos hlt, if_neg h1, if_neg h2]
  · rw [if_pos hlt, if_neg (by omega), if_pos h2]
    exact ⟨fun h => if_pos h, fun h => by rw [if_neg (by simp [h]), if_pos h], fun h h' => by rw [if_neg h, if_neg h']⟩

end Sys2Proof.Machine

open Sys2Proof Sys2Proof.Machine

/-- Settles O54: the two orders by the mode. -/
theorem openAndClose : Obligations.OpenAndClose := by
  unfold Obligations.OpenAndClose
  intro dt ref s hs
  refine ⟨fun hm => ?_, fun hm => ?_, fun hm => ?_, fun hm => ?_, fun hm hauth hsale => ?_, fun hm => ?_⟩
  · generalize hv : s.taken dt Folio.siteOrder ref (siteBytes 0 []) = v
    have hserve : v.serveOpen = (v.beginOpening .order).handOver Folio.siteOrder .done := by
      simp [State.serveOpen, ← hv, hm]
    obtain ⟨hland, hmode, hsupply, hdark, -, howned⟩ := beginOpening_facts v .order
    have hmode : ((v.beginOpening .order).handOver Folio.siteOrder .done).mode = _ := hmode
    refine ⟨_, ((exec_openSite hs).trans (by rw [hv])).trans (congrArg _ hserve), ?_, by rw [hmode], by rw [hmode], ?_,
      by rw [hmode], hsupply, hdark,
      answered_handOver (dt := dt) (bytes := siteBytes 0 []) hs siteOrder_ge (howned.trans (by rw [hv])) _ _⟩
    · rw [lands_iff] at hland ⊢
      simpa [← hv] using hland
    · rw [hmode]; simp [← hv]
  · exact openSite_refused hs fun v hvm => by rcases hm with h | h <;> simp [State.serveOpen, hvm, h]
  · exact openSite_refused hs fun v hvm => by simp [State.serveOpen, hvm, hm]
  · exact closeSite_refused hs fun v hvm => by rcases hm with h | h <;> simp [State.serveClose, hvm, h]
  · generalize hv : s.taken dt Folio.siteOrder ref (siteBytes 1 []) = v
    have hvside : ∀ x, v.side x = s.side x := fun x => by simp [← hv]
    have hserve : v.serveClose = (v.beginClosing .order).handOver Folio.siteOrder .done := by
      simp [State.serveClose, ← hv, hm]
    obtain ⟨hland, hmode, howned⟩ := beginClosing_facts (s := v) (by simpa only [hvside] using hauth)
      (by simpa only [hvside] using hsale) .order
    generalize v.beginClosing .order = w at hserve hland hmode howned
    have hmode : (w.handOver Folio.siteOrder .done).mode = _ := hmode
    refine ⟨_, ((exec_closeSite hs).trans (by rw [hv])).trans (congrArg _ hserve), ?_, by rw [hmode], by rw [hmode], ?_,
      fun x => ?_, answered_handOver (dt := dt) (bytes := siteBytes 1 []) hs siteOrder_ge (howned.trans (by rw [hv])) _ _⟩
    · rw [lands_iff] at hland ⊢
      simpa [← hv] using hland
    · rw [hmode]; simp [← hv]
    · rw [hmode, hvside, hvside]; cases x <;> rfl
  · generalize hv : s.taken dt Folio.siteOrder ref (siteBytes 1 []) = v
    have hserve : v.serveClose = (v.returnToClosed .aborted).handOver Folio.siteOrder .done := by
      simp [State.serveClose, ← hv, hm]
    obtain ⟨hclosed, hstage, hheater, hgates, hprime⟩ := returnToClosed_facts v .aborted
    have hhead := ((v.returnToClosed .aborted).handOver_header Folio.siteOrder .done 0).1
    exact ⟨_, ((exec_closeSite hs).trans (by rw [hv])).trans (congrArg _ hserve), by simp [← hv], hclosed, hstage, hheater,
      hgates, hprime, by rw [hhead], by rw [hhead]⟩

/-- Settles O53: the clock's own move, and what the schedule makes of its new value. -/
theorem clockMoves : Obligations.ClockMoves := by
  unfold Obligations.ClockMoves
  intro dt ref weekday second s
  refine ⟨fun h => ?_, fun days hset hstaged hdays hlt hedge hm => ?_, fun days hset hstaged hdays => ⟨fun hno => ?_,
    fun hlt hedge => ⟨fun hm hauth hsale => ?_, fun hm => ?_⟩⟩, fun hs => ⟨fun hbad => ?_, fun hw hsec => ?_⟩⟩
  · have hprices : (s.ticked dt).clockForPrices = s.ticked dt :=
      clockForPrices_of (h.symm.imp (fun h => h.1) id)
    have hsched : (s.ticked dt).clockForSchedule = s.ticked dt := by
      rcases h with h | ⟨-, h⟩ <;> simp [State.clockForSchedule, State.ticked, h]
    rw [exec_clockTick, State.newClock, hprices, hsched]
    rfl
  · obtain ⟨-, hent⟩ := newClock_of_entries (s := s.ticked dt) hset hstaged hdays
    obtain ⟨hland, hmode, hsupply, -, hnext, -⟩ := beginOpening_facts (s.ticked dt) .schedule
    refine ⟨_, (exec_clockTick s dt).trans (congrArg _ (((hent hlt).1 hedge).1 hm)), ?_, ?_, ?_, ?_, ?_, hsupply, hnext⟩
    · rw [lands_iff] at hland ⊢
      simpa [State.ticked] using hland
    all_goals rw [hmode]
    · rfl
    · simp [State.ticked]
  · obtain ⟨hnone, hent⟩ := newClock_of_entries (s := s.ticked dt) hset hstaged hdays
    have hstands : (s.ticked dt).newClock = s.ticked dt := by
      by_cases hlt : (daySchedule days s.mode.clock.tick.weekday).1 < (daySchedule days s.mode.clock.tick.weekday).2
      · obtain ⟨hopen, hneither, hclose⟩ := hent hlt
        rcases hno with h | ⟨h1, h2⟩ | ⟨h1, hm⟩ | ⟨h2, hm, hm', -⟩
        · omega
        · exact hneither h1 h2
        · exact (hopen h1).2 hm
        · exact (hclose h2).2.2 hm hm'
      · exact hnone (Nat.not_lt.1 hlt)
    rw [exec_clockTick, hstands]
    rfl
  · obtain ⟨-, hent⟩ := newClock_of_entries (s := s.ticked dt) hset hstaged hdays
    obtain ⟨hland, hmode, -⟩ := beginClosing_facts (s := s.ticked dt) hauth hsale .schedule
    refine ⟨_, (exec_clockTick s dt).trans (congrArg _ (((hent hlt).2.2 hedge).1 hm)), ?_, ?_, ?_, ?_, ?_, fun x => ?_⟩
    · rw [lands_iff] at hland ⊢
      simpa [State.ticked] using hland
    all_goals rw [hmode]
    · rfl
    · simp [State.ticked]
    · cases x <;> rfl
  · obtain ⟨-, hent⟩ := newClock_of_entries (s := s.ticked dt) hset hstaged hdays
    obtain ⟨hclosed, hstage, hheater, hgates, hprime⟩ := returnToClosed_facts (s.ticked dt) .aborted
    refine ⟨_, (exec_clockTick s dt).trans (congrArg _ (((hent hlt).2.2 hedge).2.1 hm)), by simp [State.ticked], ?_,
      hclosed, hstage, hheater, hgates, hprime⟩
    exact congrArg Prod.fst (returnToClosed_times (s.ticked dt) .aborted)
  · have hserve : ∀ u : State, u.serveSetClock weekday second = u.handOver Folio.siteOrder .invalidClock := fun u => by
      simp [State.serveSetClock, hbad]
    exact ⟨_, (exec_setClock hs).trans (congrArg _ (hserve _)), refused_handOver hs siteOrder_ge _ 0⟩
  · generalize hv : s.taken dt Folio.siteOrder ref (siteBytes 2 (byte1 weekday ++ be 3 second)) = v
    have hserve : v.serveSetClock weekday second =
        (v.applyClock ⟨weekday, second⟩).handOver Folio.siteOrder .done := by
      simp [State.serveSetClock, show ¬ (6 < weekday ∨ 86399 < second) by omega]
    have htimes : (v.applyClock ⟨weekday, second⟩).mode.times = (⟨weekday, second⟩, false, s.mode.schedule) := by
      unfold State.applyClock
      dsimp only
      split
      · rw [openNowTest_times, newClock_times]; simp [ModeCtl.times, ← hv]
      · rw [newClock_times]; simp [ModeCtl.times, ← hv]
    have hframe : (v.applyClock ⟨weekday, second⟩).now = v.now ∧ (v.applyClock ⟨weekday, second⟩).pins = v.pins := by
      unfold State.applyClock
      dsimp only
      split <;> simp
    have hhead := ((v.applyClock ⟨weekday, second⟩).handOver_header Folio.siteOrder .done 0).1
    have hclock : (v.applyClock ⟨weekday, second⟩).mode.clock = ⟨weekday, second⟩ := congrArg Prod.fst htimes
    refine ⟨_, ((exec_setClock hs).trans (by rw [hv])).trans (congrArg _ hserve), hframe.1.trans (by simp [← hv]), hclock,
      congrArg (fun x => x.2.1) htimes, congrArg (fun x => x.2.2) htimes, hframe.2.trans (by simp [← hv]), by rw [hhead], by rw [hhead], ?_⟩
    rw [hhead, hclock]
    rfl
end


/-! ### The metrology switch and JOURNAL_INIT -/
section
namespace Sys2Proof.Machine

variable {s : State} {dt : Nat} {ref : Word32} {closed : Bool}

/-- The switch is taken: the journal notes it and STATUS tells it (R156). -/
theorem takeSwitch_of_ne (h : s.journal.switchClosed ≠ closed) : s.takeSwitch closed =
    ({ s with journal := { s.journal with switchClosed := closed } } : State).recomposeBoth.postStatus :=
  if_neg h

theorem exec_switchChange {v : State}
    (hv : v = { s.elapse dt with pins := { s.pins with metrologyClosed := closed } }) :
    exec (.metrologySwitchChange dt closed) s = .next (if v.mode.mode = .holdup then v else v.takeSwitch closed) := by
  rw [hv]; rfl

theorem takeSwitch_of_same (h : s.journal.switchClosed = closed) : s.takeSwitch closed = s := if_pos h

theorem exec_journalInit (h : CanTouch s Folio.siteOrder) : exec (.journalInit dt ref) s =
    .next (s.taken dt Folio.siteOrder ref (siteBytes 8 [])).serveJournalInit :=
  congrArg _ (State.request_eq h siteOrder_ge _)

theorem journalInit_refused {e : Result} {d : Word32} (h : CanTouch s Folio.siteOrder)
    (hserve : ∀ v : State, v.journal = s.journal → v.mode = s.mode →
      v.serveJournalInit = v.handOver Folio.siteOrder e d) :
    ∃ t, exec (.journalInit dt ref) s = .next t ∧ Refused dt s t Folio.siteOrder ref e d :=
  ⟨_, (exec_journalInit h).trans (congrArg _ (hserve _ (by simp) (by simp))), refused_handOver h siteOrder_ge e d⟩

/-- The state of an accepted JOURNAL_INIT before its write (R158): the totals are zeros, and the counter has advanced. -/
def State.initialized (s : State) : State :=
  ({ s with
    store := { s.store with totals := Totals.zero }
    journal := { s.journal with
      metrology := advanceMetrology s.journal.metrology, initWait := .toBegin } }).raise .calibration 0 (.num 0)
    (.num ((advanceMetrology s.journal.metrology).getD 0))

theorem initJournal_of_idle (h : s.journal.inFlight = none) : s.initJournal = s.initialized.beginWrite := by
  simp [State.initJournal, State.initialized, h]

theorem initJournal_of_writing (h : s.journal.inFlight.isSome = true) : s.initJournal = s.initialized := by
  obtain ⟨w, hw⟩ := Option.isSome_iff_exists.1 h
  simp [State.initJournal, State.initialized, hw]

/-- What begins in the write's slot holds the totals as they stand (R148). -/
theorem slotItems_totals (s : State) : s.slotItems.totals = s.store.totals := by
  unfold State.slotItems
  split <;> rfl

theorem initialized_header (s : State) (f : Folio) (hf : 7 ≤ f.val) : s.initialized.header f = s.header f :=
  header_eq_of_owned (State.raise_owned _ _ _ _ _) hf

/-- JOURNAL_INIT is accepted by the three checks of R158. -/
theorem serveJournalInit_of_accepted {v : State} (hsw : v.journal.switchClosed = true) (hm : v.mode.mode = .closed)
    (hu : firstUnset v.journal.master = none) : v.serveJournalInit = v.initJournal := by
  simp [State.serveJournalInit, hsw, hm, hu]

end Sys2Proof.Machine

open Sys2Proof Sys2Proof.Machine

/-- Settles O48: the switch by its level and the mode, and JOURNAL_INIT by its three checks and the write in flight. -/
theorem switchAndJournalInit : Obligations.SwitchAndJournalInit := by
  unfold Obligations.SwitchAndJournalInit
  intro dt ref s closed
  refine ⟨fun hm hsw => ?_, fun h => ?_, fun hs => ⟨fun hsw => ?_, fun hsw hm => ?_, fun m hsw hm hu => ?_,
    fun hsw hm hu hno => ?_, fun hsw hm hu hfl => ?_⟩⟩
  · generalize hv : ({ s.elapse dt with pins := { s.pins with metrologyClosed := closed } } : State) = v
    have hne : v.journal.switchClosed ≠ closed := by rw [← hv]; exact hsw
    have hexec := exec_switchChange (s := s) (dt := dt) (closed := closed) hv.symm
    rw [if_neg (by rw [← hv]; exact hm), takeSwitch_of_ne hne] at hexec
    exact ⟨_, hexec, by simp [lands_iff, ← hv], by simp [← hv], by simp [← hv]⟩
  · generalize hv : ({ s.elapse dt with pins := { s.pins with metrologyClosed := closed } } : State) = v
    rw [exec_switchChange (s := s) hv.symm]
    rcases h with h | h
    · rw [if_pos (by rw [← hv]; exact h)]
    · rw [takeSwitch_of_same (by rw [← hv]; exact h), ite_self]
  · exact journalInit_refused hs fun v hj _ => by simp [State.serveJournalInit, hj, hsw]
  · exact journalInit_refused hs fun v hj hmode => by simp [State.serveJournalInit, hj, hsw, hmode, hm]
  · exact journalInit_refused hs fun v hj hmode => by simp [State.serveJournalInit, hj, hsw, hmode, hm, hu]
  · generalize hv : s.taken dt Folio.siteOrder ref (siteBytes 8 []) = v
    have hhead := (s.taken_header dt (siteBytes 8 []) (ref := ref) hs.2).1
    have hevents := (events_of_log (taken_log (dt := dt) (ref := ref) (bytes := siteBytes 8 []) hs siteOrder_ge)).2
    rw [hv] at hhead hevents
    have hj : v.journal = s.journal := by simp [← hv]
    refine ⟨v.initialized.beginWrite, _, ?_, ?_, ?_, ?_, ?_, ?_, rfl, ?_, ?_, ?_, ?_⟩
    · rw [exec_journalInit hs, hv, serveJournalInit_of_accepted (by simp [hj, hsw]) (by simp [← hv, hm])
        (by simp [hj, hu]), initJournal_of_idle (by simp [hj, hno])]
    · simp [lands_iff, State.initialized, ← hv]
    · simp [State.initialized]
    · simp [State.initialized, ← hv]
    · simp [State.beginWrite, State.initialized, hj]
    · simp [State.beginWrite, State.initialized, hj]
    · exact (slotItems_totals _).trans (by simp [State.initialized])
    · simp [State.beginWrite, State.initialized, WriteWait.begin]
    · have h := (initialized_header v _ siteOrder_ge).trans hhead
      exact ⟨congrArg Header.holder h, congrArg Header.ref h⟩
    · exact congrArg succ32 hevents
  · generalize hv : s.taken dt Folio.siteOrder ref (siteBytes 8 []) = v
    have hhead := (s.taken_header dt (siteBytes 8 []) (ref := ref) hs.2).1
    have hevents := (events_of_log (taken_log (dt := dt) (ref := ref) (bytes := siteBytes 8 []) hs siteOrder_ge)).2
    rw [hv] at hhead hevents
    have hj : v.journal = s.journal := by simp [← hv]
    refine ⟨v.initialized, ?_, ?_, ?_, ?_, ?_, ?_⟩
    · rw [exec_journalInit hs, hv, serveJournalInit_of_accepted (by simp [hj, hsw]) (by simp [← hv, hm])
        (by simp [hj, hu]), initJournal_of_writing (by simp [hj, hfl])]
    · simp [lands_iff, State.initialized, ← hv]
    · simp [State.initialized, ← hv]
    · simp [State.initialized, hj]
    · have h := (initialized_header v _ siteOrder_ge).trans hhead
      exact ⟨congrArg Header.holder h, congrArg Header.ref h⟩
    · exact congrArg succ32 hevents
end


/-! ### CALIBRATION -/
section
namespace Sys2Proof.Machine

variable {s : State} {dt : Nat} {ref : Word32} {r : CalReq} {m m' : Meter} {l : List Meter}

theorem exec_calibration (h : CanTouch s Folio.calibration) : exec (.calibration dt ref r) s =
    .next ((s.taken dt Folio.calibration ref (calBytes r)).serveCalibration r) :=
  congrArg _ (State.request_eq h calibrationFolio_ge _)

theorem calibration_refused {e : Result} {d : Word32} (h : CanTouch s Folio.calibration)
    (hserve : ∀ v : State, v.journal = s.journal → v.firstBadCal r = s.firstBadCal r →
      v.serveCalibration r = v.handOver Folio.calibration e d) :
    ∃ t, exec (.calibration dt ref r) s = .next t ∧ Refused dt s t Folio.calibration ref e d := by
  have hbad : (s.taken dt Folio.calibration ref (calBytes r)).firstBadCal r = s.firstBadCal r := by
    simp only [State.firstBadCal, State.calRefusal, State.taken_frame, State.taken_reads]
  exact ⟨_, (exec_calibration h).trans (congrArg _ (hserve _ (by simp) hbad)),
    refused_handOver h calibrationFolio_ge e d⟩

theorem calAllLeave_iff : calAllLeave r = true ↔ ∀ m, PerMeter.get r m = .leave := by
  simp only [calAllLeave, List.all_eq_true, decide_eq_true_iff]
  exact ⟨fun h m => h m (mem_allMeters m), fun h m _ => h m⟩

/-- The first bad entry of a request of LEAVE alone: none. -/
theorem firstBadCal_of_leave (h : ∀ m, PerMeter.get r m = .leave) : s.firstBadCal r = none := by
  rw [State.firstBadCal, List.findSome?_eq_none_iff]
  intro m _
  have hm : s.calRefusal r m = none := by simp only [State.calRefusal, h m]
  rw [hm]
  rfl

/-- A channel that a meter's entry reaches (R8): a new factor is its CF, or is kept aside until it is detached. -/
theorem deliver_eq (c : Channel) (cf : Nat) :
    c.deliver cf = if c.attached = none then { c with cf := cf } else { c with cfAside := some cf } := by
  unfold Channel.deliver
  split
  case h_1 a h => rw [if_neg (by rw [h]; exact Option.some_ne_none a)]
  case h_2 h => rw [if_pos h]

theorem applyCal_lands (s : State) (m : Meter) (e : CalEntry) :
    Lands 0 [.pfe, .journal, .exch] s (s.applyCal m e) ∧ (s.applyCal m e).exch.owned = s.exch.owned := by
  cases e
  · exact ⟨⟨rfl, fun b _ => by cases b <;> rfl⟩, rfl⟩
  · exact ⟨by simp [State.applyCal, lands_iff], by simp [State.applyCal]⟩

theorem applyCal_set {cf : Nat} (s : State) (m : Meter) :
    PerMeter.get (s.applyCal m (.set cf)).journal.master m = some cf ∧
      (s.applyCal m (.set cf)).chan m = (s.chan m).deliver cf := by
  refine ⟨by simp [State.applyCal], ?_⟩
  simp only [State.applyCal, State.setChan_chan_self]
  rfl

theorem applyCal_ne (s : State) (e : CalEntry) (h : m' ≠ m) :
    PerMeter.get (s.applyCal m e).journal.master m' = PerMeter.get s.journal.master m' ∧
      (s.applyCal m e).chan m' = s.chan m' := by
  cases e
  · exact ⟨rfl, rfl⟩
  · refine ⟨by simp [State.applyCal, PerMeter.get_set_ne _ _ h], ?_⟩
    simp only [State.applyCal, State.setChan_chan_ne _ _ h, State.raise_reads]
    rfl

theorem applyCals_lands (l : List Meter) (s : State) :
    Lands 0 [.pfe, .journal, .exch] s (s.applyCals r l) ∧ (s.applyCals r l).exch.owned = s.exch.owned := by
  induction l generalizing s with
  | nil => exact ⟨⟨rfl, fun b _ => by cases b <;> rfl⟩, rfl⟩
  | cons m l ih =>
    obtain ⟨hl, ho⟩ := applyCal_lands s m (PerMeter.get r m)
    obtain ⟨hl', ho'⟩ := ih (s.applyCal m (PerMeter.get r m))
    rw [State.applyCals]
    refine ⟨?_, ho'.trans ho⟩
    rw [lands_iff] at hl hl' ⊢
    simp_all

/-- A meter outside the list is left alone. -/
theorem applyCals_of_notMem (l : List Meter) (s : State) (h : m ∉ l) :
    PerMeter.get (s.applyCals r l).journal.master m = PerMeter.get s.journal.master m ∧
      (s.applyCals r l).chan m = s.chan m := by
  induction l generalizing s with
  | nil => exact ⟨rfl, rfl⟩
  | cons m' l ih =>
    obtain ⟨hne, hl⟩ := not_or.1 (mt List.mem_cons.2 h)
    obtain ⟨hm, hc⟩ := applyCal_ne s (PerMeter.get r m') hne
    obtain ⟨hm', hc'⟩ := ih (s.applyCal m' (PerMeter.get r m')) hl
    exact ⟨hm'.trans hm, hc'.trans hc⟩

/-- A meter of the list, which names none twice, takes its own entry. -/
theorem applyCals_of_mem (s : State) (hd : l.Nodup) (h : m ∈ l) :
    PerMeter.get (s.applyCals r l).journal.master m =
        PerMeter.get (s.applyCal m (PerMeter.get r m)).journal.master m ∧
      (s.applyCals r l).chan m = (s.applyCal m (PerMeter.get r m)).chan m := by
  induction l generalizing s with
  | nil => cases h
  | cons m' l ih =>
    obtain ⟨hnot, hd⟩ := List.nodup_cons.1 hd
    rw [State.applyCals]
    rcases List.mem_cons.1 h with rfl | hl
    · exact applyCals_of_notMem l _ hnot
    · have hne : m ≠ m' := fun e => hnot (e ▸ hl)
      obtain ⟨hm, hc⟩ := ih (s.applyCal m' (PerMeter.get r m')) hd hl
      obtain ⟨hm', hc'⟩ := applyCal_ne s (PerMeter.get r m') hne
      rw [hm, hc]
      cases PerMeter.get r m
      · exact ⟨hm', hc'⟩
      · rw [(applyCal_set _ m).1, (applyCal_set _ m).2, (applyCal_set s m).1, (applyCal_set s m).2, hc']
        exact ⟨rfl, rfl⟩

theorem requestSnapshot_master (s : State) : s.requestSnapshot.journal.master = s.journal.master := by
  unfold State.requestSnapshot
  split
  · split <;> rfl
  · rfl
  · rfl

end Sys2Proof.Machine

open Sys2Proof Sys2Proof.Machine

/-- Settles O49: the refusals of R157, and each meter's own entry on its master factor and its channel. -/
theorem calibrationIsApplied : Obligations.CalibrationIsApplied := by
  unfold Obligations.CalibrationIsApplied
  refine fun dt ref r s hs => ⟨fun hsw => ?_, fun m e hsw hbad => ?_, fun hsw hall => ?_, fun hsw hbad hset => ?_⟩
  · exact calibration_refused hs fun v hj _ => by simp [State.serveCalibration, hj, hsw]
  · exact calibration_refused hs fun v hj hv => by simp [State.serveCalibration, hj, hsw, hv, hbad]
  · refine calibration_refused hs fun v hj hv => ?_
    simp [State.serveCalibration, hj, hsw, hv, firstBadCal_of_leave hall, calAllLeave_iff.2 hall]
  · have hhead := (s.taken_header dt (calBytes r) (ref := ref) hs.2).1
    have hv : (s.taken dt Folio.calibration ref (calBytes r)).firstBadCal r = none := by
      rw [← hbad]; simp only [State.firstBadCal, State.calRefusal, State.taken_frame, State.taken_reads]
    have hsome : calAllLeave r = false := by
      rw [← Bool.not_eq_true, calAllLeave_iff]
      obtain ⟨m, cf, h⟩ := hset
      exact fun hall => by rw [hall m] at h; cases h
    have hread : (s.taken dt Folio.calibration ref (calBytes r)).journal = s.journal ∧
        (∀ m, (s.taken dt Folio.calibration ref (calBytes r)).chan m = s.chan m) := ⟨by simp, by simp⟩
    have hserve : (s.taken dt Folio.calibration ref (calBytes r)).serveCalibration r =
        ((s.taken dt Folio.calibration ref (calBytes r)).applyCals r Meter.all).awaitCal := by
      simp [State.serveCalibration, hsw, hv, hsome]
    have hfrom : Lands dt [] s { s.taken dt Folio.calibration ref (calBytes r) with exch := s.exch } := by
      simp [lands_iff]
    have hexec := (exec_calibration (dt := dt) (ref := ref) (r := r) hs).trans (congrArg _ hserve)
    generalize s.taken dt Folio.calibration ref (calBytes r) = v at *
    obtain ⟨hl, ho⟩ := applyCals_lands (r := r) Meter.all v
    have hcals := fun m => applyCals_of_mem (r := r) v (by decide : Meter.all.Nodup) (mem_allMeters m)
    generalize v.applyCals r Meter.all = u at *
    have hchan : ∀ m, u.awaitCal.chan m = u.chan m := fun m => by simp [State.awaitCal, State.chan]
    have hmaster : u.awaitCal.journal.master = u.journal.master := requestSnapshot_master _
    refine ⟨_, hexec, ?_, ?_, ?_, fun m => ?_⟩
    · rw [lands_iff] at hl hfrom ⊢
      simp_all [State.awaitCal]
    · have h : u.awaitCal.header Folio.calibration = v.header Folio.calibration :=
        header_eq_of_owned (by simpa [State.awaitCal] using ho) calibrationFolio_ge
      exact ⟨congrArg Header.holder (h.trans hhead), congrArg Header.ref (h.trans hhead)⟩
    · rw [lands_iff] at hl hfrom
      simp_all [State.awaitCal]
    · rw [hchan, hmaster, (hcals m).1, (hcals m).2]
      cases PerMeter.get r m with
      | leave => exact ⟨congrArg (fun j => PerMeter.get j.master m) hread.1, hread.2 m⟩
      | set cf =>
        refine ⟨(applyCal_set v m).1, ?_⟩
        show _ = if _ then _ else _
        rw [(applyCal_set v m).2, deliver_eq, hread.2 m]
end


/-! ### A write of the journal begins and ends -/
section
namespace Sys2Proof.Machine

variable {s t : State} {sd : Side} {dt : Nat} {w : Write} {q : Slot} {damage : List Byte}

theorem exec_periodicTimer {d : Nat} (hd : s.journal.periodicT = some d) (hle : d ≤ s.now + dt) :
    exec (.periodicTimer dt) s = .next (s.elapse dt).requestSnapshot :=
  congrArg Host.Outcome.next (if_pos ((Timer.due_iff _ _).2 ⟨d, hd, hle⟩))

theorem requestSnapshot_of_idle (hp : s.journal.phase = .normal) (hf : s.journal.inFlight = none)
    (he : s.journal.empty = false) : s.requestSnapshot = s.beginWrite := by
  simp [State.requestSnapshot, hp, hf, he]

theorem requestSnapshot_of_writing (hp : s.journal.phase = .normal) (hf : s.journal.inFlight.isSome = true) :
    s.requestSnapshot = s.setRequest := by
  simp [State.requestSnapshot, hp, hf]

theorem slotItems_of_normal (hp : s.journal.phase = .normal) : s.slotItems = s.collect := by
  simp [State.slotItems, hp]

theorem beginWrite_records (s : State) (sd : Side) : s.beginWrite.records sd = (s.records sd).mark := by
  cases sd <;> rfl

/-- A write whose slot reads back VALID, and one whose slot does not (R150). -/
theorem exec_writeValid (hw : s.journal.inFlight = some w) (hq : (w.readBack damage).kind = .valid) :
    exec (.journalWriteComplete dt damage) s = .next (((s.elapse dt).writeDone w (w.readBack damage)).afterDone
      s.journal.phase s.journal.closeWait) := by
  show Host.Outcome.next ((s.elapse dt).writeEnds damage) = _
  unfold State.writeEnds
  simp only [State.elapse_frame, hw, hq, if_true]

theorem exec_writeBad (hw : s.journal.inFlight = some w) (hq : (w.readBack damage).kind ≠ .valid) :
    exec (.journalWriteComplete dt damage) s = .next (((s.elapse dt).writeFailed w (w.readBack damage)).afterFailed
      s.journal.phase) := by
  show Host.Outcome.next ((s.elapse dt).writeEnds damage) = _
  unfold State.writeEnds
  simp only [State.elapse_frame, hw, hq, if_false]

theorem readBack_nil_kind (w : Write) : (w.readBack []).kind = .valid := Slot.written_kind _ _

theorem writeDone_settled (s : State) (hq : q.kind = .valid) : (s.writeDone w q).journal = { s.journal with
    slots := s.journal.slots.set w.slot.val q, newest := some w.slot, next := slotAfter w.slot
    inFlight := none, empty := false
    calWait := s.journal.calWait.completed, initWait := s.journal.initWait.completed
    closeWait := s.journal.closeWait.completed } := by
  rw [writeDone_journal, State.settleWrite, if_pos hq]

theorem writeFailed_settled (s : State) (hq : q.kind ≠ .valid) : (s.writeFailed w q).journal = { s.journal with
    slots := s.journal.slots.set w.slot.val q, next := slotAfterFailed w.slot s.journal.newest, inFlight := none
    calWait := s.journal.calWait.failed, initWait := s.journal.initWait.failed
    closeWait := s.journal.closeWait.failed } := by
  rw [State.writeFailed, (State.raise_frame _ _ _ _ _).2.2.2.2.2.2.2.2.1, State.settleWrite, if_neg hq]

theorem writeFailed_nextEvent (s : State) : (s.writeFailed w q).exch.nextEvent = succ32 s.exch.nextEvent := by
  have h : (s.settleWrite w q).exch = s.exch := by unfold State.settleWrite; dsimp only; split <;> rfl
  exact congrArg (fun e => succ32 e.nextEvent) h

/-! ### Records on their way to the host -/

/-- A side's records that are journal-recorded: the one in the folio and those after it. -/
def Records.waiting (r : Records) : List SaleRecord := r.inFolio.toList ++ r.unreported

/-- The flow into the REPORT folio moves records within the recorded ones (R136). -/
theorem reportFlow_records (s : State) (sd sd' : Side) :
    ((s.reportFlow sd).records sd').pending = (s.records sd').pending ∧
      ((s.reportFlow sd).records sd').waiting = (s.records sd').waiting := by
  have hand : ∀ v : State, (v.reportHandOver sd).records sd' = v.records sd' := fun v => by simp [State.records]
  have hbody : ∀ (v : State) (f : Folio) (b : List Byte), (v.writeBody f b).records sd' = v.records sd' :=
    fun v f b => by simp [State.records]
  unfold State.reportFlow
  dsimp only
  rw [hand]
  split
  case h_1 r rest hin hun =>
    split
    · rw [hbody]
      by_cases h : sd' = sd
      · subst h
        simp [Records.waiting, hin, hun]
      · simp [State.setRecords_records_ne _ _ h]
    · exact ⟨rfl, rfl⟩
  case h_2 => exact ⟨rfl, rfl⟩

theorem reportFlow_store (s : State) (sd : Side) : (s.reportFlow sd).store.totals = s.store.totals ∧
    (s.reportFlow sd).store.counter = s.store.counter := by
  unfold State.reportFlow
  dsimp only
  repeat' split
  all_goals simp [State.setRecords]

/-- The marked records of a write that completes are recorded in its slot (R135). -/
theorem recordMarked_records (s : State) (slot : Fin 16) (sd : Side) :
    ((s.recordMarked slot).records sd).pending = (s.records sd).pending.filter (fun e => !e.marked) ∧
      ((s.recordMarked slot).records sd).waiting = (s.records sd).waiting ++
        ((s.records sd).pending.filter (fun e => e.marked)).map fun e => { e.record with slot := some slot } := by
  unfold State.recordMarked
  dsimp only
  rw [(reportFlow_records _ _ _).1, (reportFlow_records _ _ _).1, (reportFlow_records _ _ _).2,
    (reportFlow_records _ _ _).2]
  cases sd <;> exact ⟨rfl, by simp [Records.waiting, Records.recorded, State.records, Both.map, Both.get]⟩

theorem recordMarked_store (s : State) (slot : Fin 16) : (s.recordMarked slot).store.totals = s.store.totals ∧
    (s.recordMarked slot).store.counter = s.store.counter := by
  unfold State.recordMarked
  dsimp only
  rw [(reportFlow_store _ _).1, (reportFlow_store _ _).1, (reportFlow_store _ _).2, (reportFlow_store _ _).2]
  exact ⟨rfl, rfl⟩

theorem writeDone_store (s : State) (w : Write) (q : Slot) : (s.writeDone w q).store =
    (((s.settleWrite w q).updateTotals w.slot w.seq w.snap).recordMarked w.slot).store := by
  unfold State.writeDone
  dsimp only
  repeat' split
  all_goals simp

theorem writeDone_records (s : State) (w : Write) (q : Slot) (sd : Side) :
    ((s.writeDone w q).records sd).pending = (s.records sd).pending.filter (fun e => !e.marked) ∧
      ((s.writeDone w q).records sd).waiting = (s.records sd).waiting ++
        ((s.records sd).pending.filter (fun e => e.marked)).map fun e => { e.record with slot := some w.slot } := by
  have h : (s.writeDone w q).records sd =
      (((s.settleWrite w q).updateTotals w.slot w.seq w.snap).recordMarked w.slot).records sd := by
    rw [State.records, writeDone_store]; rfl
  have h' : ((s.settleWrite w q).updateTotals w.slot w.seq w.snap).records sd = s.records sd := by
    simp [State.records]
  rw [h, ← h']
  exact recordMarked_records _ _ _

theorem writeDone_totals (s : State) (w : Write) (q : Slot) : (s.writeDone w q).store.totals = s.store.totals ∧
    (s.writeDone w q).store.counter = s.store.counter := by
  rw [writeDone_store, (recordMarked_store _ _).1, (recordMarked_store _ _).2]
  simp

/-- With nobody waiting for another write, none follows a completed one (R150). -/
theorem normalDone_of_idle (hr : s.journal.request = false) (hi : s.journal.initWait = .idle) :
    s.normalDone .idle = s := by
  simp [State.normalDone, State.nextAfterWrite, State.nextWrite, hr, hi]

end Sys2Proof.Machine

open Sys2Proof Sys2Proof.Machine

/-- Settles O46: the write a periodic request begins, and the two ends of a write. -/
theorem journalWrites : Obligations.JournalWrites := by
  unfold Obligations.JournalWrites
  refine fun dt s hp => ⟨fun d hd hle he => ⟨fun hno => ?_, fun hfl => ?_⟩,
    fun w hw hreq hcal hinit hclose => ⟨?_, fun damage hbad => ?_⟩⟩
  · have hexec : exec (.periodicTimer dt) s = .next (s.elapse dt).beginWrite := by
      rw [exec_periodicTimer hd hle, requestSnapshot_of_idle (s := s.elapse dt) hp hno he]
    refine ⟨_, _, hexec, by simp [lands_iff], rfl, rfl, rfl, slotItems_of_normal hp, rfl, rfl, rfl, ?_, rfl, rfl, rfl,
      fun sd => congrArg Records.pending (beginWrite_records _ sd)⟩
    simp [State.beginWrite, hd]
  · rw [exec_periodicTimer hd hle, requestSnapshot_of_writing (s := s.elapse dt) hp hfl]
    rfl
  · have hq := readBack_nil_kind w
    have hj := writeDone_settled (w := w) (s.elapse dt) hq
    have hexec := exec_writeValid (dt := dt) hw hq
    rw [hp, hclose, State.afterDone, normalDone_of_idle ((congrArg Journal.request hj).trans hreq)
      ((congrArg Journal.initWait hj).trans (congrArg WriteWait.completed hinit))] at hexec
    refine ⟨_, hexec, by simp [lands_iff], ?_, (writeDone_totals _ _ _).1, writeDone_records _ _ _⟩
    rw [hj]
    simp [hcal, hinit, hclose, WriteWait.completed]
  · have hj := writeFailed_settled (w := w) (s.elapse dt) hbad
    have hexec := exec_writeBad (dt := dt) hw hbad
    rw [hp, State.afterFailed] at hexec
    have hslots := congrArg Journal.slots hj
    have hnewest := congrArg Journal.newest hj
    have hnext := congrArg Journal.next hj
    have hseq := congrArg Journal.seq hj
    exact ⟨_, _, hexec, by simp [lands_iff], hslots, hnewest, rfl, hnext, hseq, writeFailed_nextEvent _⟩
end


/-! ### A host reset -/
section
namespace Sys2Proof.Machine

variable {s t : State} {sd : Side} {dt : Nat} {r : EndReason} {g : GateCtl}

/-! ### A sale cut short -/

@[simp] theorem countRecord_journal (s : State) (r : SaleRecord) : (s.countRecord r).journal = s.journal := by
  simp

/-- A sale cut short leaves the motors and the mode: its registrations lapse without a release (R72). -/
theorem closeSale_lapsed (s : State) (sd : Side) (reason : Option EndReason) (next : SideCtl → Sale → SideState) :
    (s.closeSale sd reason false next).motors = s.motors ∧ (s.closeSale sd reason false next).mode = s.mode ∧
      (s.closeSale sd reason false next).side sd.other = s.side sd.other ∧
      ((s.closeSale sd reason false next).side sd).nozzles = (s.side sd).nozzles := by
  unfold State.closeSale
  dsimp only
  cases (s.side sd).sale with
  | none => exact ⟨rfl, rfl, rfl, rfl⟩
  | some o =>
    have hdetach : ∀ u : State, (if o.cap.isSome then u.detachMeters sd else u).sides = u.sides ∧
        (if o.cap.isSome then u.detachMeters sd else u).motors = u.motors ∧
        (if o.cap.isSome then u.detachMeters sd else u).mode = u.mode := fun u => by split <;> simp
    dsimp only
    rw [if_neg Bool.false_ne_true]
    generalize hy : ({ SideCtl.cleared _ _ _ with endedNozzle := _ } : SideCtl) = y
    have hside : ∀ x, ((if o.cap.isSome then s.detachMeters sd else s).abandonZero sd).side x = s.side x :=
      fun x => ((State.abandonZero_reads _ sd).1 x).trans (congrArg (Both.get · x) (hdetach s).1)
    refine ⟨by simp [hdetach], by simp [hdetach], ?_, ?_⟩
    · rw [State.putSide_side_other, State.side, (State.takeRecord_frame _ _).2.2.1]
      exact (State.setSide_side_other _ _ _).trans (hside _)
    · have hn := congrArg SideCtl.nozzles (hside sd)
      rw [State.putSide_side_self, ← hy]
      exact hn

theorem cutSale_lapsed (s : State) (sd : Side) (r : EndReason) :
    (s.cutSale sd r).motors = s.motors ∧ (s.cutSale sd r).mode = s.mode ∧
      (s.cutSale sd r).side sd.other = s.side sd.other ∧
      (s.cutSale sd r).side sd = ((s.cutSale sd r).side sd).cleared .idle false ∧
      ((s.cutSale sd r).side sd).nozzles = (s.side sd).nozzles := by
  unfold State.cutSale
  dsimp only
  obtain ⟨hmotors, hmode, hother, hnozzles⟩ := closeSale_lapsed s sd (some r) fun _ _ => .idle
  split
  · exact ⟨by simpa using hmotors, by simpa using hmode, by rw [State.putSide_side_other]; exact hother,
      by simp [SideCtl.cleared], by simpa [SideCtl.cleared] using hnozzles⟩
  · exact ⟨by simp, by simp, by rw [State.putSide_side_other], by simp [SideCtl.cleared], by simp [SideCtl.cleared]⟩

/-- Both sides' sales are cut short (R72): the sides are IDLE with closed valves, their nozzles as they are. -/
def SidesCut (s t : State) : Prop :=
  t.motors = s.motors ∧ t.mode = s.mode ∧ t.gates = s.gates ∧
    ∀ sd, (t.side sd).state = .idle ∧ (t.side sd).sale = none ∧ (t.side sd).nozzles = (s.side sd).nozzles ∧
      ∀ p, (t.side sd).valves.get p = ⟨false, false⟩

theorem bothCut (s : State) (r : EndReason) : SidesCut s (s.bothSides fun s sd => s.cutSale sd r) := by
  obtain ⟨hm, hmode, hother, hself, hn⟩ := cutSale_lapsed s .a r
  obtain ⟨hm', hmode', hother', hself', hn'⟩ := cutSale_lapsed (s.cutSale .a r) .b r
  have hb : (s.cutSale .a r).side .b = s.side .b := hother
  have ha : ((s.cutSale .a r).cutSale .b r).side .a = (s.cutSale .a r).side .a := hother'
  refine ⟨hm'.trans hm, hmode'.trans hmode, by simp [State.bothSides], fun sd => ?_⟩
  cases sd
  · show _ ∧ _
    rw [State.bothSides, ha, ← hn, hself]
    exact ⟨rfl, rfl, rfl, fun p => PerProduct.get_same _ _⟩
  · show _ ∧ _
    rw [State.bothSides, ← hb, ← hn', hself']
    exact ⟨rfl, rfl, rfl, fun p => PerProduct.get_same _ _⟩

/-- The journal but for its pending request and its periodic timer. -/
def Journal.steady (j : Journal) : Journal := { j with request := false, periodicT := none }

theorem putSide_steady (s : State) (sd : Side) (y : SideCtl) : (s.putSide sd y).journal.steady = s.journal.steady := by
  have h : ∀ u : State, u.periodicCheck.journal.steady = u.journal.steady := fun u => by
    unfold State.periodicCheck
    repeat' split
    all_goals rfl
  unfold State.putSide
  rw [(State.postStatus_frame _).2.2.2.2.2.2.2.2.1, (State.recompose_frame _ _).2.2.2.2.2.2.2.1, h]
  rfl

/-- Outside the journal's usual work a request is only noted (R150). -/
theorem requestSnapshot_steady (h : s.journal.phase ≠ .normal) :
    s.requestSnapshot.journal.steady = s.journal.steady := by
  unfold State.requestSnapshot
  split
  case h_1 hp => exact absurd hp h
  case h_2 => rfl
  case h_3 => rfl

theorem takeRecord_steady (r : SaleRecord) (h : s.journal.phase ≠ .normal) :
    (s.takeRecord r).journal.steady = s.journal.steady := by
  unfold State.takeRecord
  dsimp only
  rw [requestSnapshot_steady] <;> simp [State.setRecords, h]

theorem closeSale_steady (reason : Option EndReason) (next : SideCtl → Sale → SideState)
    (h : s.journal.phase ≠ .normal) : (s.closeSale sd reason false next).journal.steady = s.journal.steady := by
  unfold State.closeSale
  dsimp only
  cases (s.side sd).sale with
  | none => rfl
  | some o =>
    have hdetach : (if o.cap.isSome then s.detachMeters sd else s).journal = s.journal := by split <;> simp
    dsimp only
    rw [if_neg Bool.false_ne_true, putSide_steady, takeRecord_steady] <;> simp [hdetach, State.setSide, h]

theorem cutSale_steady (h : s.journal.phase ≠ .normal) : (s.cutSale sd r).journal.steady = s.journal.steady := by
  unfold State.cutSale
  dsimp only
  rw [putSide_steady]
  split
  · exact closeSale_steady _ _ h
  · rfl

theorem bothCut_steady (h : s.journal.phase ≠ .normal) :
    (s.bothSides fun s sd => s.cutSale sd r).journal.steady = s.journal.steady := by
  have ha := cutSale_steady (sd := .a) (r := r) h
  have hp : (s.cutSale .a r).journal.phase = s.journal.phase := (Journal.mk.inj ha).2.2.2.2.2.2.2.2.2.2.2.2.1
  exact (cutSale_steady (sd := .b) (r := r) (by rw [hp]; exact h)).trans ha

/-! ### Gates -/

theorem gateToReset_gate (hd : g.downlink = none) :
    (s.gateToReset sd g).gate sd = g ∧ (s.gateToReset sd g).gate sd.other = s.gate sd.other := by
  unfold State.gateToReset
  split
  · simp
  · rw [(State.gateChange_gate _ _ _ _).1, (State.gateChange_gate _ _ _ _).2]
    refine ⟨?_, rfl⟩
    split
    · exact congrArg (fun d => { g with downlink := d }) hd.symm
    · rfl

theorem bothResults_gate (s : State) (r : Result) (x : Side) :
    (s.bothSides fun s sd => s.downlinkResult sd r).gate x = (s.gate x).answered := by
  have hb := (State.downlinkResult_gate s .a r).2
  have ha := (State.downlinkResult_gate (s.downlinkResult .a r) .b r).2
  cases x
  · exact ha.trans (State.downlinkResult_gate s .a r).1
  · exact (State.downlinkResult_gate _ .b r).1.trans (congrArg GateCtl.answered hb)

theorem bothGateReset_gate (s : State) (x : Side) : (s.bothSides State.gateReset).gate x = (s.gate x).hostReset := by
  have hb : (s.gateReset .a).gate .b = s.gate .b := (gateToReset_gate (sd := .a) rfl).2
  have ha : ((s.gateReset .a).gateReset .b).gate .a = (s.gateReset .a).gate .a := (gateToReset_gate (sd := .b) rfl).2
  cases x
  · exact ha.trans (gateToReset_gate rfl).1
  · exact (gateToReset_gate rfl).1.trans (congrArg GateCtl.hostReset hb)

/-- A gate at a host reset (R131): TRIPPED with its reason stays TRIPPED, and any other is OFF. -/
theorem gate_hostReset (g : GateCtl) : g.hostReset.power = false ∧ g.hostReset.downlink = none ∧
    g.hostReset.state = if g.state = .tripped ∧ g.trip ≠ none then .tripped else .off := by
  refine ⟨rfl, rfl, ?_⟩
  show (if (if g.state = .tripped then g.trip else none).isSome then GateState.tripped else .off) = _
  by_cases hs : g.state = .tripped
  · cases ht : g.trip <;> simp [hs]
  · simp [hs]

/-! ### The reset -/

theorem modeReset_reset (s : State) : s.modeReset.mode = { s.mode.noStage with
    mode := .cold, stage := none, outcome := Outcome.clear, warning := s.pins.warning } := by
  rw [State.modeReset, State.changeMode_mode, State.setMode_mode]

/-- The part a host reset has stopped, up to the folios: READY 0 and COLD, the sales cut short, and the motors, the gates
and the displays at their reset values (R155). -/
def State.resetStopped (s : State) : State :=
  (((((({ s with exch := { s.exch with ready := false } } : State).modeReset.toPhase .resetWait).bothSides
    fun s sd => s.cutSale sd .reset).bothSides fun s sd => s.downlinkResult sd .reset).motorsReset).bothSides
      State.gateReset).displaysReset

/-- The part a host reset has stopped (R155), before the journal's reset snapshot. -/
def State.resetDone (s : State) (folios : List Folio) : State :=
  let v := s.resetStopped.resetFolios folios
  ({ v with
    sides := v.sides.map SideCtl.hostReset
    pfe := { v.pfe with channels := v.pfe.channels.map (PerProduct.map Channel.hostReset)
                        stray := Both.same ⟨0, false⟩ }
    journal := { v.journal with calWait := .idle, initWait := .idle, closeWait := .idle } }).postStatus

theorem hostReset_of_writing {w : Write} (hr : s.exch.ready = true) (hm : s.mode.mode ≠ .holdup)
    (hd : ∀ l, (s.resetDone l).journal.inFlight = some w) : ∃ l, s.hostReset = s.resetDone l := by
  refine ⟨List.finRange 27, ?_⟩
  unfold State.hostReset
  rw [if_pos ⟨hr, hm⟩]
  generalize List.finRange 27 = l
  dsimp only
  split
  case h_1 => rfl
  case h_2 hno => exact absurd ((hd l).symm.trans hno) (Option.some_ne_none w)

theorem resetStopped_facts (s : State) : s.resetStopped.now = s.now ∧ s.resetStopped.mode = { s.mode.noStage with
      mode := .cold, stage := none, outcome := Outcome.clear, warning := s.pins.warning } ∧
    s.resetStopped.exch.ready = false ∧ s.resetStopped.pins = s.pins ∧
    (∀ sd, (s.resetStopped.side sd).state = .idle ∧ (s.resetStopped.side sd).sale = none ∧
      (s.resetStopped.side sd).nozzles = (s.side sd).nozzles ∧
      ∀ p, (s.resetStopped.side sd).valves.get p = ⟨false, false⟩) ∧
    (∀ p, (s.resetStopped.motor p).state = .stopped ∧ (s.resetStopped.motor p).contactor = false ∧
      (s.resetStopped.motor p).lastStop = s.now) ∧
    (∀ sd, s.resetStopped.gate sd = (s.gate sd).answered.hostReset) ∧
    s.resetStopped.journal.steady = { s.journal.steady with phase := .resetWait } := by
  generalize hu : (({ s with exch := { s.exch with ready := false } } : State).modeReset.toPhase .resetWait) = u
  have hmode : u.mode = { s.mode.noStage with
      mode := .cold, stage := none, outcome := Outcome.clear, warning := s.pins.warning } := by
    rw [← hu]; exact modeReset_reset _
  have hsides : ∀ sd, u.side sd = s.side sd := fun sd => by simp [← hu, State.toPhase, State.side]
  have hgates : ∀ sd, u.gate sd = s.gate sd := fun sd => by simp [← hu, State.toPhase, State.gate]
  have hj : u.journal = { s.journal with phase := .resetWait } := by simp [← hu, State.toPhase]
  have hnow : u.now = s.now := by simp [← hu, State.toPhase]
  have hready : u.exch.ready = false := by simp [← hu, State.toPhase]
  have hpins : u.pins = s.pins := by simp [← hu, State.toPhase]
  obtain ⟨-, hcmode, hcgates, hcsides⟩ := bothCut u .reset
  have hcj := bothCut_steady (s := u) (r := .reset) (by simp [hj])
  have hcnow : (u.bothSides fun s sd => s.cutSale sd .reset).now = u.now := by simp [State.bothSides]
  have hcready : (u.bothSides fun s sd => s.cutSale sd .reset).exch.ready = u.exch.ready := by simp [State.bothSides]
  have hcpins : (u.bothSides fun s sd => s.cutSale sd .reset).pins = u.pins := by simp [State.bothSides]
  have hstop : s.resetStopped = ((((u.bothSides fun s sd => s.cutSale sd .reset).bothSides
      fun s sd => s.downlinkResult sd .reset).motorsReset).bothSides State.gateReset).displaysReset := by
    rw [← hu]; rfl
  generalize (u.bothSides fun s sd => s.cutSale sd .reset) = c at *
  have hgate : ∀ sd, s.resetStopped.gate sd = (s.gate sd).answered.hostReset := fun sd => by
    have hdisplays : ∀ v : State, v.displaysReset.gate sd = v.gate sd := fun _ => rfl
    have hmotors : ∀ v : State, v.motorsReset.gate sd = v.gate sd := fun _ => rfl
    have hc : c.gate sd = s.gate sd := (congrArg (Both.get · sd) hcgates).trans (hgates sd)
    rw [hstop, hdisplays, bothGateReset_gate, hmotors, bothResults_gate, hc]
  refine ⟨?_, ?_, ?_, ?_, fun sd => ?_, fun p => ?_, hgate, ?_⟩
  · simp [hstop, State.bothSides, State.displaysReset, State.motorsReset, hcnow, hnow]
  · simp [hstop, State.bothSides, State.displaysReset, State.motorsReset, hcmode, hmode]
  · simp [hstop, State.bothSides, State.displaysReset, State.motorsReset, hcready, hready]
  · simp [hstop, State.bothSides, State.displaysReset, State.motorsReset, hcpins, hpins]
  · have hside : s.resetStopped.side sd = c.side sd := by
      simp [hstop, State.bothSides, State.displaysReset, State.motorsReset, State.side]
    rw [hside, ← hsides sd]
    exact hcsides sd
  · have hmotors : s.resetStopped.motors = (c.bothSides fun s sd => s.downlinkResult sd .reset).motorsReset.motors := by
      simp [hstop, State.bothSides, State.displaysReset]
    rw [State.motor, hmotors]
    have hget : (c.bothSides fun s sd => s.downlinkResult sd .reset).motorsReset.motors.motor.get p =
        (c.bothSides fun s sd => s.downlinkResult sd .reset).motorAtReset := PerProduct.get_same _ _
    rw [hget]
    exact ⟨rfl, rfl, by simp [State.motorAtReset, State.bothSides, hcnow, hnow]⟩
  · have hjournal : s.resetStopped.journal = c.journal := by
      simp [hstop, State.bothSides, State.displaysReset, State.motorsReset]
    rw [hjournal, hcj, hj]
    rfl

end Sys2Proof.Machine

open Sys2Proof Sys2Proof.Machine

/-- Settles O51: a host reset with a write in flight stops every block, and waits for the write. -/
theorem hostResetStopsThePart : Obligations.HostResetStopsThePart := by
  unfold Obligations.HostResetStopsThePart
  refine fun dt s => ⟨fun w hr hm hw => ?_, fun h => ?_⟩
  · obtain ⟨hnow, hmode, hready, hpins, hsides, hmotors, hgates, hj⟩ := resetStopped_facts (s.elapse dt)
    have hdone : ∀ l, ((s.elapse dt).resetDone l).journal.steady =
        { (s.elapse dt).resetStopped.journal.steady with calWait := .idle, initWait := .idle, closeWait := .idle } := fun l => by
      simp [State.resetDone, Journal.steady]
    simp only [hj] at hdone
    have hflight : ∀ l, ((s.elapse dt).resetDone l).journal.inFlight = some w := fun l => by
      have h := congrArg Journal.inFlight (hdone l)
      exact h.trans hw
    obtain ⟨l, hl⟩ := hostReset_of_writing (s := s.elapse dt) hr hm hflight
    have hexec : exec (.hostReset dt) s = .next ((s.elapse dt).resetDone l) := congrArg Host.Outcome.next hl
    have hdmode : ((s.elapse dt).resetDone l).mode = (s.elapse dt).resetStopped.mode := by simp [State.resetDone]
    have hdgates : ((s.elapse dt).resetDone l).gates = (s.elapse dt).resetStopped.gates := by simp [State.resetDone]
    have hdmotors : ((s.elapse dt).resetDone l).motors = (s.elapse dt).resetStopped.motors := by simp [State.resetDone]
    have hdnow : ((s.elapse dt).resetDone l).now = s.now + dt := by simp [State.resetDone, hnow]
    have hdside : ∀ sd, ((s.elapse dt).resetDone l).side sd = ((s.elapse dt).resetStopped.side sd).hostReset :=
      fun sd => by cases sd <;> simp [State.resetDone, State.side, Both.map, Both.get]
    rw [hmode] at hdmode
    refine ⟨_, hexec, hdnow, by rw [hdmode], by rw [hdmode], by rw [hdmode]; rfl, by simp [State.resetDone, hready],
      by simp [State.resetDone, hpins], fun sd => ?_, fun p => ?_, fun sd => ?_, hflight l,
      congrArg Journal.phase (hdone l)⟩
    · rw [hdside]; exact hsides sd
    · rw [State.motor, hdmotors, hdnow]; exact hmotors p
    · rw [State.gate, hdgates]
      have hg := hgates sd
      rw [State.gate] at hg
      rw [hg]
      exact gate_hostReset _
  · refine congrArg Host.Outcome.next (if_neg fun hno => ?_)
    rcases h with h | h
    · exact Bool.noConfusion (hno.1.symm.trans h)
    · exact hno.2 h
end


/-! ### Recovery -/
section
namespace Sys2Proof.Machine

variable {s t u : State} {sd : Side} {dt : Nat} {b : Bool}

/-! #### READY becomes 1 -/

/-- READY is 1 and the inputs have been read afresh (R153, R154), before the mode changes. -/
def State.readAfresh (s : State) : State :=
  let place := fun m (c : Channel) =>
    { c with posA := PerMeter.get s.pins.phaseA m, posB := PerMeter.get s.pins.phaseB m, acc := 0,
             edgeA := none, edgeB := none }
  let ch := fun m => place m (s.chan m)
  { s with
    exch := { s.exch with ready := true }
    prices := { s.prices with swapDue := s.prices.dueAtEnd }
    pfe := { s.pfe with channels :=
      ⟨⟨ch ⟨.a, .low⟩, ch ⟨.a, .high⟩, ch ⟨.a, .aux⟩⟩, ⟨ch ⟨.b, .low⟩, ch ⟨.b, .high⟩, ch ⟨.b, .aux⟩⟩⟩ }
    sides := ⟨{ s.sides.a with nozzles := s.pins.nozzles.a }, { s.sides.b with nozzles := s.pins.nozzles.b }⟩
    journal := { s.journal with switchClosed := s.pins.metrologyClosed }
    gates := ⟨{ s.gates.a with tamper := s.pins.tamperOpen.a }, { s.gates.b with tamper := s.pins.tamperOpen.b }⟩ }

/-- A tamper input found open trips its gate (R122, R153). -/
def State.tamperAfresh (s : State) (sd : Side) : State := if (s.gate sd).tamper then s.gateTamper sd 0 else s

/-- The mode has left COLD for CLOSED, and the tamper inputs have been taken (R153). -/
def State.closedAfresh (s : State) : State :=
  (s.readAfresh.changeMode .closed none (.modeCause .recovery)).bothSides State.tamperAfresh

/-- The swap tested, the posted folios fresh and the records on their way (R31, R136, R182). -/
def State.leftCold (s : State) : State :=
  ((((s.closedAfresh.swapTest.postPriceView.setFresh Folio.totals).reportFlow .a).reportFlow .b)).postStatus

theorem leaveCold_eq (s : State) :
    s.leaveCold = if s.leftCold.mode.clockUnset then s.leftCold else s.leftCold.openNowTest := rfl

@[simp] theorem tamperAfresh_frame (s : State) (sd : Side) :
    (s.tamperAfresh sd).now = s.now ∧ (s.tamperAfresh sd).prices = s.prices ∧ (s.tamperAfresh sd).motors = s.motors ∧
      (s.tamperAfresh sd).store = s.store ∧ (s.tamperAfresh sd).journal = s.journal ∧
      (s.tamperAfresh sd).mode = s.mode ∧ (s.tamperAfresh sd).exch.mem = s.exch.mem ∧
      (s.tamperAfresh sd).exch.config = s.exch.config ∧ (s.tamperAfresh sd).exch.mask = s.exch.mask ∧
      (s.tamperAfresh sd).exch.ready = s.exch.ready ∧ (s.tamperAfresh sd).pins = s.pins ∧
      (s.tamperAfresh sd).sides = s.sides := by
  unfold State.tamperAfresh
  split <;> simp

theorem closedAfresh_facts (s : State) :
    s.closedAfresh.now = s.now ∧ s.closedAfresh.prices = { s.prices with swapDue := s.prices.dueAtEnd } ∧
      s.closedAfresh.motors = s.motors ∧ s.closedAfresh.store = s.store ∧
      s.closedAfresh.journal = { s.journal with switchClosed := s.pins.metrologyClosed } ∧
      s.closedAfresh.mode = { s.mode with mode := .closed, stage := none } ∧
      s.closedAfresh.exch.mem = s.exch.mem ∧ s.closedAfresh.exch.config = s.exch.config ∧
      s.closedAfresh.exch.mask = s.exch.mask ∧ s.closedAfresh.exch.ready = true ∧ s.closedAfresh.pins = s.pins ∧
      ∀ sd, s.closedAfresh.side sd = { s.side sd with nozzles := s.pins.nozzles.get sd } := by
  have hsides : s.closedAfresh.sides = s.readAfresh.sides := by simp [State.closedAfresh, State.bothSides]
  refine ⟨?_, ?_, ?_, ?_, ?_, ?_, ?_, ?_, ?_, ?_, ?_, fun sd => by rw [State.side, hsides]; cases sd <;> rfl⟩
  all_goals simp [State.closedAfresh, State.bothSides, State.readAfresh, State.changeMode_mode]

/-- A display's state stands through a source change (R73). -/
theorem recompose_disp_state (s : State) (sd x : Side) : ((s.recompose sd).disp x).state = (s.disp x).state := by
  obtain ⟨hself, hother⟩ := recompose_disp s sd
  rcases eq_or_ne x sd with rfl | hne
  · rw [hself]
  · have hx : x = sd.other := by cases x <;> cases sd <;> simp_all [Side.other]
    rw [hx, hother]

theorem tamperAfresh_disp (s : State) (sd x : Side) : ((s.tamperAfresh sd).disp x).state = (s.disp x).state := by
  have hchange : ∀ g c, ((s.gateChange sd g c).disp x).state = (s.disp x).state := fun g c => by
    unfold State.gateChange
    dsimp only
    rw [recompose_disp_state]
    split <;> simp [State.disp]
  unfold State.tamperAfresh State.gateTamper
  dsimp only
  split
  · split
    · simp [State.disp]
    · rw [← hchange]
      simp only [State.disp, (State.raise_frame _ _ _ _ _).2.2.2.2.2.1]
      rfl
  · rfl

theorem closedAfresh_disp (s : State) (x : Side) : (s.closedAfresh.disp x).state = (s.disp x).state := by
  unfold State.closedAfresh State.bothSides
  rw [tamperAfresh_disp, tamperAfresh_disp]
  unfold State.changeMode State.recomposeBoth
  dsimp only
  have hpost : ∀ v : State, v.postStatus.disp x = v.disp x := fun v => by simp [State.disp]
  rw [hpost, recompose_disp_state, recompose_disp_state]
  simp [State.disp, State.clearNight, State.readAfresh]

/-- A side with no recorded record has nothing for its REPORT folio (R136). -/
theorem reportFlow_of_empty (hin : (s.records sd).inFolio = none) (hun : (s.records sd).unreported = []) :
    s.reportFlow sd = s := by
  unfold State.reportFlow
  dsimp only
  have hand : ∀ v : State, (v.records sd).inFolio = none → v.reportHandOver sd = v := fun v h => by
    simp [State.reportHandOver, h]
  rw [hin, hun]
  exact hand s hin

/-! #### Recovery with no VALID slot -/

/-- Every block has taken its defaults (R154), before READY becomes 1. -/
def State.emptied (s : State) (fromReset : Bool) : State :=
  let s := s.bothSides State.gateEmpty
  let s := { s with
    pfe := ⟨PerMeter.same Channel.reset, Both.same ⟨0, false⟩, s.pfe.nightFlag⟩
    prices := PriceTable.reset
    store := SaleStore.reset
    journal := { Journal.reset with slots := s.journal.slots, switchClosed := s.journal.switchClosed }
    mode := { s.mode with
      schedule := Schedule.closed
      clock := if fromReset then s.mode.clock else ⟨0, 0⟩
      clockUnset := if fromReset then s.mode.clockUnset else true }
    exch := { s.exch with config := Settings.default } }
  let s := { s with exch := { s.exch with
    totalsView := some { totals := Totals.zero, slot := none, seq := 0, counter := s.store.counter,
                         watches := watchView s.store.watches } } }
  (s.recoverMotors fromReset).bump Folio.totals

theorem recoverEmpty_eq (s : State) (fromReset : Bool) : s.recoverEmpty fromReset = (s.emptied fromReset).leaveCold :=
  rfl

theorem gateEmpty_disp (s : State) (sd x : Side) : ((s.gateEmpty sd).disp x).state = (s.disp x).state := by
  unfold State.gateEmpty State.gateToReset
  split
  · rfl
  · unfold State.gateChange
    dsimp only
    rw [recompose_disp_state]
    split <;> simp [State.disp]

theorem emptied_facts (s : State) :
    (s.emptied false).now = s.now ∧ (s.emptied false).prices = PriceTable.reset ∧
      (s.emptied false).store = SaleStore.reset ∧
      (s.emptied false).journal =
        { Journal.reset with slots := s.journal.slots, switchClosed := s.journal.switchClosed } ∧
      (s.emptied false).mode =
        { s.mode with schedule := Schedule.closed, clock := ⟨0, 0⟩, clockUnset := true } ∧
      (s.emptied false).exch.mem = s.exch.mem ∧ (s.emptied false).exch.config = Settings.default ∧
      (s.emptied false).exch.mask = s.exch.mask ∧ (s.emptied false).pins = s.pins ∧
      (s.emptied false).sides = s.sides ∧
      (∀ p, (s.emptied false).motor p = { Motor.reset with
        lastStop := s.now, restUntil := s.now + seconds 10 }) ∧
      ∀ sd, ((s.emptied false).disp sd).state = (s.disp sd).state := by
  refine ⟨?_, ?_, ?_, ?_, ?_, ?_, ?_, ?_, ?_, ?_, fun p => ?_, fun sd => ?_⟩
  rotate_left 10
  · cases p <;> simp [State.emptied, State.bothSides, State.motor, State.recoverMotors, State.motorsReset,
      State.motorAtReset, PerProduct.same, PerProduct.get, State.cfg, Settings.default]
  · have hd : ((s.emptied false).disp sd).state = ((s.bothSides State.gateEmpty).disp sd).state := by
      simp [State.emptied, State.disp]
    rw [hd, State.bothSides, gateEmpty_disp, gateEmpty_disp]
  all_goals simp [State.emptied, State.bothSides]

/-- A cold start that finds no VALID slot: the part is CLOSED and READY, at its defaults (R154). -/
theorem recoverEmpty_cold (s : State) (pins : Pins) (slots : Vector Slot 16) (scratch : Memory) :
    let t := (s.coldState pins slots scratch).recoverEmpty false
    t.now = s.now ∧ t.pins = pins ∧ t.mode.mode = .closed ∧ t.mode.stage = none ∧ t.mode.clockUnset = true ∧
      t.exch.ready = true ∧ t.exch.config = Settings.default ∧ t.exch.mask = 0 ∧ t.exch.mem = scratch ∧
      t.store = SaleStore.reset ∧ t.prices = PriceTable.reset ∧ t.journal.slots = slots ∧ t.journal.empty = true ∧
      (∀ sd, (t.side sd).state = .idle ∧ (t.side sd).nozzles = pins.nozzles.get sd ∧ (t.disp sd).state = .dark) ∧
      (∀ p, t.motor p = { Motor.reset with lastStop := t.now, restUntil := t.now + seconds 10 }) := by
  generalize hc : s.coldState pins slots scratch = c
  obtain ⟨hnow, hprices, hstore, hjournal, hmode, hmem, hconfig, hmask, hpins, hsides, hmotor, hdisp⟩ := emptied_facts c
  rw [recoverEmpty_eq]
  generalize c.emptied false = e at *
  obtain ⟨hnow', hprices', hmotors', hstore', hjournal', hmode', hmem', hconfig', hmask', hready', hpins', hsides'⟩ :=
    closedAfresh_facts e
  have hdisp' := closedAfresh_disp e
  have hleft : e.leftCold = (e.closedAfresh.postPriceView.setFresh Folio.totals).postStatus := by
    have hswap : e.closedAfresh.swapTest = e.closedAfresh :=
      swapTest_of_not_due (by rw [hprices', hprices]; rfl)
    have hrec : ∀ sd, (e.closedAfresh.postPriceView.setFresh Folio.totals).records sd = ⟨[], [], none⟩ := fun sd => by
      simp only [State.records, State.setFresh_frame, State.postPriceView_frame, hstore', hstore]
      cases sd <;> rfl
    unfold State.leftCold
    rw [hswap, reportFlow_of_empty (sd := .a) (by rw [hrec]) (by rw [hrec]),
      reportFlow_of_empty (sd := .b) (by rw [hrec]) (by rw [hrec])]
  have hunset : e.leftCold.mode.clockUnset = true := by rw [hleft]; simp [hmode', hmode]
  rw [leaveCold_eq, if_pos hunset, hleft]
  generalize e.closedAfresh = v at *
  subst hc
  refine ⟨?_, ?_, ?_, ?_, ?_, ?_, ?_, ?_, ?_, ?_, ?_, ?_, ?_, fun sd => ?_, fun p => ?_⟩
  · simp [hnow', hnow, State.coldState]
  · simp [hpins', hpins, State.coldState]
  · simp [hmode']
  · simp [hmode']
  · simp [hmode', hmode]
  · simp [hready']
  · simp [hconfig', hconfig]
  · simp [hmask', hmask, State.coldState, Exchange.reset]
  · simp [hmem', hmem, State.coldState]
  · simp [hstore', hstore]
  · simp [hprices', hprices]; rfl
  · simp [hjournal', hjournal, State.coldState]
  · simp [hjournal', hjournal, Journal.reset]
  · have hside : (v.postPriceView.setFresh Folio.totals).postStatus.side sd = v.side sd := by simp [State.side]
    have hshow : (v.postPriceView.setFresh Folio.totals).postStatus.disp sd = v.disp sd := by simp [State.disp]
    have hreset : e.side sd = SideCtl.reset := by rw [State.side, hsides]; cases sd <;> rfl
    have hdark : ((s.coldState pins slots scratch).disp sd).state = .dark := by cases sd <;> rfl
    rw [hside, hshow, hsides', hdisp', hdisp, hreset, hpins]
    exact ⟨rfl, rfl, hdark⟩
  · have hm := hmotor p
    simp [State.motor, hmotors', hnow', hnow, State.coldState] at hm ⊢
    exact hm

/-! #### Recovery from a slot -/

theorem takeRecord_counter (s : State) (r : SaleRecord) : (s.takeRecord r).store.counter = s.store.counter :=
  (State.requestSnapshot_store _).2.1.trans (State.countRecord_records _ r).2

theorem loseSale_counter (s : State) (snap : Snapshot) (sd : Side) :
    (s.loseSale snap sd).store.counter = s.store.counter := by
  unfold State.loseSale
  split
  · exact takeRecord_counter _ _
  · rfl

theorem loseSale_steady (snap : Snapshot) (h : s.journal.phase ≠ .normal) :
    (s.loseSale snap sd).journal.steady = s.journal.steady := by
  unfold State.loseSale
  split
  · exact takeRecord_steady _ h
  · rfl

/-- The owners' items and the journal's own as recovery restores them (R152, R153). -/
def State.restored (s : State) (found : Found) (fromReset : Bool) : State :=
  let (i, seq, snap) := found
  let passed := passedOver s.journal.slots 15 i
  let s := (s.restore snap fromReset).raisePassed passed
  { s with journal := { s.journal with
    newest := some i, seq := succ32 seq, next := nextAfterRecovery i passed, inFlight := none, request := false
    empty := false, master := snap.master, metrology := snap.metrology, periodicT := none, periodicSum := 0
    phase := .fresh, calWait := .idle, initWait := .idle, closeWait := .idle } }

/-- The sale numbers of a recovery: its own slot's and those of the slots passed over are skipped (R145). -/
def State.skipNumbers (s : State) (k : Nat) (fromReset : Bool) : State :=
  if fromReset then s else { s with store := { s.store with counter := advance32 (16 * (1 + k)) s.store.counter } }

theorem recoverFrom_eq (s : State) (i : Fin 16) (seq : Nat) (snap : Snapshot) (b : Bool) :
    s.recoverFrom (i, seq, snap) b =
      ((((((((s.restored (i, seq, snap) b).loseSale snap .a).loseSale snap .b).skipNumbers
        (passedOver s.journal.slots 15 i).length b).reportFlow .a).reportFlow .b).updateTotals i seq
          snap).updatePriceView.rewriteStatus).beginWrite := rfl

@[simp] theorem State.skipNumbers_frame (s : State) (k : Nat) (b : Bool) :
    (s.skipNumbers k b).prices = s.prices ∧ (s.skipNumbers k b).gates = s.gates ∧
      (s.skipNumbers k b).journal = s.journal ∧ (s.skipNumbers k b).mode = s.mode ∧
      (s.skipNumbers k b).exch = s.exch := by
  unfold State.skipNumbers
  split <;> exact ⟨rfl, rfl, rfl, rfl, rfl⟩

theorem skipNumbers_counter (s : State) (k : Nat) (b : Bool) : (s.skipNumbers k b).store.counter =
    if b then s.store.counter else advance32 (16 * (1 + k)) s.store.counter := by
  unfold State.skipNumbers
  split <;> rfl

theorem restore_facts (s : State) (snap : Snapshot) (b : Bool) :
    (s.restore snap b).prices = {
        grades := snap.grades, maps := snap.maps, active := snap.active, staged := snap.staged, swapDue := false } ∧
      (s.restore snap b).store.counter = snap.counter ∧ (s.restore snap b).exch.config = snap.config ∧
      (s.restore snap b).mode = { s.mode with
        schedule := snap.schedule,
        clock := if b then s.mode.clock else snap.clock,
        clockUnset := if b then s.mode.clockUnset else true } ∧
      ∀ sd, ((s.restore snap b).gate sd).state = if (snap.trips.get sd).isSome then .tripped else .off := by
  refine ⟨by simp [State.restore], by simp [State.restore], by simp [State.restore], by simp [State.restore],
    fun sd => ?_⟩
  rw [State.gate, State.restore, (State.recoverMotors_frame _ _).2.2.2.2.2.1]
  cases sd <;> rfl

/-- A recovery from a slot: what it holds, and the fresh snapshot's write in flight (R152, R153). -/
theorem recoverFrom_facts (s : State) (i : Fin 16) (seq : Nat) (snap : Snapshot) (b : Bool) :
    (s.recoverFrom (i, seq, snap) b).exch.config = snap.config ∧
      (s.recoverFrom (i, seq, snap) b).prices = {
        grades := snap.grades, maps := snap.maps, active := snap.active, staged := snap.staged, swapDue := false } ∧
      (s.recoverFrom (i, seq, snap) b).mode = { s.mode with
        schedule := snap.schedule,
        clock := if b then s.mode.clock else snap.clock,
        clockUnset := if b then s.mode.clockUnset else true } ∧
      (s.recoverFrom (i, seq, snap) b).store.counter = (if b then snap.counter else
        advance32 (16 * (1 + (passedOver s.journal.slots 15 i).length)) snap.counter) ∧
      (∃ w, (s.recoverFrom (i, seq, snap) b).journal.inFlight = some w ∧ w.seq = succ32 seq) ∧
      (s.recoverFrom (i, seq, snap) b).journal.slots = s.journal.slots ∧
      (s.recoverFrom (i, seq, snap) b).journal.master = snap.master ∧
      (s.recoverFrom (i, seq, snap) b).journal.newest = some i ∧
      (s.recoverFrom (i, seq, snap) b).journal.phase = .fresh ∧
      ∀ sd, ((s.recoverFrom (i, seq, snap) b).gate sd).state =
        if (snap.trips.get sd).isSome then .tripped else .off := by
  obtain ⟨hprices, hcounter, hconfig, hmode, hgates⟩ := restore_facts s snap b
  have hslots : (s.restore snap b).journal.slots = s.journal.slots := by simp
  rw [recoverFrom_eq]
  generalize (passedOver s.journal.slots 15 i).length = k
  have hr : (s.restored (i, seq, snap) b).prices = (s.restore snap b).prices ∧
      (s.restored (i, seq, snap) b).store = (s.restore snap b).store ∧
      (s.restored (i, seq, snap) b).exch.config = (s.restore snap b).exch.config ∧
      (s.restored (i, seq, snap) b).mode = (s.restore snap b).mode ∧
      (s.restored (i, seq, snap) b).gates = (s.restore snap b).gates := by
    simp [State.restored]
  have hrj : (s.restored (i, seq, snap) b).journal.slots = s.journal.slots ∧
      (s.restored (i, seq, snap) b).journal.master = snap.master ∧
      (s.restored (i, seq, snap) b).journal.newest = some i ∧ (s.restored (i, seq, snap) b).journal.seq = succ32 seq ∧
      (s.restored (i, seq, snap) b).journal.phase = .fresh := by
    refine ⟨?_, rfl, rfl, rfl, rfl⟩
    simp [State.restored]
  generalize s.restored (i, seq, snap) b = r at *
  generalize s.restore snap b = v at *
  have hsteady : ((r.loseSale snap .a).loseSale snap .b).journal.steady = r.journal.steady := by
    have ha := loseSale_steady (sd := .a) snap (s := r) (by rw [hrj.2.2.2.2]; decide)
    have hp := congrArg Journal.phase ha
    refine (loseSale_steady (sd := .b) snap ?_).trans ha
    rw [show (r.loseSale snap .a).journal.phase = r.journal.phase from hp, hrj.2.2.2.2]
    decide
  have hlc : ((r.loseSale snap .a).loseSale snap .b).store.counter = snap.counter := by
    rw [loseSale_counter, loseSale_counter, hr.2.1, hcounter]
  have hl : ((r.loseSale snap .a).loseSale snap .b).prices = v.prices ∧
      ((r.loseSale snap .a).loseSale snap .b).exch.config = v.exch.config ∧
      ((r.loseSale snap .a).loseSale snap .b).mode = v.mode ∧
      ((r.loseSale snap .a).loseSale snap .b).gates = v.gates := by
    simp [hr]
  generalize (r.loseSale snap .a).loseSale snap .b = l at *
  have hj : ((((l.skipNumbers k b).reportFlow .a).reportFlow .b).updateTotals i seq
      snap).updatePriceView.rewriteStatus.journal = l.journal := by simp
  refine ⟨by simp [hl, hconfig], by simp [hl, hprices], by simp [hl, hmode], ?_, ⟨_, rfl, ?_⟩, ?_, ?_, ?_, ?_,
    fun sd => ?_⟩
  · rw [State.beginWrite_store]
    simp only [State.rewriteStatus_frame, State.updatePriceView_frame, State.updateTotals_frame]
    rw [(reportFlow_store _ _).2, (reportFlow_store _ _).2, skipNumbers_counter, hlc]
  · exact (congrArg Journal.seq hj).trans ((congrArg Journal.seq hsteady).trans hrj.2.2.2.1)
  · exact (congrArg Journal.slots hj).trans ((congrArg Journal.slots hsteady).trans hrj.1)
  · exact (congrArg Journal.master hj).trans ((congrArg Journal.master hsteady).trans hrj.2.1)
  · exact (congrArg Journal.newest hj).trans ((congrArg Journal.newest hsteady).trans hrj.2.2.1)
  · exact (congrArg Journal.phase hj).trans ((congrArg Journal.phase hsteady).trans hrj.2.2.2.2)
  · rw [← hgates sd]
    simp [State.gate, hl]

end Sys2Proof.Machine
end


/-! ### The power-fail warning -/
section
namespace Sys2Proof.Machine

variable {s t u : State} {sd : Side} {dt : Nat} {r : EndReason}

/-- A sale cut short leaves the recorded records of both sides (R134). -/
theorem cutSale_recorded (s : State) (sd x : Side) (r : EndReason) :
    ((s.cutSale sd r).records x).inFolio = (s.records x).inFolio ∧
      ((s.cutSale sd r).records x).unreported = (s.records x).unreported := by
  have hput : ∀ (u : State) y, (u.putSide sd y).records x = u.records x := fun u y => by simp [State.records]
  have htake : ∀ (u : State) q, u.records x = s.records x → ((u.takeRecord q).records x).inFolio =
      (s.records x).inFolio ∧ ((u.takeRecord q).records x).unreported = (s.records x).unreported := fun u q h => by
    rw [(u.takeRecord_records q x).2.1, (u.takeRecord_records q x).2.2, h]
    exact ⟨rfl, rfl⟩
  unfold State.cutSale
  dsimp only
  rw [hput]
  split
  · unfold State.closeSale
    dsimp only
    cases (s.side sd).sale with
    | none => exact ⟨rfl, rfl⟩
    | some o =>
      have hdetach : (if o.cap.isSome then s.detachMeters sd else s).store = s.store := by split <;> simp
      dsimp only
      rw [if_neg Bool.false_ne_true, hput]
      exact htake _ _ (by simp [State.records, State.setSide, hdetach])
  · exact ⟨rfl, rfl⟩

/-- The mode has entered HOLDUP with READY 0, and every block has been told (R175). -/
def State.holdupNoticed (s : State) : State :=
  let s := (s.toPhase .finalWait).setMode { s.mode.noStage with warning := true, clearT := none, cleared := false }
  let s := { s with exch := { s.exch with ready := false } }
  (s.changeMode .holdup none (.modeCause .warning)).raise .powerWarning 0 .unstated .unstated

/-- The part the warning has stopped (R72, R88, R106, R125), before the journal takes it. -/
def State.holdupStopped (s : State) : State :=
  let s := s.holdupNoticed.bothSides fun s sd => s.cutSale sd .powerLost
  let s := ((s.motorsHoldup.gateClaim .a).gateClaim .b).displaysHoldup
  ({ s with journal := { s.journal with periodicT := none, periodicSum := 0, closeWait := .idle } }).postStatus

theorem enterHoldup_eq (s : State) : s.enterHoldup = s.holdupStopped.journalWarning s.journal.phase := by
  unfold State.enterHoldup State.holdupStopped State.holdupNoticed
  rfl

theorem holdupNoticed_facts (s : State) :
    s.holdupNoticed.now = s.now ∧ s.holdupNoticed.mode = { s.mode.noStage with
        mode := .holdup, stage := none, warning := true, clearT := none, cleared := false } ∧
      s.holdupNoticed.exch.ready = false ∧ s.holdupNoticed.exch.mem = s.exch.mem ∧ s.holdupNoticed.pins = s.pins ∧
      s.holdupNoticed.sides = s.sides ∧ s.holdupNoticed.store = s.store ∧
      s.holdupNoticed.journal = { s.journal with phase := .finalWait } := by
  simp [State.holdupNoticed, State.changeMode_mode, State.toPhase, State.setMode]

theorem heldUp_motor (s : State) (p : Product) : (s.motorsHoldup.motor p).state = .stopped ∧
    (s.motorsHoldup.motor p).contactor = false ∧ (s.motorsHoldup.motor p).users = Users.none := by
  have hm : s.motorsHoldup.motor p = s.heldUp (s.motor p) := by cases p <;> rfl
  rw [hm]
  refine ⟨rfl, ?_, rfl⟩
  unfold State.heldUp
  dsimp only
  split
  case isTrue => rfl
  case isFalse hn => exact Bool.eq_false_iff.2 hn

theorem bothClaims_gate (s : State) (x : Side) : (((s.gateClaim .a).gateClaim .b).gate x).state ≠ .opened := by
  have hne : ∀ {g : GateState}, g = .off ∨ g = .tripped → g ≠ .opened := by rintro g (rfl | rfl) <;> decide
  cases x
  · have hother : ((s.gateClaim .a).gateClaim .b).gate .a = (s.gateClaim .a).gate .a :=
      (gateClaim_gate (s.gateClaim .a) .b).2
    rw [hother]
    exact hne (gateClaim_gate s .a).1
  · exact hne (gateClaim_gate (s.gateClaim .a) .b).1

/-- What the warning stops. -/
theorem holdupStopped_facts (s : State) :
    s.holdupStopped.now = s.now ∧ s.holdupStopped.mode = { s.mode.noStage with
        mode := .holdup, stage := none, warning := true, clearT := none, cleared := false } ∧
      s.holdupStopped.exch.ready = false ∧ s.holdupStopped.exch.mem = s.exch.mem ∧ s.holdupStopped.pins = s.pins ∧
      (∀ sd, (s.holdupStopped.side sd).state = .idle ∧ (s.holdupStopped.side sd).sale = none ∧
        ∀ p, (s.holdupStopped.side sd).valves.get p = ⟨false, false⟩) ∧
      (∀ p, (s.holdupStopped.motor p).state = .stopped ∧ (s.holdupStopped.motor p).contactor = false ∧
        (s.holdupStopped.motor p).users = Users.none) ∧ s.holdupStopped.motors.fifo = [] ∧
      s.holdupStopped.display.supply = false ∧ s.holdupStopped.display.heater = false ∧
      (∀ sd, (s.holdupStopped.disp sd).state = .dark ∧ (s.holdupStopped.gate sd).state ≠ .opened) ∧
      s.holdupStopped.journal.steady =
        { s.journal.steady with phase := .finalWait, periodicSum := 0, closeWait := .idle } ∧
      ∀ sd, (s.holdupStopped.records sd).inFolio = (s.records sd).inFolio ∧
        (s.holdupStopped.records sd).unreported = (s.records sd).unreported := by
  obtain ⟨hnow, hmode, hready, hmem, hpins, hsides, hstore, hj⟩ := holdupNoticed_facts s
  unfold State.holdupStopped
  generalize s.holdupNoticed = v at *
  obtain ⟨-, hcmode, -, hcsides⟩ := bothCut v .powerLost
  have hcj := bothCut_steady (s := v) (r := .powerLost) (by rw [hj]; exact JPhase.noConfusion)
  have hcnow : (v.bothSides fun s sd => s.cutSale sd .powerLost).now = v.now := by simp [State.bothSides]
  have hcready : (v.bothSides fun s sd => s.cutSale sd .powerLost).exch.ready = v.exch.ready := by
    simp [State.bothSides]
  have hcmem : (v.bothSides fun s sd => s.cutSale sd .powerLost).exch.mem = v.exch.mem := by simp [State.bothSides]
  have hcpins : (v.bothSides fun s sd => s.cutSale sd .powerLost).pins = v.pins := by simp [State.bothSides]
  have hcrec : ∀ x, ((v.bothSides fun s sd => s.cutSale sd .powerLost).records x).inFolio = (v.records x).inFolio ∧
      ((v.bothSides fun s sd => s.cutSale sd .powerLost).records x).unreported = (v.records x).unreported :=
    fun x => ⟨(cutSale_recorded _ .b x _).1.trans (cutSale_recorded v .a x _).1,
      (cutSale_recorded _ .b x _).2.trans (cutSale_recorded v .a x _).2⟩
  generalize (v.bothSides fun s sd => s.cutSale sd .powerLost) = c at *
  dsimp only
  refine ⟨?_, ?_, ?_, ?_, ?_, fun sd => ?_, fun p => ?_, ?_, ?_, ?_, fun sd => ⟨?_, ?_⟩, ?_, fun sd => ?_⟩
  · simp [hcnow, hnow]
  · simp [hcmode, hmode]
  · simp [hcready, hready]
  · simp [hcmem, hmem]
  · simp [hcpins, hpins]
  · obtain ⟨hstate, hsale, -, hvalves⟩ := hcsides sd
    rw [State.side]
    simp only [State.postStatus_frame, State.displaysHoldup_frame, State.gateClaim_frame, State.motorsHoldup_frame]
    exact ⟨hstate, hsale, hvalves⟩
  · rw [State.motor]
    simp only [State.postStatus_frame, State.displaysHoldup_frame, State.gateClaim_frame]
    exact heldUp_motor c p
  · simp [State.motorsHoldup]
  · simp [State.displaysHoldup]
  · simp [State.displaysHoldup]
  · cases sd <;> simp [State.displaysHoldup, State.disp, Both.map, Both.get, DispSide.holdup, DispSide.enterDark]
  · rw [State.gate]
    simp only [State.postStatus_frame, State.displaysHoldup_frame]
    exact bothClaims_gate _ sd
  · have hstopped : ∀ u : State, u.journal = c.journal → ({ u.journal with
        periodicT := none, periodicSum := 0, closeWait := .idle } : Journal).steady =
          { c.journal.steady with periodicSum := 0, closeWait := .idle } := fun u h => by rw [h]; rfl
    simp only [State.postStatus_frame]
    rw [hstopped _ (by simp), hcj, hj]
    rfl
  · rw [State.records]
    simp only [State.postStatus_frame, State.displaysHoldup_frame, State.gateClaim_frame, State.motorsHoldup_frame]
    obtain ⟨hin, hun⟩ := hcrec sd
    have hv : v.records sd = s.records sd := congrArg (fun q => q.records.get sd) hstore
    rw [hv] at hin hun
    exact ⟨hin, hun⟩

/-- The journal as the warning finds it, but for its phase (R151). -/
theorem holdupStopped_journal (s : State) :
    s.holdupStopped.journal.inFlight = s.journal.inFlight ∧ s.holdupStopped.journal.slots = s.journal.slots ∧
      s.holdupStopped.journal.next = s.journal.next ∧ s.holdupStopped.journal.seq = s.journal.seq ∧
      s.holdupStopped.journal.empty = s.journal.empty ∧ s.holdupStopped.journal.phase = .finalWait := by
  have hj := (holdupStopped_facts s).2.2.2.2.2.2.2.2.2.2.2.1
  have hflight := congrArg Journal.inFlight hj
  have hslots := congrArg Journal.slots hj
  have hnext := congrArg Journal.next hj
  have hseq := congrArg Journal.seq hj
  have hempty := congrArg Journal.empty hj
  have hphase := congrArg Journal.phase hj
  exact ⟨hflight, hslots, hnext, hseq, hempty, hphase⟩

/-- With a write in flight the journal waits for it (R151). -/
theorem journalWarning_of_writing (p : JPhase) (h : s.journal.inFlight.isSome = true) :
    ∃ q, s.journalWarning p = s.toPhase q := by
  have hstay : ∃ q, s = s.toPhase q := ⟨s.journal.phase, rfl⟩
  unfold State.journalWarning
  dsimp only
  split
  · rw [if_pos h]; exact hstay
  · split
    · exact ⟨_, rfl⟩
    · exact hstay
  · exact ⟨_, rfl⟩
  · exact ⟨_, rfl⟩
  · exact ⟨_, rfl⟩

theorem exec_powerWarning (h : s.mode.mode ≠ .holdup) :
    exec (.powerWarning dt) s = .next ((s.elapse dt).pinWarning true).enterHoldup := by
  show Host.Outcome.next (((s.elapse dt).pinWarning true).warningAsserted) = _
  unfold State.warningAsserted
  split
  case h_1 hm => exact absurd hm h
  case h_2 => rfl

theorem exec_powerWarning_of_holdup (h : s.mode.mode = .holdup) : exec (.powerWarning dt) s = .next
    { s.elapse dt with
      pins := { s.pins with warning := true }
      mode := { s.mode with warning := true, clearT := none, cleared := false } } := by
  show Host.Outcome.next (((s.elapse dt).pinWarning true).warningAsserted) = _
  unfold State.warningAsserted
  split
  case h_1 => rfl
  case h_2 hm => exact absurd h hm

theorem exec_warningInactive {u : State} (hu : (s.elapse dt).pinWarning false = u) :
    exec (.warningInputInactive dt) s = .next (if u.mode.mode = .holdup ∧ u.mode.warning then
      u.setMode { u.mode with warning := false, clearT := some (u.now + seconds 1) } else u) := by
  rw [← hu]
  rfl

theorem exec_warningCleared {d : Nat} (hm : s.mode.mode = .holdup) (hd : s.mode.clearT = some d)
    (hle : d ≤ s.now + dt) : exec (.warningCleared dt) s =
      .next ((s.elapse dt).setMode { s.mode with clearT := none, cleared := true }).holdupTest := by
  show Host.Outcome.next _ = _
  rw [if_pos]
  · rfl
  · simp only [Bool.and_eq_true, decide_eq_true_eq, Timer.due_iff]
    exact ⟨hm, d, hd, hle⟩

/-- What the final snapshot holds of a side (R146): its records as recorded in the write's slot. -/
theorem slotItems_of_final (hp : s.journal.phase = .finalWriting) (hsale : ∀ sd, (s.side sd).sale = none) (sd : Side) :
    s.slotItems.sales.get sd = none ∧ s.slotItems.pending.get sd = [] ∧
      s.slotItems.unreported.get sd = (s.records sd).inFolio.toList ++ (s.records sd).unreported ++
        (s.records sd).pending.map fun e => { e.record with slot := some s.journal.next } := by
  have hitems : s.slotItems = s.collect.recorded s.journal.next := if_pos hp
  have hmap : ∀ l : List PendingRec, (l.map (·.record)).map (fun r => { r with slot := some s.journal.next }) =
      l.map fun e => { e.record with slot := some s.journal.next } := fun l => by rw [List.map_map]; rfl
  rw [hitems]
  cases sd
  · exact ⟨by simp [Snapshot.recorded, State.collect, hsale, Both.get], rfl, congrArg (_ ++ ·) (hmap _)⟩
  · exact ⟨by simp [Snapshot.recorded, State.collect, hsale, Both.get], rfl, congrArg (_ ++ ·) (hmap _)⟩

end Sys2Proof.Machine

open Sys2Proof Sys2Proof.Machine

/-- Settles O52: the warning stops every block, the journal's final snapshot, and the cold start after 1 s inactive. -/
theorem warningBringsHoldup : Obligations.WarningBringsHoldup := by
  unfold Obligations.WarningBringsHoldup
  refine fun dt s => ⟨fun w hm hw => ?_, fun hm hp hno he => ?_, fun hm => ⟨exec_powerWarning_of_holdup hm, fun hon => ?_,
    fun d hd hle => ⟨fun hp => ?_, fun hp hnone => ?_⟩⟩, fun hm => ⟨?_, ?_⟩⟩
  · have hexec := exec_powerWarning (dt := dt) hm
    generalize hv : (s.elapse dt).pinWarning true = v at hexec
    rw [enterHoldup_eq] at hexec
    obtain ⟨hnow, hmode, hready, -, hpins, hsides, hmotors, hfifo, hsupply, hheater, hshow, -, -⟩ := holdupStopped_facts v
    have hflight : v.holdupStopped.journal.inFlight = some w :=
      (holdupStopped_journal v).1.trans (by rw [← hv]; exact hw)
    obtain ⟨q, hq⟩ := journalWarning_of_writing v.journal.phase (s := v.holdupStopped) (by rw [hflight]; rfl)
    rw [hq] at hexec
    refine ⟨_, hexec, hnow.trans (by rw [← hv]; rfl), congrArg ModeCtl.mode hmode, congrArg ModeCtl.stage hmode,
      congrArg ModeCtl.warning hmode, hready, hpins.trans (by rw [← hv]; rfl), hsides, hmotors, hfifo, hsupply, hheater,
      hshow, hflight⟩
  · have hexec := exec_powerWarning (dt := dt) hm
    generalize hv : (s.elapse dt).pinWarning true = v at hexec
    have hvj : v.journal = s.journal := by rw [← hv]; rfl
    rw [enterHoldup_eq, hvj, hp] at hexec
    obtain ⟨hnow, hmode, hready, -, -, hsides, -, -, -, -, -, -, hrec⟩ := holdupStopped_facts v
    obtain ⟨hflight, -, hnext, hseq, hempty, -⟩ := holdupStopped_journal v
    rw [hvj] at hflight hnext hseq hempty
    generalize v.holdupStopped = u at *
    have hfinal : u.journalWarning .normal = (u.toPhase .finalWriting).beginWrite := by
      simp [State.journalWarning, State.beginFinal, hflight, hno, hempty, he]
    rw [hfinal] at hexec
    refine ⟨_, _, hexec, hnow.trans (by rw [← hv]; rfl), congrArg ModeCtl.mode hmode, hready, rfl, rfl, hnext, hseq,
      fun sd => ⟨(hsides sd).2.1, ?_⟩⟩
    obtain ⟨hsales, hpend, hun⟩ := slotItems_of_final (s := u.toPhase .finalWriting) rfl (fun x => (hsides x).2.1) sd
    refine ⟨hsales, hpend, hun.trans ?_⟩
    have hvrec : v.records sd = s.records sd := by rw [← hv]; rfl
    have hmark : ((u.toPhase .finalWriting).beginWrite.records sd).pending =
        (u.records sd).pending.map fun e => { e with marked := true } :=
      congrArg Records.pending (beginWrite_records (u.toPhase .finalWriting) sd)
    rw [hmark, List.map_map, show (u.toPhase .finalWriting).records sd = u.records sd from rfl, (hrec sd).1, (hrec sd).2,
      hvrec, show (u.toPhase .finalWriting).journal.next = u.journal.next from rfl, hnext]
    rfl
  · rw [exec_warningInactive rfl, if_pos ⟨hm, hon⟩]
    rfl
  · rw [exec_warningCleared hm hd hle, State.holdupTest, if_neg fun h => hp h.2.2]
    rfl
  · generalize hv : (s.elapse dt).setMode { s.mode with clearT := none, cleared := true } = v
    have hexec := exec_warningCleared (dt := dt) hm hd hle
    have htest : v.holdupTest = (v.coldState v.pins v.journal.slots (scratchOf v.exch.mem)).recoverEmpty false := by
      have hslots : newestSlot v.journal.slots = none := by rw [← hv]; exact hnone
      rw [State.holdupTest, if_pos (by rw [← hv]; exact ⟨hm, rfl, hp⟩), State.coldStart, State.recover]
      have hsame : (v.coldState v.pins v.journal.slots (scratchOf v.exch.mem)).journal.slots = v.journal.slots := rfl
      rw [hsame, hslots]
    rw [hv, htest] at hexec
    obtain ⟨hnow, hpins, hmode, -, -, hready, -, -, hmem, -, -, hslots, -, -, -⟩ :=
      recoverEmpty_cold v v.pins v.journal.slots (scratchOf v.exch.mem)
    refine ⟨_, hexec, hnow.trans (by rw [← hv]; rfl), hmode, hready, hpins.trans (by rw [← hv]; rfl),
      hslots.trans (by rw [← hv]; rfl), fun _ a => ?_⟩
    rw [hmem, read_scratchOf, ← hv]
    rfl
  · rw [exec_warningInactive rfl, if_neg fun h => hm h.1]
    rfl
  · show Host.Outcome.next _ = _
    rw [if_neg]
    simp [hm]
end


/-! ### Power-on -/
section
namespace Sys2Proof.Machine

variable {s : State} {dt taken : Nat} {pins : Pins} {decay : List (Fin 16 × List Byte)}

/-- The part as POWER_ON finds it (R152, R186): its store, and every block at its power-on values. -/
def State.poweredOn (s : State) (dt : Nat) (pins : Pins) (taken : Nat) (decay : List (Fin 16 × List Byte)) : State :=
  (s.elapse dt).coldState pins (decaySlots (slotsAfterCut s.journal taken) decay) []

theorem exec_powerOn_recovers (h : pins.warning = false) :
    exec (.powerOn dt pins taken decay) s = .next ((s.poweredOn dt pins taken decay).recover false) :=
  congrArg Host.Outcome.next (if_neg (by show ¬ pins.warning = true; rw [h]; exact Bool.false_ne_true))

theorem exec_powerOn_warned (h : pins.warning = true) :
    exec (.powerOn dt pins taken decay) s = .next (s.poweredOn dt pins taken decay).motorsReset.enterHoldup :=
  congrArg Host.Outcome.next (if_pos h)

end Sys2Proof.Machine

open Sys2Proof Sys2Proof.Machine

/-- Settles O50: recovery at power-on with no VALID slot, from the newest slot, and under the warning. -/
theorem powerOnRecovers : Obligations.PowerOnRecovers := by
  unfold Obligations.PowerOnRecovers
  intro dt pins taken decay s
  dsimp only
  generalize hslots : decaySlots (slotsAfterCut s.journal taken) decay = slots
  have hcold : s.poweredOn dt pins taken decay = (s.elapse dt).coldState pins slots [] := by rw [← hslots]; rfl
  have hidle : ∀ sd, ((s.poweredOn dt pins taken decay).side sd).state = .idle ∧
      ((s.poweredOn dt pins taken decay).side sd).sale = none := fun sd => by cases sd <;> exact ⟨rfl, rfl⟩
  have hslots' : (s.poweredOn dt pins taken decay).journal.slots = slots := hslots
  refine ⟨fun hwarn hnone => ?_, fun i seq snap hwarn hsome => ?_, fun hwarn => ?_⟩
  · have hexec := exec_powerOn_recovers (s := s) (dt := dt) (taken := taken) (decay := decay) hwarn
    have hrec : (s.poweredOn dt pins taken decay).recover false = (s.poweredOn dt pins taken decay).recoverEmpty false := by
      rw [State.recover, hslots', hnone]
    rw [hrec, hcold] at hexec
    obtain ⟨hnow, hpins, hmode, hstage, hunset, hready, hconfig, hmask, hmem, hrest⟩ :=
      recoverEmpty_cold (s.elapse dt) pins slots []
    exact ⟨_, hexec, hnow, hpins, hmode, hstage, hunset, hready, hconfig, hmask, fun a => by rw [hmem]; rfl, hrest⟩
  · have hexec := exec_powerOn_recovers (s := s) (dt := dt) (taken := taken) (decay := decay) hwarn
    have hrec : (s.poweredOn dt pins taken decay).recover false =
        (s.poweredOn dt pins taken decay).recoverFrom (i, seq, snap) false := by
      rw [State.recover, hslots', hsome]
    rw [hrec] at hexec
    obtain ⟨hconfig, hprices, hmode, hcounter, ⟨w, hw, hwseq⟩, -, hmaster, hnewest, -, hgates⟩ :=
      recoverFrom_facts (s.poweredOn dt pins taken decay) i seq snap false
    obtain ⟨hnow, hsides, -, hcmode, -, hready, hpins, -⟩ :=
      State.recoverFrom_frame (s.poweredOn dt pins taken decay) (i, seq, snap) false
    rw [hslots'] at hcounter
    refine ⟨_, w, hexec, hnow, hpins, hcmode, hready, hconfig, congrArg PriceTable.active hprices,
      congrArg PriceTable.grades hprices, congrArg PriceTable.maps hprices, congrArg PriceTable.staged hprices,
      congrArg ModeCtl.schedule hmode, congrArg ModeCtl.clock hmode, congrArg ModeCtl.clockUnset hmode, hmaster, hnewest,
      hw, hwseq, hcounter, fun sd => ?_, hgates⟩
    rw [State.side, hsides]
    exact hidle sd
  · have hexec := exec_powerOn_warned (s := s) (dt := dt) (taken := taken) (decay := decay) hwarn
    rw [enterHoldup_eq] at hexec
    obtain ⟨hnow, hmode, hready, hmem, hpins, hsides, hmotors, -⟩ :=
      holdupStopped_facts (s.poweredOn dt pins taken decay).motorsReset
    obtain ⟨hflight, hjslots, -, -, hempty, -⟩ := holdupStopped_journal (s.poweredOn dt pins taken decay).motorsReset
    have hphase : (s.poweredOn dt pins taken decay).motorsReset.journal.phase = .normal := rfl
    have hflight' := hflight.trans (rfl : _ = none)
    have hempty' := hempty.trans (rfl : _ = true)
    have hjslots' := hjslots.trans hslots'
    have hmem' := hmem.trans (rfl : _ = ([] : Memory))
    rw [hphase] at hexec
    generalize (s.poweredOn dt pins taken decay).motorsReset.holdupStopped = u at *
    have hdone : u.journalWarning .normal = u.clearRequest.toPhase .done := by
      have hcleared : u.mode.cleared = false := congrArg ModeCtl.cleared hmode
      simp [State.journalWarning, State.beginFinal, State.holdupTest, hflight', hempty', hcleared]
    rw [hdone] at hexec
    exact ⟨_, hexec, hnow, hpins, congrArg ModeCtl.mode hmode, congrArg ModeCtl.warning hmode, hready, hjslots', hflight',
      rfl, fun a => by rw [show (u.clearRequest.toPhase .done).exch.mem = [] from hmem']; rfl,
      fun sd => ⟨(hsides sd).1, (hsides sd).2.1⟩, fun p => ⟨(hmotors p).1, (hmotors p).2.1⟩⟩
end


/-! ### The ends of the writes of a recovery, a reset and a warning -/
section
namespace Sys2Proof.Machine

variable {s t u : State} {sd : Side} {dt : Nat} {r : EndReason} {w : Write} {q : Slot} {damage : List Byte}

/-! #### What a swap at the end of recovery leaves -/

/-- The journal's store, its phase and its switch. -/
def Journal.core (j : Journal) : Vector Slot 16 × Option (Fin 16) × JPhase × Bool :=
  (j.slots, j.newest, j.phase, j.switchClosed)

/-- The nozzles of both sides and the journal's store, phase and switch stand. -/
structure InputsStand (s t : State) : Prop where
  nozzles : ∀ sd, (t.side sd).nozzles = (s.side sd).nozzles
  core : t.journal.core = s.journal.core

namespace InputsStand

theorem refl (s : State) : InputsStand s s := ⟨fun _ => rfl, rfl⟩

theorem trans (h : InputsStand s t) (k : InputsStand t u) : InputsStand s u :=
  ⟨fun sd => (k.nozzles sd).trans (h.nozzles sd), k.core.trans h.core⟩

theorem of_eq (hs : t.sides = s.sides) (hj : t.journal = s.journal) : InputsStand s t :=
  ⟨fun sd => congrArg (fun x => (Both.get x sd).nozzles) hs, congrArg Journal.core hj⟩

theorem ite {c : Prop} [Decidable c] (ht : InputsStand s t) (hu : InputsStand s u) :
    InputsStand s (if c then t else u) := by
  split <;> assumption

theorem of_tells (h : MotorsTell s t) (hj : t.journal = s.journal) : InputsStand s t := by
  refine ⟨fun sd => ?_, congrArg Journal.core hj⟩
  obtain ⟨n, hn⟩ := (h.hears sd).1
  rw [hn]

theorem bothSides {f : State → Side → State} (h : ∀ u sd, InputsStand u (f u sd)) (s : State) :
    InputsStand s (s.bothSides f) :=
  (h s .a).trans (h _ .b)

/-- A side that keeps its nozzles, and the other as it was. -/
theorem of_sides (hself : (t.side sd).nozzles = (s.side sd).nozzles) (hother : t.side sd.other = s.side sd.other)
    (hj : t.journal.core = s.journal.core) : InputsStand s t := by
  refine ⟨fun x => ?_, hj⟩
  cases sd <;> cases x
  case a.a => exact hself
  case b.b => exact hself
  all_goals exact congrArg SideCtl.nozzles hother

theorem setSide {y : SideCtl} (h : y.nozzles = (s.side sd).nozzles) : InputsStand s (s.setSide sd y) :=
  of_sides (sd := sd) (by simpa using h) (by simp) rfl

theorem core_of_steady {j k : Journal} (h : k.steady = j.steady) : k.core = j.core := by
  have hslots := congrArg Journal.slots h
  have hnewest := congrArg Journal.newest h
  have hphase := congrArg Journal.phase h
  have hswitch := congrArg Journal.switchClosed h
  exact Prod.ext hslots (Prod.ext hnewest (Prod.ext hphase hswitch))

theorem putSide {y : SideCtl} (h : y.nozzles = (s.side sd).nozzles) : InputsStand s (s.putSide sd y) :=
  of_sides (sd := sd) (by simpa using h) (by simp) (core_of_steady (putSide_steady s sd y))

theorem requestSnapshot (s : State) : InputsStand s s.requestSnapshot := by
  refine ⟨fun sd => by simp, ?_⟩
  unfold State.requestSnapshot
  repeat' split
  all_goals rfl

theorem takeRecord (s : State) (r : SaleRecord) : InputsStand s (s.takeRecord r) :=
  have hcount : InputsStand s ((s.setRecords r.side { s.records r.side with
      pending := (s.records r.side).pending ++ [⟨r, false⟩] }).countRecord r) :=
    .of_eq (by simp [State.setRecords]) (by simp [State.setRecords])
  hcount.trans (requestSnapshot _)

theorem completeSale (s : State) (sd : Side) (reason : Option EndReason) : InputsStand s (s.completeSale sd reason) := by
  cases ho : (s.side sd).sale with
  | none =>
    have h : s.completeSale sd reason = s := by simp only [State.completeSale, State.closeSale, ho]
    rw [h]
    exact refl s
  | some o =>
    have hleave : InputsStand s (s.leaving sd o) := of_tells (s.leaving_tells sd o) (State.leaving_frame _ _ _).2.2.2.2.1
    rw [State.completeSale_eq ho]
    have hset : InputsStand s ((s.leaving sd o).setSide sd ((s.side sd).completing o (s.finalRecord sd o reason)
        ((s.side sd).nextAfter o s.mode.mode))) := hleave.trans (.setSide (hleave.nozzles sd).symm)
    have htake := hset.trans (.takeRecord _ (s.finalRecord sd o reason))
    exact htake.trans (.putSide (htake.nozzles sd).symm)

theorem toEnding (s : State) (sd : Side) (reason : EndReason) : InputsStand s (s.toEnding sd reason) := by
  unfold State.toEnding
  dsimp only
  split
  · exact refl s
  · have habandon : InputsStand s (s.abandonZero sd) := .of_eq (by simp) (by simp)
    exact habandon.trans (.putSide (by simp))

theorem startingTest (s : State) (sd : Side) : InputsStand s (s.startingTest sd) := by
  have hvolume : InputsStand s (s.updateVolume sd) := by
    refine of_sides (sd := sd) ?_ (by simp) (by simp)
    unfold State.updateVolume
    dsimp only
    repeat' split
    all_goals simp
  unfold State.startingTest
  dsimp only
  refine ite ?_ (refl s)
  split
  · exact hvolume
  · split
    · exact hvolume
    · exact ite (hvolume.trans (.toEnding _ _ _)) (ite (hvolume.trans (.putSide rfl)) (hvolume.trans (.putSide rfl)))

theorem registerSide (s : State) (sd : Side) (c : Composition) : InputsStand s (s.registerSide sd c) :=
  of_tells (.registerSide _ _ _) (by simp)

theorem afterCapture (s : State) (sd : Side) (c : Composition) (n : Nat) : InputsStand s (s.afterCapture sd c n) := by
  have hzero : InputsStand s (s.requestZero sd n) := .of_eq (by simp) (by simp)
  exact ite (completeSale _ _ _) (ite (hzero.trans (bothSides startingTest _)) (completeSale _ _ _))

theorem testReadiness (s : State) (sd : Side) : InputsStand s (s.testReadiness sd) := by
  have hshow : ∀ a b c, InputsStand s (s.showTest sd a b c) := fun a b c =>
    of_sides (sd := sd) (by simp) (by simp) (by simp)
  have hcapture : ∀ o n g, InputsStand s (s.capture1 sd o n g) := fun o n g => by
    unfold State.capture1
    dsimp only
    have hattach : InputsStand s (s.attachMeters sd (s.prices.grades.get g).comp o.record.number) :=
      .of_eq (by simp) (by simp)
    exact ((hattach.trans (.putSide (by simp [State.side]))).trans (.registerSide _ _ _)).trans (.afterCapture _ _ _ _)
  unfold State.testReadiness
  dsimp only
  refine ite ?_ (refl s)
  split
  · exact refl s
  · split
    · exact ite (hshow _ _ _) (ite (hshow _ _ _) (hcapture _ _ _))
    · exact hshow _ _ _

theorem swapTest (s : State) : InputsStand s s.swapTest := by
  unfold State.swapTest
  refine ite ?_ (refl s)
  split
  · unfold State.doSwap State.tellWaiting
    dsimp only
    have hraise : ∀ u : State, u.sides = s.sides → u.journal = s.journal → ∀ k o d e,
        InputsStand s (u.recomposeBoth.postPriceView.raise k o d e) := fun u hs hj k o d e =>
      .of_eq (by simp [hs]) (by simp [hj])
    refine trans (trans ?_ (.requestSnapshot _)) (.bothSides (fun u sd => .ite (.testReadiness u sd) (refl u)) _)
    refine hraise _ ?_ ?_ _ _ _ _ <;> rfl
  · exact refl s

end InputsStand

/-! #### READY after a fresh snapshot -/

theorem openNowTest_of (h : s.mode.mode = .closed) (ho : s.mode.openNow = true) :
    s.openNowTest = s.beginOpening .schedule := if_pos ⟨h, ho⟩

theorem openNowTest_of_not (ho : s.mode.openNow = false) : s.openNowTest = s := if_neg fun h => by simp [ho] at h

theorem leftCold_stands (s : State) : ModeStands s.closedAfresh s.leftCold := by
  refine ((ModeStands.refl s.closedAfresh).swapTest).of_eq ?_
  simp [State.leftCold]

theorem leftCold_inputs (s : State) : InputsStand s.closedAfresh s.leftCold :=
  (InputsStand.swapTest _).trans (.of_eq (by simp [State.leftCold]) (by simp [State.leftCold]))

/-- What stands once READY is 1 (R153, R165, R182). -/
theorem leaveCold_facts (s : State) :
    s.leaveCold.now = s.now ∧ s.leaveCold.exch.ready = true ∧
      s.leaveCold.journal.core =
        (s.journal.slots, s.journal.newest, s.journal.phase, s.pins.metrologyClosed) ∧
      (s.mode.clockUnset = true ∨ s.mode.openNow = false →
        s.leaveCold.mode.mode = .closed ∧ s.leaveCold.mode.stage = none) ∧
      (s.mode.clockUnset = false → s.mode.openNow = true →
        s.leaveCold.mode.mode = .opening ∧ s.leaveCold.mode.stage = some .wake) ∧
      (∀ sd, (s.leaveCold.side sd).nozzles = s.pins.nozzles.get sd) ∧
      s.leaveCold.exch.fresh.getLsbD Folio.priceView.val = true ∧
      s.leaveCold.exch.fresh.getLsbD Folio.totals.val = true ∧
      s.leaveCold.exch.fresh.getLsbD Folio.status.val = true := by
  obtain ⟨hnow, -, -, -, hj, hmode, -, -, -, hready, -, hsides⟩ := closedAfresh_facts s
  have hstands := leftCold_stands s
  have hunset : s.leftCold.mode.clockUnset = s.mode.clockUnset := by
    unfold ModeStands at hstands
    rw [hstands, hmode]
  have hopen : s.leftCold.mode.openNow = s.mode.openNow := by
    unfold ModeStands at hstands
    rw [hstands, hmode]
    rfl
  have hclosed : s.leftCold.mode.mode = .closed ∧ s.leftCold.mode.stage = none :=
    ⟨hstands.mode.trans (congrArg ModeCtl.mode hmode), hstands.stage.trans (congrArg ModeCtl.stage hmode)⟩
  have hinputs := leftCold_inputs s
  have hlast : s.leaveCold.now = s.leftCold.now ∧ s.leaveCold.exch.ready = s.leftCold.exch.ready ∧
      s.leaveCold.sides = s.leftCold.sides ∧ s.leaveCold.journal = s.leftCold.journal ∧
      Keeps IsReport s.leftCold s.leaveCold := by
    rw [leaveCold_eq]
    split
    · exact ⟨rfl, rfl, rfl, rfl, .refl _ _⟩
    · exact ⟨by simp, by simp, by simp, by simp, (Keeps.refl _ _).openNowTest⟩
  obtain ⟨hnow', hready', hsides', hj', hkeeps⟩ := hlast
  have hreports : Keeps IsReport (s.closedAfresh.swapTest.postPriceView.setFresh Folio.totals) s.leftCold :=
    (((Keeps.refl _ _).reportFlow (isReport_report .a)).reportFlow (isReport_report .b)).postStatus
  have hprice : Keeps IsReport s.closedAfresh.swapTest.postPriceView s.leftCold := (Keeps.refl _ _).setFresh.trans hreports
  refine ⟨?_, ?_, ?_, fun h => ?_, fun hu ho => ?_, fun sd => ?_, ?_, ?_, ?_⟩
  · rw [hnow', ← hnow]
    simp [State.leftCold]
  · rw [hready', ← hready]
    simp [State.leftCold]
  · rw [hj', hinputs.core, hj]
    rfl
  · have heq : s.leaveCold = s.leftCold := by
      rw [leaveCold_eq, hunset]
      rcases h with h | h
      · exact if_pos h
      · rw [openNowTest_of_not (hopen.trans h), ite_self]
    rw [heq]
    exact hclosed
  · rw [leaveCold_eq, hunset, if_neg (by simp [hu]), openNowTest_of hclosed.1 (hopen.trans ho)]
    have hwake := (beginOpening_facts s.leftCold .schedule).2.1
    exact ⟨congrArg ModeCtl.mode hwake, congrArg ModeCtl.stage hwake⟩
  · have hn : (s.leaveCold.side sd).nozzles = (s.leftCold.side sd).nozzles :=
      congrArg (fun x => (Both.get x sd).nozzles) hsides'
    rw [hn, hinputs.nozzles, hsides]
  · exact hkeeps.fresh _ (hprice.fresh _ (bit_or_self _ _))
  · exact hkeeps.fresh _ (hreports.fresh _ (bit_or_self _ _))
  · exact hkeeps.fresh _ (postStatus_fresh _)

theorem nextWrite_stands (s : State) : InputsStand s s.nextWrite ∧ s.nextWrite.mode = s.mode ∧
    s.nextWrite.now = s.now ∧ s.nextWrite.exch = s.exch := by
  unfold State.nextWrite
  split
  · exact ⟨⟨fun sd => by simp, rfl⟩, by simp, by simp, by simp⟩
  · exact ⟨.refl s, rfl, rfl, rfl⟩

/-! #### The special snapshots -/

theorem beginReset_of_known (h : s.journal.empty = false) : s.beginReset = (s.toPhase .resetWriting).beginWrite := by
  simp [State.beginReset, h]

theorem beginFinal_of_known (h : s.journal.empty = false) : s.beginFinal = (s.toPhase .finalWriting).beginWrite := by
  simp [State.beginFinal, h]

theorem holdupTest_of_not (h : s.mode.mode ≠ .holdup ∨ s.mode.cleared = false) : s.holdupTest = s := by
  refine if_neg fun hno => ?_
  rcases h with h | h
  · exact h hno.1
  · simp [h] at hno

/-- A write waited for is followed by the snapshot that waited for it. -/
theorem beginNext_of_known {p next : JPhase} (h : s.journal.empty = false) (close : WriteWait)
    (hp : (p = .resetWait ∧ next = .resetWriting) ∨ (p = .finalWait ∧ next = .finalWriting)) :
    s.afterDone p close = (s.toPhase next).beginWrite ∧ s.afterFailed p = (s.toPhase next).beginWrite := by
  rcases hp with ⟨rfl, rfl⟩ | ⟨rfl, rfl⟩
  · exact ⟨beginReset_of_known h, beginReset_of_known h⟩
  · exact ⟨beginFinal_of_known h, beginFinal_of_known h⟩

end Sys2Proof.Machine

open Sys2Proof Sys2Proof.Machine

/-- Settles O47: the end of a write by the journal's phase. -/
theorem journalPhasesEnd : Obligations.JournalPhasesEnd := by
  unfold Obligations.JournalPhasesEnd
  refine ⟨fun dt damage s w hw => ?_, fun dt damage s hno => ⟨?_, fun hp => ?_⟩⟩
  · dsimp only
    have hdone := fun hq => writeDone_settled (s.elapse dt) (w := w) (q := w.readBack damage) hq
    have hfailed := fun hq => writeFailed_settled (s.elapse dt) (w := w) (q := w.readBack damage) hq
    have hev := writeFailed_nextEvent (s.elapse dt) (w := w) (q := w.readBack damage)
    have hgood := fun hq => exec_writeValid (dt := dt) (damage := damage) hw hq
    have hbad := fun hq => exec_writeBad (dt := dt) (damage := damage) hw hq
    obtain ⟨hdnow, -, -, -, -, -, -, hdmode, -, -, hdready, hdpins, -⟩ :=
      State.writeDone_frame (s.elapse dt) w (w.readBack damage)
    obtain ⟨hfnow, -, -, -, -, -, -, -, hfmode, -, -, -, hfready, -, -⟩ :=
      State.writeFailed_frame (s.elapse dt) w (w.readBack damage)
    have hdcounter := (writeDone_totals (s.elapse dt) w (w.readBack damage)).2
    generalize (s.elapse dt).writeDone w (w.readBack damage) = v at *
    generalize (s.elapse dt).writeFailed w (w.readBack damage) = u at *
    refine ⟨fun hq hp => ?_, fun i seq snap hq hp hnew => ?_, fun hq hp => ?_, fun next hq hp => ?_,
      fun hp hcleared => ?_⟩
    · have hexec := hgood hq
      rw [hp] at hexec
      have hj := hdone hq
      obtain ⟨hnow, hready, hcore, hclosed, hopening, hnozzles, hprice, htotals, hstatus⟩ :=
        leaveCold_facts (v.toPhase .normal)
      obtain ⟨hinputs, hnmode, hnnow, hnexch⟩ := nextWrite_stands (v.toPhase .normal).leaveCold
      have hcore' := hinputs.core.trans hcore
      have hm : (v.toPhase .normal).mode = s.mode := hdmode
      rw [hm] at hclosed hopening
      refine ⟨_, hexec, hnnow.trans (hnow.trans hdnow), by rw [State.afterDone, hnexch]; exact hready,
        congrArg (·.2.2.1) hcore', (congrArg (·.1) hcore').trans (congrArg Journal.slots hj),
        (congrArg (·.2.1) hcore').trans (congrArg Journal.newest hj), fun h => ?_, fun hu ho => ?_,
        (congrArg (·.2.2.2) hcore').trans (congrArg Pins.metrologyClosed hdpins), fun sd => ?_, ?_, ?_, ?_⟩
      · rw [State.afterDone, hnmode]; exact hclosed h
      · rw [State.afterDone, hnmode]; exact hopening hu ho
      · exact (hinputs.nozzles sd).trans ((hnozzles sd).trans (congrArg (fun p => p.nozzles.get sd) hdpins))
      · rw [State.afterDone, hnexch]; exact hprice
      · rw [State.afterDone, hnexch]; exact htotals
      · rw [State.afterDone, hnexch]; exact hstatus
    · have hexec := hgood hq
      have hj := hdone hq
      have hslots : v.clearRequest.journal.slots = s.journal.slots.set w.slot.val (w.readBack damage) :=
        congrArg Journal.slots hj
      have hrec : v.clearRequest.recover true = v.clearRequest.recoverFrom (i, seq, snap) true := by
        rw [State.recover, hslots, hnew]
      rw [hp, State.afterDone, hrec] at hexec
      obtain ⟨hconfig, hprices, hmode, hcounter, ⟨w', hw', hseq⟩, hrslots, hmaster, hnewest, hphase, hgates⟩ :=
        recoverFrom_facts v.clearRequest i seq snap true
      obtain ⟨hnow, -, -, hmm, -, hready, -⟩ := State.recoverFrom_frame v.clearRequest (i, seq, snap) true
      have hclock : v.clearRequest.mode.clock = s.mode.clock := congrArg ModeCtl.clock hdmode
      have hunset : v.clearRequest.mode.clockUnset = s.mode.clockUnset := congrArg ModeCtl.clockUnset hdmode
      exact ⟨_, w', hexec, ⟨hnow.trans hdnow, hmm.trans (congrArg ModeCtl.mode hdmode), hready.trans hdready,
        hrslots.trans hslots⟩, hphase, hnewest, hw', hseq, hconfig, congrArg PriceTable.active hprices,
        congrArg PriceTable.grades hprices, congrArg PriceTable.maps hprices, congrArg ModeCtl.schedule hmode,
        (congrArg ModeCtl.clock hmode).trans hclock, (congrArg ModeCtl.clockUnset hmode).trans hunset, hmaster, hcounter, hgates⟩
    · have hexec := hbad hq
      have hj := hfailed hq
      have hafter : u.afterFailed s.journal.phase = u.beginWrite := by rcases hp with hp | hp <;> rw [hp] <;> rfl
      rw [hafter] at hexec
      have hslots := congrArg Journal.slots hj
      have hphase := congrArg Journal.phase hj
      have hnewest := congrArg Journal.newest hj
      have hnext := congrArg Journal.next hj
      have hseq := congrArg Journal.seq hj
      exact ⟨_, _, hexec, ⟨hfnow, congrArg ModeCtl.mode hfmode, hfready, hslots⟩, hphase, hnewest, rfl, hnext, hseq, hev⟩
    · by_cases hg : (w.readBack damage).kind = .valid
      · have hexec := hgood hg
        have hj := hdone hg
        rw [(beginNext_of_known (congrArg Journal.empty hj) _ hp).1] at hexec
        have hslots := congrArg Journal.slots hj
        have hnewest := congrArg Journal.newest hj
        have hnext := congrArg Journal.next hj
        have hseq := congrArg Journal.seq hj
        exact ⟨_, _, hexec, ⟨hdnow, congrArg ModeCtl.mode hdmode, hdready, hslots⟩, rfl, rfl, hseq,
          fun _ => ⟨hnewest, hnext⟩, fun h => absurd hg h⟩
      · have hexec := hbad hg
        have hj := hfailed hg
        have hempty : s.journal.empty = false := hq.resolve_left hg
        rw [(beginNext_of_known ((congrArg Journal.empty hj).trans hempty) .idle hp).2] at hexec
        have hslots := congrArg Journal.slots hj
        have hnewest := congrArg Journal.newest hj
        have hnext := congrArg Journal.next hj
        have hseq := congrArg Journal.seq hj
        exact ⟨_, _, hexec, ⟨hfnow, congrArg ModeCtl.mode hfmode, hfready, hslots⟩, rfl, rfl, hseq,
          fun h => absurd h hg, fun _ => ⟨hnewest, hnext⟩⟩
    · by_cases hg : (w.readBack damage).kind = .valid
      · have hexec := hgood hg
        have hj := hdone hg
        have hafter : v.afterDone s.journal.phase s.journal.closeWait = v.toPhase .done := by
          have htest : (v.toPhase .done).holdupTest = v.toPhase .done :=
            holdupTest_of_not (by rw [show (v.toPhase .done).mode = s.mode from hdmode]; exact hcleared)
          rcases hp with hp | hp <;> rw [hp] <;> exact htest
        rw [hafter] at hexec
        have hslots := congrArg Journal.slots hj
        have hnewest := congrArg Journal.newest hj
        have hflight := congrArg Journal.inFlight hj
        exact ⟨_, hexec, ⟨hdnow, congrArg ModeCtl.mode hdmode, hdready, hslots⟩, rfl, hflight, fun _ => hnewest,
          fun h => absurd hg h⟩
      · have hexec := hbad hg
        have hj := hfailed hg
        have hafter : u.afterFailed s.journal.phase = u.toPhase .done := by
          have htest : (u.toPhase .done).holdupTest = u.toPhase .done :=
            holdupTest_of_not (by rw [show (u.toPhase .done).mode = s.mode from hfmode]; exact hcleared)
          rcases hp with hp | hp <;> rw [hp] <;> exact htest
        rw [hafter] at hexec
        have hslots := congrArg Journal.slots hj
        have hnewest := congrArg Journal.newest hj
        have hflight := congrArg Journal.inFlight hj
        exact ⟨_, hexec, ⟨hfnow, congrArg ModeCtl.mode hfmode, hfready, hslots⟩, rfl, hflight, fun h => absurd h hg,
          fun _ => ⟨hnewest, hev⟩⟩
  · show Host.Outcome.next ((s.elapse dt).writeEnds damage) = _
    unfold State.writeEnds
    simp [hno]
  · have hnone : (s.elapse dt).requestSnapshot = s.elapse dt := by
      unfold State.requestSnapshot
      simp [hp]
    exact congrArg Host.Outcome.next ((congrArg (ite _ · _) hnone).trans (ite_self _))
end


/-! ### Transfers and their echoes -/
section
namespace Sys2Proof.Machine

variable {s t u : State} {sd : Side} {dt : Nat} {frame echo : List Byte} {p : Purpose}

/-! #### The transfer that waits -/

/-- A transfer in progress is not interrupted (R91). -/
theorem nextTransfer_of_sending (h : (s.disp sd).transfer.isSome = true) : s.nextTransfer sd = s := by
  unfold State.nextTransfer
  exact if_pos h

/-- Nothing waits for a transfer: the side is not going dark, and no check or test of it is at a step that waits. -/
def DispSide.rests (d : DispSide) : Prop :=
  d.goingDark = false ∧ (∀ l, d.lamp = some l → l.step ≠ .blankWait ∧ l.step ≠ .wait) ∧
    ∀ z, d.lamp = none → d.zero = some z → z.step ≠ .wait

theorem rests_of_none {d : DispSide} (hd : d.goingDark = false) (hl : d.lamp = none) (hz : d.zero = none) : d.rests :=
  ⟨hd, fun l h => absurd (hl.symm.trans h) (Option.some_ne_none l).symm,
    fun z _ h => absurd (hz.symm.trans h) (Option.some_ne_none z).symm⟩

theorem nextTransfer_of_rests (h : (s.disp sd).rests) : s.nextTransfer sd = s := by
  obtain ⟨hdark, hlamp, hzero⟩ := h
  unfold State.nextTransfer
  dsimp only
  rw [hdark]
  split
  case isTrue => rfl
  case isFalse =>
    rw [if_neg Bool.false_ne_true]
    cases hl : (s.disp sd).lamp with
    | some l =>
      obtain ⟨hblank, hwait⟩ := hlamp l hl
      dsimp only
      split
      case h_1 h => exact absurd h hblank
      case h_2 h => exact absurd h hwait
      case h_3 => rfl
    | none =>
      cases hz : (s.disp sd).zero with
      | some z => exact if_neg fun h => hzero z hl hz h.1
      | none => rfl

/-! #### A transfer begins -/

@[simp] theorem setDisp_setDisp (s : State) (sd : Side) (x y : DispSide) :
    (s.setDisp sd x).setDisp sd y = s.setDisp sd y := by
  cases sd <;> rfl

/-- Of a side's display a composed frame holds the host text alone (R93 to R96). -/
theorem composeFrame_setDisp {y : DispSide} (h : y.hostText = (u.disp sd).hostText) :
    (u.setDisp sd y).composeFrame sd = u.composeFrame sd := by
  have hmessage : (u.setDisp sd y).messageText sd = u.messageText sd := by
    simp only [State.messageText, State.setDisp_disp_self, h]
    rfl
  simp only [State.composeFrame, hmessage]
  rfl

/-- A transfer of a composed frame begins (R98). -/
theorem setDisp_startComposed {y : DispSide} (p : Purpose) (h : y.hostText = (u.disp sd).hostText) :
    (u.setDisp sd y).startComposed sd p = u.setDisp sd { y with
      composed := some (u.composeFrame sd), composedAt := some u.capture, recompose := false, figures := false
      transfer := some ⟨u.composeFrame sd, p⟩, transferAt := some u.capture } := by
  simp only [State.startComposed, State.startTransfer, composeFrame_setDisp h, State.setDisp_disp_self, setDisp_setDisp]
  rfl

theorem startComposed_eq (u : State) (sd : Side) (p : Purpose) :
    u.startComposed sd p = u.setDisp sd { u.disp sd with
      composed := some (u.composeFrame sd), composedAt := some u.capture, recompose := false, figures := false
      transfer := some ⟨u.composeFrame sd, p⟩, transferAt := some u.capture } := by
  have h : u.setDisp sd (u.disp sd) = u := by cases sd <;> rfl
  have hstart := setDisp_startComposed (u := u) (sd := sd) (y := u.disp sd) p rfl
  rwa [h] at hstart

/-! #### A transfer ends -/

/-- A transfer that ends on a side that is not dark is latched and judged, and the one that waits begins (R91). -/
theorem exec_transferEnd (ht : (s.disp sd).transfer = some ⟨frame, p⟩) (hdark : (s.disp sd).state ≠ .dark) :
    exec (.transferEnd dt sd echo) s = .next
      ((((s.elapse dt).setDisp sd ((s.disp sd).latch ⟨frame, p⟩)).judgeTransfer sd p (s.disp sd).latched.isSome
        (judge (p.expects (s.disp sd).latched) echo)).nextTransfer sd) := by
  have hel : (s.elapse dt).disp sd = s.disp sd := rfl
  refine congrArg Host.Outcome.next ?_
  rw [hel, ht]
  exact if_neg hdark

theorem latch_of_frame (d : DispSide) (hp : p ≠ .blank) :
    d.latch ⟨frame, p⟩ = { d with transfer := none, latched := some frame } := by
  simp [DispSide.latch, hp]

/-! #### A display fails -/

theorem displayFault_disp (s : State) (sd : Side) (c : DispCause) (i : Nat) :
    (s.displayFault sd c i).disp sd = { s.disp sd with
        state := .fault, zero := none, lamp := none, holdT := none, mismatch := 0, recompose := false
        figures := false, goingDark := false, transfer := some ⟨allOff, .blank⟩, transferAt := some s.capture } ∧
      (s.displayFault sd c i).disp sd.other = s.disp sd.other := by
  have hshow : ∀ (u : State) k o d e x, (u.raise k o d e).postStatus.disp x = u.disp x := fun u k o d e x => by
    simp [State.disp]
  unfold State.displayFault State.startTransfer
  dsimp only
  rw [hshow, hshow]
  simp only [State.setDisp_disp_self, State.setDisp_disp_other, and_true]
  rfl

@[simp] theorem displayFault_plant (s : State) (sd : Side) (c : DispCause) (i : Nat) :
    (s.displayFault sd c i).display.plant = s.display.plant := by
  simp [State.displayFault, State.startTransfer]

/-- A change of a side is a source change of its own display alone (R73). -/
theorem putSide_disp (s : State) (sd : Side) (x : SideCtl) :
    (s.putSide sd x).disp sd = { s.disp sd with
        recompose := (s.disp sd).recompose || decide ((s.disp sd).state = .lit ∨ (s.disp sd).state = .testing) } ∧
      (s.putSide sd x).disp sd.other = s.disp sd.other := by
  have hpost : ∀ (u : State) y, u.postStatus.disp y = u.disp y := fun u y => by simp [State.disp]
  have hcheck : ∀ y, ((s.setSide sd { x with noPumpEnd := x.noPumpEnd && decide (x.state ≠ .idle) }).periodicCheck).disp y
      = s.disp y := fun y => by simp [State.disp, State.setSide]
  unfold State.putSide
  rw [hpost, hpost, (recompose_disp _ sd).1, (recompose_disp _ sd).2, hcheck, hcheck]
  exact ⟨rfl, rfl⟩

/-- A side whose display is in FAULT has nothing to compose. -/
theorem putSide_disp_of_fault (x : SideCtl) (h : (s.disp sd).state = .fault) (y : Side) :
    (s.putSide sd x).disp y = s.disp y := by
  obtain ⟨hself, hother⟩ := putSide_disp s sd x
  cases sd <;> cases y
  case a.a => rw [hself, h]; simp
  case b.b => rw [hself, h]; simp
  all_goals exact hother

theorem toEnding_disp_of_fault (reason : EndReason) (h : (s.disp sd).state = .fault) (hz : (s.disp sd).zero = none)
    (y : Side) : (s.toEnding sd reason).disp y = s.disp y := by
  have habandon : s.abandonZero sd = s := by simp [State.abandonZero, hz]
  unfold State.toEnding
  dsimp only
  split
  · rfl
  · rw [habandon, putSide_disp_of_fault _ h]

theorem putSide_plant (s : State) (sd : Side) (x : SideCtl) : (s.putSide sd x).display.plant = s.display.plant := by
  simp [State.putSide, State.setSide]

theorem toEnding_plant (s : State) (sd : Side) (reason : EndReason) :
    (s.toEnding sd reason).display.plant = s.display.plant := by
  unfold State.toEnding
  dsimp only
  split
  · rfl
  · simp [putSide_plant]

theorem darkReport_of_lit (h : s.display.darkening = false) : s.darkReport = s := by
  simp [State.darkReport, h]

/-- A lamp test's outcome is no news outside the LAMP stage (R168). -/
theorem lampDone_of_not (failed : Bool) (h : s.mode.stage ≠ some .lamp) : s.lampDone sd failed = s := by
  simp [State.lampDone, h]

/-- The display of a side without a check in hand, or a test that anyone waits for, fails (R103): the side is told, which
before and after a delivery changes nothing, and in one sends the sale to ENDING. -/
theorem displayFails_of_idle {c : DispCause} {i : Nat}
    (hl : ∀ l, (s.disp sd).lamp = some l → l.order = false ∧ s.mode.stage ≠ some .lamp) (hz : (s.disp sd).zero = none)
    (ha : (s.side sd).state ≠ .authorized) (hs : (s.side sd).state ≠ .starting) (hd : s.display.darkening = false) :
    s.displayFails sd c i = (if (s.side sd).state.delivers = true ∨ (s.side sd).state = .suspended then
      (s.displayFault sd c i).toEnding sd .displayFault else s.displayFault sd c i) := by
  have hzero : s.zeroFailed sd = s := by simp [State.zeroFailed, hz]
  have hrelease : s.releaseRetest sd = s := by
    unfold State.releaseRetest
    cases h : (s.disp sd).lamp with
    | none => rfl
    | some l => simp [(hl l h).1]
  have hlamp : (if (s.disp sd).lamp.isSome then s.lampDone sd true else s) = s := by
    cases h : (s.disp sd).lamp with
    | none => rfl
    | some l => exact (if_pos rfl).trans (lampDone_of_not true (hl l h).2)
  have hside : (s.displayFault sd c i).side sd = s.side sd := by simp [State.side]
  have hnotice : (s.displayFault sd c i).noticeDisplayFault sd =
      if (s.side sd).state.delivers = true ∨ (s.side sd).state = .suspended then
        (s.displayFault sd c i).toEnding sd .displayFault else s.displayFault sd c i := by
    unfold State.noticeDisplayFault
    rw [hside]
    cases hst : (s.side sd).state <;> simp_all [SideState.delivers]
  have hplant : ((s.displayFault sd c i).noticeDisplayFault sd).display.plant = s.display.plant := by
    rw [hnotice]
    split
    · rw [toEnding_plant, displayFault_plant]
    · rw [displayFault_plant]
  unfold State.displayFails
  dsimp only
  rw [hrelease, hzero, hlamp, darkReport_of_lit, hnotice]
  exact (congrArg Display.darkening hplant : _).trans hd

theorem displayFault_nextEvent (s : State) (sd : Side) (c : DispCause) (i : Nat) :
    (s.displayFault sd c i).exch.nextEvent = succ32 s.exch.nextEvent := by
  unfold State.displayFault
  dsimp only
  rw [(events_of_log (State.postStatus_quiet _).1).2]
  rfl

theorem toEnding_nextEvent (s : State) (sd : Side) (reason : EndReason) :
    (s.toEnding sd reason).exch.nextEvent = s.exch.nextEvent :=
  (events_of_log (State.toEnding_quiet s sd reason).1).2

/-- An echo whose judgement changes the side's display alone, and leaves nothing waiting for a transfer (R91). -/
theorem exec_transferEnd_of_rests (ht : (s.disp sd).transfer = some ⟨frame, p⟩) (hdark : (s.disp sd).state ≠ .dark)
    (hp : p ≠ .blank) (y : DispSide) (hy : y.rests)
    (hjudge : ((s.elapse dt).setDisp sd { s.disp sd with transfer := none, latched := some frame }).judgeTransfer sd p
        (s.disp sd).latched.isSome (judge (p.expects (s.disp sd).latched) echo) = (s.elapse dt).setDisp sd y) :
    exec (.transferEnd dt sd echo) s = .next ((s.elapse dt).setDisp sd y) := by
  rw [exec_transferEnd ht hdark, latch_of_frame _ hp, hjudge, nextTransfer_of_rests]
  rwa [State.setDisp_disp_self]

end Sys2Proof.Machine

open Sys2Proof Sys2Proof.Machine

/-- Settles O29: the transfers that begin, and a refresh's echo by the image it must equal. -/
theorem transfersBeginAndRefreshesAreJudged : Obligations.TransfersBeginAndRefreshesAreJudged := by
  unfold Obligations.TransfersBeginAndRefreshesAreJudged
  refine ⟨fun dt sd s => ?_, fun dt sd s frame echo ht hlit hz hl hd => ?_⟩
  · refine ⟨fun hdue => ?_, fun z d hz hstep hd hle => ?_, fun l d hl hd hle => ⟨fun hstep => ?_, fun hstep => ?_⟩⟩
    · refine (congrArg Host.Outcome.next (if_pos hdue)).trans (congrArg Host.Outcome.next ?_)
      exact startComposed_eq (s.elapse dt) sd _
    · have hzero : (s.disp sd).zeroHoldDue (s.now + dt) = true := by
        simp [DispSide.zeroHoldDue, hz, hstep, (Timer.due_iff _ _).2 ⟨d, hd, hle⟩]
      refine (congrArg Host.Outcome.next (if_pos hzero)).trans (congrArg Host.Outcome.next ?_)
      refine (setDisp_startComposed (u := s.elapse dt) (y := { (s.disp sd).zeroAt .z2 with holdT := none }) _ rfl).trans ?_
      simp [DispSide.zeroAt, hz]
      rfl
    · have htest : (s.disp sd).testing .hold1 = true := by simp [DispSide.testing, hl, hstep]
      refine (congrArg Host.Outcome.next (if_pos ((Timer.due_iff _ _).2 ⟨d, hd, hle⟩))).trans
        ((congrArg Host.Outcome.next (if_pos htest)).trans (congrArg Host.Outcome.next ?_))
      simp [State.startTransfer, DispSide.lampAt, hl, State.capture]
    · have hno : ¬ (s.disp sd).testing .hold1 = true := by simp [DispSide.testing, hl, hstep]
      have htest : (s.disp sd).testing .hold2 = true := by simp [DispSide.testing, hl, hstep]
      refine (congrArg Host.Outcome.next (if_pos ((Timer.due_iff _ _).2 ⟨d, hd, hle⟩))).trans
        ((congrArg Host.Outcome.next ((if_neg hno).trans (if_pos htest))).trans (congrArg Host.Outcome.next ?_))
      refine (setDisp_startComposed (u := s.elapse dt) (y := { (s.disp sd).lampAt .t3 with holdT := none }) _ rfl).trans ?_
      simp [DispSide.lampAt, hl]
      rfl
  · have hrests : ∀ m, ({ s.disp sd with transfer := none, latched := some frame, mismatch := m } : DispSide).rests :=
      fun m => rests_of_none hd hl hz
    refine ⟨fun img himg hdiff => ?_, fun hnone => ?_, fun img i himg hdiff => ⟨fun hlt => ?_, fun hge ha hs hdark => ?_⟩⟩
    · refine exec_transferEnd_of_rests ht (by rw [hlit]; decide) (by decide) _ (hrests 0) ?_
      simp [State.judgeTransfer, State.refreshEnds, judge, Purpose.expects, himg, hdiff]
    · refine exec_transferEnd_of_rests ht (by rw [hlit]; decide) (by decide) _ (hrests _) ?_
      simp [State.judgeTransfer, State.refreshEnds, judge, Purpose.expects, hnone]
    · refine exec_transferEnd_of_rests ht (by rw [hlit]; decide) (by decide) _ (hrests _) ?_
      have hno : ¬ 3 ≤ (s.disp sd).mismatch + 1 := by omega
      simp [State.judgeTransfer, State.refreshEnds, judge, Purpose.expects, himg, hdiff, hno]
    · have hexec := exec_transferEnd (dt := dt) (echo := echo) ht (by rw [hlit]; decide)
      rw [latch_of_frame _ (by decide)] at hexec
      generalize hv : (s.elapse dt).setDisp sd { s.disp sd with transfer := none, latched := some frame } = v at hexec
      have hvd : v.disp sd = { s.disp sd with transfer := none, latched := some frame } := by simp [← hv]
      have hvo : v.disp sd.other = s.disp sd.other := by rw [← hv]; exact State.setDisp_disp_other _ _ _
      have hvs : v.side sd = s.side sd := by rw [← hv]; rfl
      have hvdark : v.display.darkening = false := by rw [← hv]; exact hdark
      have hfail : v.judgeTransfer sd .refresh (s.disp sd).latched.isSome
          (judge (Purpose.refresh.expects (s.disp sd).latched) echo) = v.displayFails sd .refresh i := by
        have hyes : 3 ≤ (s.disp sd).mismatch + 1 := by omega
        simp [State.judgeTransfer, State.refreshEnds, judge, Purpose.expects, himg, hdiff, hvd, hyes]
      rw [hfail, displayFails_of_idle (fun l h => by rw [hvd] at h; exact absurd (hl.symm.trans h) nofun) (by rw [hvd]; exact hz) (by rw [hvs]; exact ha)
        (by rw [hvs]; exact hs) hvdark] at hexec
      obtain ⟨hfd, hfo⟩ := displayFault_disp v sd .refresh i
      have hfn := displayFault_nextEvent v sd .refresh i
      have hfl : Lands 0 [.display, .exch] v (v.displayFault sd .refresh i) := by simp [lands_iff]
      have hvn : v.exch.nextEvent = s.exch.nextEvent := by rw [← hv]; rfl
      have hvl : Lands dt [.display] s v := by rw [← hv]; simp [lands_iff]
      generalize v.displayFault sd .refresh i = f at *
      have hstate : (f.disp sd).state = .fault := by rw [hfd]
      have hzero : (f.disp sd).zero = none := by rw [hfd]
      have hshown : ∀ x, (if (v.side sd).state.delivers = true ∨ (v.side sd).state = .suspended then
          f.toEnding sd .displayFault else f).disp x = f.disp x := fun x => by
        split
        · exact toEnding_disp_of_fault _ hstate hzero x
        · rfl
      have hnext : (if (v.side sd).state.delivers = true ∨ (v.side sd).state = .suspended then
          f.toEnding sd .displayFault else f).exch.nextEvent = f.exch.nextEvent := by
        split
        · exact toEnding_nextEvent _ _ _
        · rfl
      have hlands : Lands 0 [.sides, .display, .journal, .exch] f (if (v.side sd).state.delivers = true ∨
          (v.side sd).state = .suspended then f.toEnding sd .displayFault else f) := by
        split <;> simp [lands_iff]
      generalize (if (v.side sd).state.delivers = true ∨ (v.side sd).state = .suspended then
        f.toEnding sd .displayFault else f) = r at *
      rw [nextTransfer_of_sending (by rw [hshown, hfd]; rfl)] at hexec
      refine ⟨r, hexec, ?_, by rw [hshown, hstate], by rw [hshown, hfd], by rw [hshown, hfd],
        (hshown _).trans (hfo.trans hvo), by rw [hnext, hfn, hvn]⟩
      rw [lands_iff] at hlands hfl hvl ⊢
      simp_all
end


/-! ### The echoes of the checks and the tests -/
section
namespace Sys2Proof.Machine

variable {s t u : State} {sd : Side} {dt : Nat} {frame echo : List Byte} {p : Purpose} {o : Sale} {c : Captured}

/-! #### The side leaves STARTING -/

/-- A side that has all its STARTING waits for enters ENDING, SLOW or FLOWING by its volume (R52). -/
theorem startingTest_of_ready (hr : (s.side sd).startReady = true) (ho : (s.side sd).sale = some o)
    (hc : o.cap = some c) : s.startingTest sd =
      if c.target ≤ (s.measured sd o c).volume then (s.updateVolume sd).toEnding sd c.targetReason
      else if c.slow ≤ (s.measured sd o c).volume then (s.updateVolume sd).enterSlow sd (s.compOf c)
      else (s.updateVolume sd).enterFlowing sd (s.compOf c) := by
  have hcomp : (s.updateVolume sd).compOf c = s.compOf c := by simp [State.compOf]
  have hside := State.updateVolume_side ho hc
  have hsale : ((s.updateVolume sd).side sd).sale = some { o with record := s.measured sd o c } := by rw [hside]; rfl
  simp only [State.startingTest, hr, if_true, hsale, hc, hcomp]

/-- What a side shows of its checks: the zero check, the mismatch count, the latched image, the lamp test and whether
it is going dark. -/
def DispSide.checks (d : DispSide) : Option ZeroCheck × Nat × Option (List Byte) × Option LampTest × Bool :=
  (d.zero, d.mismatch, d.latched, d.lamp, d.goingDark)

theorem putSide_checks (s : State) (sd : Side) (x : SideCtl) :
    ((s.putSide sd x).disp sd).checks = (s.disp sd).checks := by
  rw [(putSide_disp s sd x).1]
  rfl

theorem toEnding_checks (reason : EndReason) (hz : (s.disp sd).zero = none) :
    ((s.toEnding sd reason).disp sd).checks = (s.disp sd).checks := by
  have habandon : s.abandonZero sd = s := by simp [State.abandonZero, hz]
  unfold State.toEnding
  dsimp only
  split
  · rfl
  · rw [habandon, putSide_checks]

theorem newFigures_checks (s : State) (sd : Side) : ((s.newFigures sd).disp sd).checks = (s.disp sd).checks := by
  unfold State.newFigures
  dsimp only
  split
  · rw [State.setDisp_disp_self]; rfl
  · rw [State.setDisp_disp_self]; rfl
  · rfl

theorem updateVolume_checks (s : State) (sd : Side) : ((s.updateVolume sd).disp sd).checks = (s.disp sd).checks := by
  unfold State.updateVolume
  dsimp only
  repeat' split
  · rfl
  · rfl
  · rw [newFigures_checks]; rfl

/-- The display's checks stand as the side leaves STARTING (R52). -/
theorem startingTest_checks (hz : (s.disp sd).zero = none) :
    ((s.startingTest sd).disp sd).checks = (s.disp sd).checks := by
  have hvolume := updateVolume_checks s sd
  have hzero : ((s.updateVolume sd).disp sd).zero = none := (congrArg (·.1) hvolume).trans hz
  unfold State.startingTest
  dsimp only
  split
  · split
    · exact hvolume
    · split
      · exact hvolume
      · split
        · exact (toEnding_checks _ hzero).trans hvolume
        · split <;> exact (putSide_checks _ _ _).trans hvolume
  · rfl

theorem startingTest_lands (s : State) (sd : Side) :
    Lands 0 [.sides, .display, .journal, .exch] s (s.startingTest sd) := by
  simp [lands_iff]

/-- A side that leaves STARTING for a delivery awaits nothing more (R52). -/
theorem startingTest_side (hr : (s.side sd).startReady = true) (ho : (s.side sd).sale = some o) (hc : o.cap = some c) :
    ((s.startingTest sd).side sd).needZero = (if c.target ≤ (s.measured sd o c).volume then false
        else (s.side sd).needZero) ∧
      ((s.startingTest sd).side sd).state = (if c.target ≤ (s.measured sd o c).volume then .ending
        else if c.slow ≤ (s.measured sd o c).volume then .slow else .flowing) := by
  have hside := State.updateVolume_side ho hc
  have hsale : ((s.updateVolume sd).side sd).sale = some { o with record := s.measured sd o c } := by rw [hside]; rfl
  have hneed : ((s.updateVolume sd).side sd).needZero = (s.side sd).needZero := by rw [hside]; rfl
  rw [startingTest_of_ready hr ho hc]
  split
  · refine ⟨?_, (State.toEnding_endsWith (h := hsale) (reason := c.targetReason) ..).1.1.1⟩
    simp only [State.toEnding, hsale]
    have hslow : ∀ (v : State) (x : SideCtl), (v.startSettle (v.startSlowClose x)).needZero = x.needZero := fun v x => by
      unfold State.startSettle State.startSlowClose
      repeat' split
      all_goals rfl
    rw [State.putSide_side_self]
    exact hslow _ _
  · split
    · simp only [State.enterSlow, State.putSide_side_self]
      exact ⟨hneed, trivial⟩
    · simp only [State.enterFlowing, State.putSide_side_self]
      exact ⟨hneed, trivial⟩

/-! #### A check fails -/

/-- The completion of a sale asks the display of its own side alone to compose a frame, and abandons its zero check. -/
theorem completeSale_display (ho : (s.side sd).sale = some o) (reason : Option EndReason) :
    (s.completeSale sd reason).disp sd.other = s.disp sd.other ∧
      (s.completeSale sd reason).display.plant = s.display.plant ∧
      ((s.completeSale sd reason).disp sd).lamp = (s.disp sd).lamp := by
  have hdetach : (if o.cap.isSome then s.detachMeters sd else s).display = s.display := by split <;> simp
  have hrelease : ((if o.cap.isSome then s.detachMeters sd else s).releaseAll (.side sd)).display = s.display := by
    simp [hdetach]
  have habandon : ∀ v : State, (v.abandonZero sd).disp sd.other = v.disp sd.other ∧
      (v.abandonZero sd).display.plant = v.display.plant ∧ ((v.abandonZero sd).disp sd).lamp = (v.disp sd).lamp :=
    fun v => by
      unfold State.abandonZero
      dsimp only
      split <;> simp
  obtain ⟨hother, hplant, hlamp⟩ := habandon ((if o.cap.isSome then s.detachMeters sd else s).releaseAll (.side sd))
  have htake : ∀ (y : SideCtl) (r : SaleRecord), (((s.leaving sd o).setSide sd y).takeRecord r).display =
      (s.leaving sd o).display := fun y r => by simp [State.setSide]
  rw [State.completeSale_eq ho, putSide_plant, (putSide_disp _ _ _).2, (putSide_disp _ _ _).1]
  refine ⟨?_, ?_, ?_⟩
  · exact (congrArg (fun d => d.side.get sd.other) (htake _ _)).trans
      (hother.trans (congrArg (fun d => d.side.get sd.other) hrelease))
  · exact (congrArg Display.plant (htake _ _)).trans (hplant.trans (congrArg Display.plant hrelease))
  · exact (congrArg (fun d => (d.side.get sd).lamp) (htake _ _)).trans
      (hlamp.trans (congrArg (fun d => (d.side.get sd).lamp) hrelease))

/-- Outside DRAIN and a swap, with the other side in no STARTING, nothing follows a completion (R31, R52, R71). -/
theorem finishSale_eq_completeSale (ho : (s.side sd).sale = some o) (reason : Option EndReason)
    (hswap : s.prices.swapDue = false) (hstage : s.mode.stage = none) (hother : (s.side sd.other).state ≠ .starting) :
    s.finishSale sd reason = s.completeSale sd reason := by
  have hc : (s.completeSale sd reason).side sd.other = s.side sd.other :=
    (completeSale_side_other ho reason).trans (((s.leaving_tells sd o).hears sd.other).2 hother)
  have hb : (s.completeSale sd reason).bothSides State.startingTest = s.completeSale sd reason := by
    refine bothStarting_of_not fun x => startReady_of_state ?_
    rcases Side.eq_or_other sd x with rfl | rfl
    · rw [completeSale_side ho]
      exact nextAfter_ne_starting _ _ _
    · rwa [hc]
  rw [finishSale_eq reason (.inr hswap), hb, drainReport_of_not]
  rw [completeSale_mode ho reason (by rw [hstage]; decide), hstage]
  decide

/-- A zero check fails while the side waits for it (R52, R68, R100, R103): the sale completes, then the display fails. -/
theorem displayFails_of_zero {z : ZeroCheck} {cause : DispCause} {i : Nat} (hl : (s.disp sd).lamp = none)
    (hz : (s.disp sd).zero = some z) (hst : (s.side sd).state = .starting) (ho : (s.side sd).sale = some o)
    (hn : o.record.number = z.sale) (hswap : s.prices.swapDue = false) (hstage : s.mode.stage = none)
    (hother : (s.side sd.other).state ≠ .starting) (hd : s.display.darkening = false) :
    s.displayFails sd cause i = (s.completeSale sd (some .displayFault)).displayFault sd cause i := by
  have hrelease : s.releaseRetest sd = s := by simp [State.releaseRetest, hl]
  have hzero : s.zeroFailed sd = s.completeSale sd (some .displayFault) := by
    rw [← finishSale_eq_completeSale ho _ hswap hstage hother]
    simp [State.zeroFailed, hz, ho, hst, hn]
  have hdark : ((s.completeSale sd (some .displayFault)).displayFault sd cause i).display.darkening = false := by
    have h := (displayFault_plant (s.completeSale sd (some .displayFault)) sd cause i).trans (completeSale_display ho _).2.1
    exact (congrArg Display.darkening h : _).trans hd
  have hnotice : ((s.completeSale sd (some .displayFault)).displayFault sd cause i).noticeDisplayFault sd =
      (s.completeSale sd (some .displayFault)).displayFault sd cause i := by
    have hstate : (((s.completeSale sd (some .displayFault)).displayFault sd cause i).side sd).state =
        (s.side sd).nextAfter o s.mode.mode := by
      have hside : ((s.completeSale sd (some .displayFault)).displayFault sd cause i).side sd =
          (s.completeSale sd (some .displayFault)).side sd := by simp [State.side]
      rw [hside, completeSale_side ho]
      simp
    have hrest : ∀ st : SideState, st = (s.side sd).nextAfter o s.mode.mode → st = .idle ∨ st = .calling ∨ st = .ended := by
      rintro st rfl
      unfold SideCtl.nextAfter
      dsimp only
      repeat' split
      all_goals simp
    unfold State.noticeDisplayFault
    rcases hrest _ hstate with h | h | h <;> rw [h]
  unfold State.displayFails
  dsimp only
  rw [hrelease, hzero, hl, if_neg (by decide), hnotice, darkReport_of_lit hdark]

theorem raised_displayFault (hlog : u.exch.log = s.exch.log) (hclock : u.mode.clock = s.mode.clock) (sd : Side)
    (cause : DispCause) (i : Nat) :
    Raised s (u.displayFault sd cause i) .displayFault sd.number (.dispCause cause) (.num i) := by
  generalize hv : (u.setDisp sd { u.disp sd with
    state := .fault, zero := none, lamp := none, holdT := none, mismatch := 0, recompose := false
    figures := false, goingDark := false }).startTransfer sd allOff .blank = v
  have hfault : u.displayFault sd cause i =
      (v.raise .displayFault sd.number (.dispCause cause) (.num i)).postStatus := by rw [← hv]; rfl
  rw [hfault]
  refine raised_of (B := fun _ => False) (u := v) (by rw [← hv]; exact hlog) (by rw [← hv]; exact hclock) ?_ ?_
  · exact (State.postStatus_quiet _).1
  · exact (Keeps.refl _ _).postStatus

theorem newest_displayFault (u : State) (sd : Side) (cause : DispCause) (i : Nat) :
    NewestEvent (u.displayFault sd cause i) u.mode.clock .displayFault sd.number (.dispCause cause) (.num i) := by
  obtain ⟨hnext, hring, -⟩ := raised_displayFault (s := u) rfl rfl sd cause i
  exact ⟨_, hnext, by rw [hring]; exact Vector.getElem_set_self _⟩

/-- Z2's echo verifies the check of the sale that waits in STARTING (R52, R100). -/
theorem zeroVerifies {z : ZeroCheck} {latch : DispSide} (hz : latch.zero = some z) (hstep : z.step = .z2)
    (hmatch : firstDiff allOn echo 0 = none) (hst : (s.side sd).state = .starting) (ho : (s.side sd).sale = some o)
    (hn : o.record.number = z.sale) (known : Bool) (img : Option (List Byte)) :
    ((s.elapse dt).setDisp sd latch).judgeTransfer sd .z2 known (judge (Purpose.z2.expects img) echo) =
      (((s.elapse dt).setDisp sd { latch with zero := none, mismatch := 0 }).setSide sd
        { s.side sd with needZero := false }).startingTest sd := by
  have hside : ∀ y : DispSide, ((s.elapse dt).setDisp sd y).side sd = s.side sd := fun _ => rfl
  simp [State.judgeTransfer, State.z2Ends, judge, Purpose.expects, hmatch, hz, hstep, State.zeroVerified, hside, hst, ho, hn]

/-- A bad echo of a zero check fails the display (R100). -/
theorem zeroEchoFails {z : ZeroCheck} {expected : List Byte} {img : Option (List Byte)} {i : Nat}
    (hz : (s.disp sd).zero = some z)
    (hp : (p = .z1 ∧ z.step = .z1 ∧ img = some expected) ∨ (p = .z2 ∧ z.step = .z2 ∧ expected = allOn))
    (hdiff : firstDiff expected echo 0 = some i) (known : Bool) :
    s.judgeTransfer sd p known (judge (p.expects img) echo) = s.displayFails sd .zeroCheck i := by
  rcases hp with ⟨rfl, hstep, rfl⟩ | ⟨rfl, hstep, rfl⟩
  · simp [State.judgeTransfer, State.z1Ends, judge, Purpose.expects, hdiff, hz, hstep]
  · simp [State.judgeTransfer, State.z2Ends, judge, Purpose.expects, hdiff, hz, hstep]

/-- A bad echo of a lamp test fails the display (R101). -/
theorem lampEchoFails {l : LampTest} {expected : List Byte} {img : Option (List Byte)} {i : Nat}
    (hl : (s.disp sd).lamp = some l)
    (hp : (p = .t2 ∧ l.step = .t2 ∧ expected = allOn) ∨ (p = .t3 ∧ l.step = .t3 ∧ expected = allOff))
    (hdiff : firstDiff expected echo 0 = some i) (known : Bool) :
    s.judgeTransfer sd p known (judge (p.expects img) echo) = s.displayFails sd .lampTest i := by
  rcases hp with ⟨rfl, hstep, rfl⟩ | ⟨rfl, hstep, rfl⟩
  · simp [State.judgeTransfer, State.t2Ends, judge, Purpose.expects, hdiff, hl, hstep, DispSide.testing]
  · simp [State.judgeTransfer, State.t3Ends, judge, Purpose.expects, hdiff, hl, hstep]

/-- A lamp test that no opening awaits passes: the side is LIT, with DISPLAY_OK when it came from FAULT (R101). -/
theorem lampPasses_facts (l : LampTest) (hstage : s.mode.stage ≠ some .lamp) :
    (s.lampPasses sd l).disp sd = { s.disp sd with state := .lit, mismatch := 0, lamp := none } ∧
      (s.lampPasses sd l).disp sd.other = s.disp sd.other ∧ Lands 0 [.display, .exch] s (s.lampPasses sd l) ∧
      (s.lampPasses sd l).exch.nextEvent = if l.fromFault then succ32 s.exch.nextEvent else s.exch.nextEvent := by
  have hpost : ∀ (u : State) x, u.postStatus.disp x = u.disp x := fun u x => by simp [State.disp]
  unfold State.lampPasses
  dsimp only
  rw [lampDone_of_not]
  case h => split <;> simpa using hstage
  generalize hv : s.setDisp sd { s.disp sd with state := .lit, mismatch := 0, lamp := none } = v
  have hself : v.disp sd = { s.disp sd with state := .lit, mismatch := 0, lamp := none } := by simp [← hv]
  have hother : v.disp sd.other = s.disp sd.other := by rw [← hv]; exact State.setDisp_disp_other _ _ _
  have hnext : v.postStatus.exch.nextEvent = s.exch.nextEvent :=
    (events_of_log (State.postStatus_quiet v).1).2.trans (by rw [← hv]; rfl)
  have hlands : Lands 0 [.display] s v := by rw [← hv]; simp [lands_iff]
  rw [lands_iff] at hlands ⊢
  split
  · refine ⟨(hpost v sd).trans hself, (hpost v sd.other).trans hother, ?_, congrArg succ32 hnext⟩
    simp_all
  · refine ⟨(hpost v sd).trans hself, (hpost v sd.other).trans hother, ?_, hnext⟩
    simp_all

end Sys2Proof.Machine

open Sys2Proof Sys2Proof.Machine

/-- Settles O30: each echo of a zero check and of a lamp test, by its step and its pattern. -/
theorem checksAreJudged : Obligations.ChecksAreJudged := by
  unfold Obligations.ChecksAreJudged
  intro dt sd s frame p echo ht hdk hdark
  dsimp only
  refine ⟨fun z hlit hz hl => ⟨fun hp hstep hmatch => ?_, fun o hp hstep hmatch hst ho hn => ⟨fun hwait => ?_, fun c hnone hc => ?_⟩,
      fun i o expected hp hdiff hst ho hn hrec hstage hswap hother => ?_⟩,
    fun l htest hl horder hz hstage => ⟨fun hp hstep => ?_, fun hp hstep hmatch => ?_, fun hp hstep hmatch => ?_,
      fun i expected hp hdiff hsale => ?_⟩⟩
  · subst hp
    refine exec_transferEnd_of_rests ht (by rw [hlit]; decide) (by decide) _ ⟨hdk, ?_, ?_⟩ ?_
    · exact fun l h => absurd (hl.symm.trans h) nofun
    · rintro z' - hz'
      cases hz'
      exact nofun
    · have hjudge : judge (s.disp sd).latched echo = none := by
        rcases hmatch with h | ⟨img, himg, h⟩
        · rw [h]; rfl
        · rw [himg]; exact h
      simp [State.judgeTransfer, State.z1Ends, Purpose.expects, hjudge, hz, hstep, DispSide.zeroAt]
  · obtain ⟨p, hp'⟩ := hwait
    subst hp
    have hexec := exec_transferEnd (dt := dt) (echo := echo) ht (by rw [hlit]; decide)
    rw [latch_of_frame _ (by decide),
      zeroVerifies (latch := { s.disp sd with transfer := none, latched := some frame }) hz hstep hmatch hst ho hn] at hexec
    have hno : ∀ v : State, ((v.setSide sd { s.side sd with needZero := false }).side sd).startReady = false := fun v => by
      rw [State.setSide_side_self]
      cases p <;> simp_all [SideCtl.startReady, PerProduct.get]
    rw [startingTest_of_not (hno _)] at hexec
    have hshown : ∀ y x, (((s.elapse dt).setDisp sd y).setSide sd x).disp sd = y := fun _ _ =>
      State.setDisp_disp_self _ _ _
    refine hexec.trans (congrArg Host.Outcome.next (nextTransfer_of_rests ?_))
    rw [hshown]
    exact rests_of_none hdk hl rfl
  · subst hp
    have hexec := exec_transferEnd (dt := dt) (echo := echo) ht (by rw [hlit]; decide)
    rw [latch_of_frame _ (by decide),
      zeroVerifies (latch := { s.disp sd with transfer := none, latched := some frame }) hz hstep hmatch hst ho hn] at hexec
    generalize hv : ((s.elapse dt).setDisp sd { s.disp sd with
        transfer := none, latched := some frame, zero := none, mismatch := 0 }).setSide sd
          { s.side sd with needZero := false } = v at hexec
    have hvs : v.side sd = { s.side sd with needZero := false } := by rw [← hv, State.setSide_side_self]
    have hvo : v.side sd.other = s.side sd.other := by rw [← hv]; exact State.setSide_side_other _ _ _
    have hvd : v.disp sd = { s.disp sd with transfer := none, latched := some frame, zero := none, mismatch := 0 } := by
      rw [← hv]; exact State.setDisp_disp_self _ _ _
    have hvf : v.fines sd = s.fines sd := by rw [← hv]; rfl
    have hvl : Lands dt [.sides, .display] s v := by rw [← hv]; simp [lands_iff]
    have hready : (v.side sd).startReady = true := by
      have hlow := hnone .low
      have hhigh := hnone .high
      have haux := hnone .aux
      simp [hvs, SideCtl.startReady, hst, PerProduct.get] at hlow hhigh haux ⊢
      exact ⟨⟨hlow, hhigh⟩, haux⟩
    obtain ⟨hneed, hstate⟩ := startingTest_side hready (by rw [hvs]; exact ho) hc
    have hvol : (v.measured sd o c).volume = volumeOf (fineSum (s.fines sd)) := by
      simp only [State.measured, hvf]
      rfl
    have hchecks := startingTest_checks (s := v) (sd := sd) (by rw [hvd])
    have hother := State.startingTest_side_other v sd
    have hlands := startingTest_lands v sd
    rw [hvol] at hneed hstate
    generalize v.startingTest sd = r at *
    simp only [DispSide.checks, hvd, Prod.mk.injEq] at hchecks
    obtain ⟨hzero, hmis, hlatch, hlamp, hgoing⟩ := hchecks
    rw [nextTransfer_of_rests (rests_of_none (hgoing.trans hdk) (hlamp.trans hl) hzero)] at hexec
    refine ⟨r, hexec, ?_, hzero, hmis, hlatch, ?_, hother.trans hvo, hstate⟩
    · rw [lands_iff] at hvl hlands ⊢
      simp_all
    · rw [hneed, hvs]
      simp
  · have hnb : p ≠ .blank := by rcases hp with ⟨rfl, -⟩ | ⟨rfl, -⟩ <;> decide
    have hexec := exec_transferEnd (dt := dt) (echo := echo) ht (by rw [hlit]; decide)
    rw [latch_of_frame _ hnb] at hexec
    generalize hv : (s.elapse dt).setDisp sd { s.disp sd with transfer := none, latched := some frame } = v at hexec
    have hvd : v.disp sd = { s.disp sd with transfer := none, latched := some frame } := by simp [← hv]
    have hvo : v.disp sd.other = s.disp sd.other := by rw [← hv]; exact State.setDisp_disp_other _ _ _
    have hvs : ∀ x, v.side x = s.side x := fun x => by rw [← hv]; rfl
    have hvsale : (v.side sd).sale = some o := by rw [hvs]; exact ho
    have hvm : v.mode = s.mode := by rw [← hv]; rfl
    have hvr : v.records sd = s.records sd := by rw [← hv]; rfl
    have hvn : v.now = s.now + dt := by rw [← hv]; rfl
    rw [zeroEchoFails (by rw [hvd]; exact hz) hp hdiff, displayFails_of_zero (by rw [hvd]; exact hl) (by rw [hvd]; exact hz)
      (by rw [hvs]; exact hst) hvsale hn (by rw [← hv]; exact hswap) (by rw [hvm]; exact hstage)
      (by rw [hvs]; exact hother) (by rw [← hv]; exact hdark)] at hexec
    obtain ⟨hcomp, -, -⟩ := completeSale_display hvsale (some .displayFault)
    have hcside := completeSale_side hvsale (some .displayFault)
    have hcrec := (completeSale_records hvsale hrec (some .displayFault) sd).1
    have hcmode := completeSale_mode hvsale (some .displayFault) (by rw [hvm, hstage]; decide)
    have hcnow : (v.completeSale sd (some .displayFault)).now = v.now := by simp
    obtain ⟨-, hnum, -, hreason⟩ := v.finalRecord_frame sd o (some .displayFault)
    generalize v.completeSale sd (some .displayFault) = w at *
    obtain ⟨hfd, hfo⟩ := displayFault_disp w sd .zeroCheck i
    have hnew := newest_displayFault w sd .zeroCheck i
    have hfnow : (w.displayFault sd .zeroCheck i).now = w.now := by simp
    have hfside : (w.displayFault sd .zeroCheck i).side sd = w.side sd := by simp [State.side]
    have hfrec : (w.displayFault sd .zeroCheck i).records sd = w.records sd := by simp [State.records]
    generalize w.displayFault sd .zeroCheck i = f at *
    rw [nextTransfer_of_sending (by rw [hfd]; rfl)] at hexec
    refine ⟨f, _, hexec, hfnow.trans (hcnow.trans hvn), by rw [hfd], by rw [hfd], by rw [hfd],
      hfo.trans (hcomp.trans hvo), ?_, by rw [hfrec, hcrec, if_pos rfl, hvr], hnum, ?_, ?_⟩
    · rw [hfside, hcside]
      rfl
    · exact hreason
    · rwa [hcmode, hvm] at hnew
  · subst hp
    refine exec_transferEnd_of_rests ht (by rw [htest]; decide) (by decide) _ ⟨hdk, ?_, ?_⟩ ?_
    · rintro l' h
      cases h
      exact ⟨nofun, nofun⟩
    · exact fun z h => absurd h nofun
    · simp [State.judgeTransfer, State.t1Ends, DispSide.testing, hl, hstep, DispSide.lampAt]
  · subst hp
    refine exec_transferEnd_of_rests ht (by rw [htest]; decide) (by decide) _ ⟨hdk, ?_, ?_⟩ ?_
    · rintro l' h
      cases h
      exact ⟨nofun, nofun⟩
    · exact fun z h => absurd h nofun
    · simp [State.judgeTransfer, State.t2Ends, DispSide.testing, hl, hstep, DispSide.lampAt, judge, Purpose.expects, hmatch]
  · subst hp
    have hexec := exec_transferEnd (dt := dt) (echo := echo) ht (by rw [htest]; decide)
    rw [latch_of_frame _ (by decide)] at hexec
    generalize hv : (s.elapse dt).setDisp sd { s.disp sd with transfer := none, latched := some frame } = v at hexec
    have hvd : v.disp sd = { s.disp sd with transfer := none, latched := some frame } := by simp [← hv]
    have hvo : v.disp sd.other = s.disp sd.other := by rw [← hv]; exact State.setDisp_disp_other _ _ _
    have hvn : v.exch.nextEvent = s.exch.nextEvent := by rw [← hv]; rfl
    have hvl : Lands dt [.display] s v := by rw [← hv]; simp [lands_iff]
    have hpass : v.judgeTransfer sd .t3 (s.disp sd).latched.isSome (judge (Purpose.t3.expects (s.disp sd).latched) echo) =
        v.lampPasses sd l := by
      simp [State.judgeTransfer, State.t3Ends, judge, Purpose.expects, hmatch, hvd, hl, hstep]
    rw [hpass] at hexec
    obtain ⟨hself, hother, hlands, hnext⟩ := lampPasses_facts (s := v) (sd := sd) l (by rw [← hv]; exact hstage)
    generalize v.lampPasses sd l = r at *
    rw [hvd] at hself
    rw [nextTransfer_of_rests (by rw [hself]; exact rests_of_none hdk rfl hz)] at hexec
    refine ⟨r, hexec, ?_, hself, hother.trans hvo, by rw [hnext, hvn]⟩
    rw [lands_iff] at hvl hlands ⊢
    simp_all
  · have hnb : p ≠ .blank := by rcases hp with ⟨rfl, -⟩ | ⟨rfl, -⟩ <;> decide
    have hexec := exec_transferEnd (dt := dt) (echo := echo) ht (by rw [htest]; decide)
    rw [latch_of_frame _ hnb] at hexec
    generalize hv : (s.elapse dt).setDisp sd { s.disp sd with transfer := none, latched := some frame } = v at hexec
    have hvd : v.disp sd = { s.disp sd with transfer := none, latched := some frame } := by simp [← hv]
    have hvo : v.disp sd.other = s.disp sd.other := by rw [← hv]; exact State.setDisp_disp_other _ _ _
    have hvs : v.side sd = s.side sd := by rw [← hv]; rfl
    have hvm : v.mode = s.mode := by rw [← hv]; rfl
    have hvl : Lands dt [.display] s v := by rw [← hv]; simp [lands_iff]
    have hlog : v.exch.log = s.exch.log := by rw [← hv]; rfl
    have hlamp : ∀ l', (v.disp sd).lamp = some l' → l'.order = false ∧ v.mode.stage ≠ some .lamp := fun l' h => by
      rw [hvd] at h
      cases hl.symm.trans h
      exact ⟨horder, by rw [hvm]; exact hstage⟩
    have hnone : ∀ st : SideState, st.holdsSale = true → (v.side sd).state ≠ st := fun st hst h => by
      rw [← hvs, h, hst] at hsale
      exact absurd hsale (by decide)
    have hidle : ¬ ((v.side sd).state.delivers = true ∨ (v.side sd).state = .suspended) := by
      rintro (h | h)
      · cases hst : (v.side sd).state <;> simp_all [SideState.holdsSale, SideState.delivers]
      · exact hnone _ rfl h
    rw [lampEchoFails (by rw [hvd]; exact hl) hp hdiff, displayFails_of_idle hlamp (by rw [hvd]; exact hz)
      (hnone _ rfl) (hnone _ rfl) (by rw [← hv]; exact hdark), if_neg hidle] at hexec
    obtain ⟨hfd, hfo⟩ := displayFault_disp v sd .lampTest i
    have hraised := raised_displayFault hlog (congrArg ModeCtl.clock hvm) sd .lampTest i
    have hfl : Lands 0 [.display, .exch] v (v.displayFault sd .lampTest i) := by simp [lands_iff]
    generalize v.displayFault sd .lampTest i = f at *
    rw [nextTransfer_of_sending (by rw [hfd]; rfl)] at hexec
    refine ⟨f, hexec, ?_, by rw [hfd], by rw [hfd], by rw [hfd], hfo.trans hvo, hraised⟩
    rw [lands_iff] at hvl hfl ⊢
    simp_all
end


/-! ### Retests and going dark -/
section
namespace Sys2Proof.Machine

variable {s t u : State} {sd : Side} {dt n : Nat} {ref : Word32}

theorem exec_displayRetest (h : CanTouch s Folio.siteOrder) : exec (.displayRetest dt ref n) s =
    .next ((s.taken dt Folio.siteOrder ref (siteBytes 5 (byte1 n))).serveRetest n) :=
  congrArg _ (State.request_eq h siteOrder_ge _)

/-- An answer that stands while the exchange memory and the clock do. -/
theorem Answered.of_same {f : Folio} {r : Result} {d : Word32} (h : Answered s u f ref r d) (he : t.exch = u.exch)
    (hc : t.mode.clock = u.mode.clock) : Answered s t f ref r d := by
  obtain ⟨hhead, hother, hfresh⟩ := h
  have hh : ∀ g, t.header g = u.header g := fun g => by simp [State.header, he]
  exact ⟨by rw [hh, hc]; exact hhead, fun g hne hg => (hh g).trans (hother g hne hg), by rw [he]; exact hfresh⟩

/-- The transfer that waits, if any, moves a check or a test on by its step alone (R91, R98 to R104). -/
theorem nextTransfer_facts (s : State) (sd : Side) :
    (s.nextTransfer sd).disp sd.other = s.disp sd.other ∧
      ((s.nextTransfer sd).disp sd).state = (s.disp sd).state ∧
      ((s.nextTransfer sd).disp sd).goingDark = (s.disp sd).goingDark ∧
      ∃ step : LampStep → LampStep, ((s.nextTransfer sd).disp sd).lamp = (s.disp sd).lamp.map fun l => { l with step := step l.step } := by
  have hmap : ∀ x : Option LampTest, x = x.map fun l => { l with step := id l.step } := fun x => by cases x <;> rfl
  unfold State.nextTransfer
  dsimp only
  split
  · exact ⟨rfl, rfl, rfl, id, hmap _⟩
  · split
    · refine ⟨State.setDisp_disp_other _ _ _, ?_⟩
      simp only [State.startTransfer, State.setDisp_disp_self]
      exact ⟨trivial, trivial, id, hmap _⟩
    · have hlamp : ∀ (l : LampTest) step frame p, (s.disp sd).lamp = some l →
          (((s.setDisp sd ((s.disp sd).lampAt step)).startTransfer sd frame p).disp sd.other = s.disp sd.other ∧
            (((s.setDisp sd ((s.disp sd).lampAt step)).startTransfer sd frame p).disp sd).state = (s.disp sd).state ∧
            (((s.setDisp sd ((s.disp sd).lampAt step)).startTransfer sd frame p).disp sd).goingDark =
              (s.disp sd).goingDark ∧
            ∃ f : LampStep → LampStep, (((s.setDisp sd ((s.disp sd).lampAt step)).startTransfer sd frame p).disp sd).lamp =
              (some l).map fun l => { l with step := f l.step }) := fun l step frame p hl => by
        simp only [State.startTransfer, State.setDisp_disp_self, State.setDisp_disp_other, DispSide.lampAt, hl]
        exact ⟨trivial, trivial, trivial, fun _ => step, rfl⟩
      split
      case h_1 l hl =>
        rw [hl]
        split
        · exact hlamp l _ _ _ hl
        · exact hlamp l _ _ _ hl
        · exact ⟨rfl, rfl, rfl, id, by rw [hl]; rfl⟩
      case h_2 hl =>
        split
        · split
          · simp only [State.startTransfer, State.setDisp_disp_self, State.setDisp_disp_other, DispSide.zeroAt, hl]
            exact ⟨trivial, trivial, trivial, id, rfl⟩
          · exact ⟨rfl, rfl, rfl, id, hmap _⟩
        · exact ⟨rfl, rfl, rfl, id, hmap _⟩

/-- The lamp test of a side in FAULT begins at once (R102). -/
theorem beginLamp_of_fault (h : (s.disp sd).state = .fault) (order : Bool) :
    (s.beginLamp sd order).disp sd.other = s.disp sd.other ∧ ((s.beginLamp sd order).disp sd).state = .testing ∧
      ∃ step, ((s.beginLamp sd order).disp sd).lamp = some ⟨step, true, false⟩ := by
  have hpost : ∀ (u : State) x, u.postStatus.disp x = u.disp x := fun u x => by simp [State.disp]
  obtain ⟨hother, hstate, -, step, hlamp⟩ := nextTransfer_facts
    ((s.setDisp sd { s.disp sd with state := .testing, lamp := some ⟨.wait, true, false⟩ }).postStatus) sd
  simp only [State.beginLamp, h]
  rw [hpost, State.setDisp_disp_other] at hother
  rw [hpost, State.setDisp_disp_self] at hstate hlamp
  exact ⟨hother, hstate, _, hlamp⟩

/-- The retest of a LIT side waits for a blanking transfer, or joins the lamp test that waits for one (R102). -/
theorem beginLamp_of_lit (h : (s.disp sd).state = .lit) :
    (s.beginLamp sd true).disp sd.other = s.disp sd.other ∧ ((s.beginLamp sd true).disp sd).state = .lit ∧
      (∃ l, ((s.beginLamp sd true).disp sd).lamp = some l ∧ l.order = true) ∧ (s.beginLamp sd true).exch = s.exch := by
  cases hl : (s.disp sd).lamp with
  | some l =>
    have he : s.beginLamp sd true = s.setDisp sd { s.disp sd with lamp := some { l with order := l.order || true } } := by
      simp only [State.beginLamp, h, hl]
    rw [he, State.setDisp_disp_self, State.setDisp_disp_other]
    exact ⟨rfl, h, ⟨_, rfl, by simp⟩, rfl⟩
  | none =>
    have he : s.beginLamp sd true =
        (s.setDisp sd { s.disp sd with lamp := some ⟨.blankWait, false, true⟩ }).nextTransfer sd := by
      simp only [State.beginLamp, h, hl]
    obtain ⟨hother, hstate, -, step, hlamp⟩ := nextTransfer_facts
      (s.setDisp sd { s.disp sd with lamp := some ⟨.blankWait, false, true⟩ }) sd
    rw [State.setDisp_disp_other] at hother
    rw [State.setDisp_disp_self] at hstate hlamp
    rw [he]
    exact ⟨hother, hstate.trans h, ⟨_, hlamp, rfl⟩, State.nextTransfer_exch _ _⟩

/-- A side that goes dark abandons its lamp test and blanks, at once unless a transfer is in progress (R104). -/
theorem darkenSide_facts (s : State) (sd : Side) :
    (s.darkenSide sd).disp sd.other = s.disp sd.other ∧ ((s.darkenSide sd).disp sd).lamp = none ∧
      ((s.darkenSide sd).disp sd).goingDark = true ∧
      (s.darkenSide sd).exch = (s.releaseRetest sd).exch ∧
      ((s.disp sd).transfer = none → ((s.darkenSide sd).disp sd).transfer = some ⟨allOff, .blank⟩) := by
  have hshow : ∀ x, (s.releaseRetest sd).disp x = s.disp x := fun x => by simp [State.disp]
  obtain ⟨hother, -, hdark, step, hlamp⟩ := nextTransfer_facts ((s.releaseRetest sd).setDisp sd
    { (s.releaseRetest sd).disp sd with lamp := none, holdT := none, goingDark := true }) sd
  rw [State.setDisp_disp_other] at hother
  rw [State.setDisp_disp_self] at hdark hlamp
  refine ⟨hother.trans (hshow _), hlamp, hdark, ?_, fun hidle => ?_⟩
  · simp [State.darkenSide]
  · simp [State.darkenSide, State.nextTransfer, State.startTransfer, State.setDisp_disp_self, hshow, hidle]

theorem releaseRetest_of_order {l : LampTest} (hl : (s.disp sd).lamp = some l) (ho : l.order = true) :
    s.releaseRetest sd = s.handOver Folio.siteOrder .done := by
  simp [State.releaseRetest, hl, ho]

theorem releaseRetest_of_not {l : LampTest} (hl : (s.disp sd).lamp = some l) (ho : l.order = false) :
    s.releaseRetest sd = s := by
  simp [State.releaseRetest, hl, ho]

theorem darkenSide_lands (s : State) (sd : Side) : Lands 0 [.display, .exch] s (s.darkenSide sd) := by
  simp [lands_iff]

/-! #### The retest's forms -/

theorem retestRefused_iff (s : State) (sd : Side) : s.retestRefused sd = true ↔ (s.disp sd).state = .dark ∨
    (s.disp sd).state = .testing ∨ s.display.supply = false ∨ (s.side sd).state.hasFrames = true := by
  simp [State.retestRefused, or_assoc]

/-- A retest that is refused neither by its side code nor by the side (R102). -/
theorem serveRetest_of_not (h : Side.ofNumber n = some sd) (hno : s.retestRefused sd = false) (hdark : s.display.darkening = false) :
    ((s.disp sd).state = .lit → s.serveRetest n = s.beginLamp sd true) ∧
      ((s.disp sd).state = .fault → s.serveRetest n = (s.beginLamp sd false).handOver Folio.siteOrder .done) := by
  have hlamp : ∀ order, (s.beginLamp sd order).display.darkening = s.display.darkening := fun order =>
    (congrArg Display.darkening (State.beginLamp_plant s sd order) : _)
  refine ⟨fun hst => ?_, fun hst => ?_⟩
  · simp [State.serveRetest, h, hno, hst, hlamp, hdark]
  · simp [State.serveRetest, h, hno, hst, hlamp, hdark]

/-- A retest taken as the displays go dark (R104). -/
theorem serveRetest_of_darkening (h : Side.ofNumber n = some sd) (hno : s.retestRefused sd = false) (hdark : s.display.darkening = true) :
    ((s.disp sd).state = .lit → s.serveRetest n = (s.beginLamp sd true).darkenSide sd) ∧
      ((s.disp sd).state = .fault →
        s.serveRetest n = ((s.beginLamp sd false).handOver Folio.siteOrder .done).darkenSide sd) := by
  have hlamp : ∀ order, (s.beginLamp sd order).display.darkening = s.display.darkening := fun order =>
    (congrArg Display.darkening (State.beginLamp_plant s sd order) : _)
  refine ⟨fun hst => ?_, fun hst => ?_⟩
  · simp [State.serveRetest, h, hno, hst, hlamp, hdark]
  · simp [State.serveRetest, h, hno, hst, hlamp, hdark]

/-! #### The dark timer -/

theorem exec_darkDelay {d : Nat} (hd : s.display.darkT = some d) (hle : d ≤ s.now + dt) :
    exec (.darkDelay dt) s = .next (s.elapse dt).darkExpire.darkReport :=
  congrArg Host.Outcome.next (if_pos ((Timer.due_iff _ _).2 ⟨d, hd, hle⟩))

theorem darkenAtExpiry_of_not (hl : (s.disp sd).state ≠ .lit) (ht : (s.disp sd).state ≠ .testing) :
    s.darkenAtExpiry sd = s := by
  unfold State.darkenAtExpiry
  split
  · exact absurd ‹_› hl
  · exact absurd ‹_› ht
  · rfl

theorem darkenAtExpiry_other (s : State) (sd : Side) : (s.darkenAtExpiry sd).disp sd.other = s.disp sd.other := by
  unfold State.darkenAtExpiry
  split
  · exact (darkenSide_facts s sd).1
  · exact (darkenSide_facts s sd).1
  · rfl

theorem darkenAtExpiry_plant (s : State) (sd : Side) : (s.darkenAtExpiry sd).display.plant = s.display.plant := by
  unfold State.darkenAtExpiry
  split <;> simp

theorem darkenAtExpiry_lands (s : State) (sd : Side) : Lands 0 [.display, .exch] s (s.darkenAtExpiry sd) := by
  simp [lands_iff]

/-- At the dark timer's expiry a LIT side with no transfer in progress blanks (R104). -/
theorem darkExpire_of_lit (h : (s.disp sd).state = .lit) (hidle : (s.disp sd).transfer = none) :
    (s.darkExpire.disp sd).goingDark = true ∧ (s.darkExpire.disp sd).transfer = some ⟨allOff, .blank⟩ ∧
      s.darkExpire.display.plant = { s.display with darkT := none, darkening := true }.plant ∧
      Lands 0 [.display, .exch] s s.darkExpire := by
  generalize hv : ({ s with display := { s.display with darkT := none, darkening := true } } : State) = v
  have he : s.darkExpire = (v.darkenAtExpiry .a).darkenAtExpiry .b := by rw [← hv]; rfl
  have hvd : ∀ x, v.disp x = s.disp x := fun x => by rw [← hv]; rfl
  have hblank : ∀ w : State, w.disp sd = s.disp sd → ((w.darkenAtExpiry sd).disp sd).goingDark = true ∧
      ((w.darkenAtExpiry sd).disp sd).transfer = some ⟨allOff, .blank⟩ := fun w hw => by
    have hd : w.darkenAtExpiry sd = w.darkenSide sd := by simp [State.darkenAtExpiry, hw, h]
    obtain ⟨-, -, hdark, -, htrans⟩ := darkenSide_facts w sd
    rw [hd]
    exact ⟨hdark, htrans (by rw [hw]; exact hidle)⟩
  have hplant : s.darkExpire.display.plant = v.display.plant := by
    rw [he, darkenAtExpiry_plant, darkenAtExpiry_plant]
  have hl : Lands 0 [.display, .exch] s v := by rw [← hv]; simp [lands_iff]
  have hlands : Lands 0 [.display, .exch] s s.darkExpire := by simp [lands_iff]
  refine ⟨?_, ?_, hplant.trans (by rw [← hv]), hlands⟩
  all_goals
    rw [he]
    cases sd
    case b => simp only [hblank (v.darkenAtExpiry .a) ((darkenAtExpiry_other v .a).trans (hvd _))]
    case a =>
      rw [show ((v.darkenAtExpiry .a).darkenAtExpiry .b).disp .a = (v.darkenAtExpiry .a).disp .a from
        darkenAtExpiry_other (v.darkenAtExpiry .a) .b]
      simp only [hblank v (hvd _)]

end Sys2Proof.Machine

open Sys2Proof Sys2Proof.Machine

/-- Settles O31: the retest's refusals and forms, and the sides as the dark timer finds them. -/
theorem displaysAreRetestedAndGoDark : Obligations.DisplaysAreRetestedAndGoDark := by
  unfold Obligations.DisplaysAreRetestedAndGoDark
  refine ⟨fun dt ref n s hs => ?_, fun dt s d hd hle => ⟨fun hall hstage => ?_, fun sd hlit hidle => ?_⟩⟩
  · have hexec := exec_displayRetest (dt := dt) (ref := ref) (n := n) hs
    generalize hbytes : siteBytes 5 (byte1 n) = bytes at hexec
    generalize hu : s.taken dt Folio.siteOrder ref bytes = u at hexec
    have hud : ∀ x, u.disp x = s.disp x := fun x => by simp [State.disp, ← hu]
    have hus : ∀ x, u.side x = s.side x := fun x => by simp [State.side, ← hu]
    have hup : u.display = s.display := by simp [← hu]
    have hul : Lands dt [.exch] s u := by simp [lands_iff, ← hu]
    have hhead : u.header Folio.siteOrder = _ := hu ▸ (s.taken_header dt bytes (ref := ref) hs.2).1
    refine ⟨fun hn => ⟨_, hexec, refused_of (dt := dt) (bytes := bytes) hs siteOrder_ge ?_⟩, fun sd hn =>
      ⟨fun hwhy => ⟨_, hexec, refused_of (dt := dt) (bytes := bytes) hs siteOrder_ge ?_⟩,
        fun hsupply hframes hdark hst => ?_, fun hsupply hframes hdark => ⟨fun hst => ?_, fun hst => ?_⟩⟩⟩
    · rw [hu]
      simp [State.serveRetest, hn]
    · have hno : u.retestRefused sd = true := (retestRefused_iff u sd).2 (by rwa [hud, hus, hup])
      rw [hu]
      simp [State.serveRetest, hn, hno]
    · have hno : u.retestRefused sd = false := by
        rw [Bool.eq_false_iff, Ne, retestRefused_iff, hud, hus, hup]
        rcases hst with h | h <;> simp [h, hsupply, hframes]
      obtain ⟨hserveLit, hserveFault⟩ := serveRetest_of_darkening hn hno (by rw [hup]; exact hdark)
      rcases hst with hst | hst
      · obtain ⟨hbo, -, ⟨l, hbl, horder⟩, hbe⟩ := beginLamp_of_lit (s := u) (sd := sd) (by rw [hud]; exact hst)
        have hbf : Lands 0 [.display] u (u.beginLamp sd true) := by simp [lands_iff, hbe]
        rw [hserveLit (by rw [hud]; exact hst)] at hexec
        have hans := answered_handOver (dt := dt) (ref := ref) (bytes := bytes) (u := u.beginLamp sd true) hs siteOrder_ge
          (by rw [hbe, hu]) .done 0
        generalize u.beginLamp sd true = v at *
        obtain ⟨hdo, hdl, hdg, hde, -⟩ := darkenSide_facts v sd
        have hdf := darkenSide_lands v sd
        have hclock : (v.darkenSide sd).mode.clock = v.mode.clock := by simp
        rw [releaseRetest_of_order hbl horder] at hde
        generalize v.darkenSide sd = r at *
        refine ⟨r, hexec, ?_, hdl, hdg, hdo.trans (hbo.trans (hud _)), hans.of_same hde (by simpa using hclock)⟩
        rw [lands_iff] at hul hbf hdf ⊢
        simp_all
      · obtain ⟨hbo, -, step, hbl⟩ := beginLamp_of_fault (s := u) (sd := sd) (by rw [hud]; exact hst) false
        have hbf : Lands 0 [.display, .exch] u (u.beginLamp sd false) := by simp [lands_iff]
        rw [hserveFault (by rw [hud]; exact hst)] at hexec
        have hans := answered_handOver (dt := dt) (ref := ref) (bytes := bytes) (u := u.beginLamp sd false) hs siteOrder_ge
          (by rw [(State.beginLamp_quiet u sd false).2, hu]) .done 0
        generalize u.beginLamp sd false = v at *
        have hshow : ∀ x, (v.handOver Folio.siteOrder .done).disp x = v.disp x := fun x => by simp [State.disp]
        have hhf : Lands 0 [.exch] v (v.handOver Folio.siteOrder .done) := by simp [lands_iff]
        generalize v.handOver Folio.siteOrder .done = w at *
        obtain ⟨hdo, hdl, hdg, hde, -⟩ := darkenSide_facts w sd
        have hdf := darkenSide_lands w sd
        have hclock : (w.darkenSide sd).mode.clock = w.mode.clock := by simp
        rw [releaseRetest_of_not ((congrArg DispSide.lamp (hshow sd)).trans hbl) rfl] at hde
        generalize w.darkenSide sd = r at *
        refine ⟨r, hexec, ?_, hdl, hdg, hdo.trans ((hshow _).trans (hbo.trans (hud _))), hans.of_same hde hclock⟩
        rw [lands_iff] at hul hbf hhf hdf ⊢
        simp_all
    · have hno : u.retestRefused sd = false := by
        rw [Bool.eq_false_iff, Ne, retestRefused_iff, hud, hus, hup]
        simp [hst, hsupply, hframes]
      obtain ⟨-, hserve⟩ := serveRetest_of_not hn hno (by rw [hup]; exact hdark)
      obtain ⟨hbo, hbs, step, hbl⟩ := beginLamp_of_fault (s := u) (sd := sd) (by rw [hud]; exact hst) false
      have hbf : Lands 0 [.display, .exch] u (u.beginLamp sd false) := by simp [lands_iff]
      rw [hserve (by rw [hud]; exact hst)] at hexec
      have hans := answered_handOver (dt := dt) (ref := ref) (bytes := bytes) (u := u.beginLamp sd false) hs siteOrder_ge
        (by rw [(State.beginLamp_quiet u sd false).2, hu]) .done 0
      generalize u.beginLamp sd false = v at *
      have hshow : ∀ x, (v.handOver Folio.siteOrder .done).disp x = v.disp x := fun x => by simp [State.disp]
      have hhf : Lands 0 [.exch] v (v.handOver Folio.siteOrder .done) := by simp [lands_iff]
      generalize v.handOver Folio.siteOrder .done = r at *
      refine ⟨r, _, hexec, ?_, by rw [hshow, hbs], (congrArg DispSide.lamp (hshow _)).trans hbl, rfl,
        (hshow _).trans (hbo.trans (hud _)), hans⟩
      rw [lands_iff] at hul hbf hhf ⊢
      simp_all
    · have hno : u.retestRefused sd = false := by
        rw [Bool.eq_false_iff, Ne, retestRefused_iff, hud, hus, hup]
        simp [hst, hsupply, hframes]
      obtain ⟨hserve, -⟩ := serveRetest_of_not hn hno (by rw [hup]; exact hdark)
      obtain ⟨hbo, hbs, ⟨l, hbl, horder⟩, hbe⟩ := beginLamp_of_lit (s := u) (sd := sd) (by rw [hud]; exact hst)
      have hbf : Lands 0 [.display] u (u.beginLamp sd true) := by simp [lands_iff, hbe]
      have hbh : (u.beginLamp sd true).header Folio.siteOrder = u.header Folio.siteOrder := by simp [State.header, hbe]
      rw [hserve (by rw [hud]; exact hst)] at hexec
      generalize u.beginLamp sd true = r at *
      refine ⟨r, l, hexec, ?_, hbs, hbl, horder, hbo.trans (hud _), ?_⟩
      · rw [lands_iff] at hul hbf ⊢
        simp_all
      · rw [Held, hbh, hhead]
        exact ⟨rfl, rfl⟩
  · have hx : ∀ (x : Side) (v : State), v.disp x = s.disp x → v.darkenAtExpiry x = v := fun x v hv => by
      obtain ⟨hst, -⟩ := hall x
      refine darkenAtExpiry_of_not ?_ ?_ <;> rw [hv] <;> rcases hst with h | h <;> rw [h] <;> decide
    generalize hv : ({ s.elapse dt with display := { s.display with darkT := none, darkening := true } } : State) = v
    have hvd : ∀ x, v.disp x = s.disp x := fun x => by rw [← hv]; rfl
    have he : (s.elapse dt).darkExpire = v := by
      refine (show (s.elapse dt).darkExpire = (v.darkenAtExpiry .a).darkenAtExpiry .b by rw [← hv]; rfl).trans ?_
      rw [hx .a v (hvd _), hx .b v (hvd _)]
    have hreport : v.darkReport = { v with display := { v.display with supply := false, darkening := false } } := by
      have hm : v.mode = s.mode := by rw [← hv]; rfl
      have hon : v.display.darkening = true := by rw [← hv]
      simp [State.darkReport, hvd, (hall _).2, hm, hstage, hon]
    refine ⟨_, (exec_darkDelay hd hle).trans (congrArg _ ((congrArg _ he).trans hreport)), ?_, ?_⟩
    · rw [← hv]
      simp [lands_iff]
    · rw [← hv]
  · obtain ⟨hdark, htrans, hplant, hlands⟩ := darkExpire_of_lit (s := s.elapse dt) (sd := sd) hlit hidle
    have hexec := exec_darkDelay hd hle
    generalize (s.elapse dt).darkExpire = v at *
    have hreport : v.darkReport = v := by
      cases sd <;> simp [State.darkReport, hdark]
    rw [hreport] at hexec
    rw [Display.plant_iff] at hplant
    obtain ⟨hsupply, -, -, -, -, hT, -⟩ := hplant
    refine ⟨v, hexec, ?_, hdark, htrans, hsupply, hT⟩
    rw [lands_iff] at hlands ⊢
    simp_all
end


/-! ### Polling -/
section
namespace Sys2Proof.Machine

variable {s t u : State} {sd : Side} {dt : Nat} {g : GateCtl} {i : ModuleId} {a : Addressing} {d : DownlinkInFlight}
  {f : Frame} {c : Instr}

@[simp] theorem State.setGate_setGate (s : State) (sd : Side) (x y : GateCtl) :
    (s.setGate sd x).setGate sd y = s.setGate sd y := by cases sd <;> rfl

@[simp] theorem State.setGate_self (s : State) (sd : Side) : s.setGate sd (s.gate sd) = s := by cases sd <;> rfl

@[simp] theorem GateCtl.setMod_mod (g : GateCtl) (i : ModuleId) (m : Module) : (g.setMod i m).mod i = m := by
  cases i <;> rfl

@[simp] theorem GateCtl.setMod_self (g : GateCtl) (i : ModuleId) : g.setMod i (g.mod i) = g := by cases i <;> rfl

@[simp] theorem GateCtl.setMod_frame (g : GateCtl) (i : ModuleId) (m : Module) :
    (g.setMod i m).state = g.state ∧ (g.setMod i m).trip = g.trip ∧ (g.setMod i m).power = g.power ∧
      (g.setMod i m).restartUsed = g.restartUsed ∧ (g.setMod i m).restart = g.restart ∧
      (g.setMod i m).addressing = g.addressing ∧ (g.setMod i m).receiver = g.receiver ∧
      (g.setMod i m).queue = g.queue ∧ (g.setMod i m).downlink = g.downlink ∧
      (g.setMod i m).admission = g.admission ∧ (g.setMod i m).divisor = g.divisor := by
  cases i <;> exact ⟨rfl, rfl, rfl, rfl, rfl, rfl, rfl, rfl, rfl, rfl, rfl⟩

/-! #### A module is addressed -/

/-- The downlink in flight goes to an ACTIVE module (R114). -/
def GateCtl.carries (g : GateCtl) (i : ModuleId) (d : DownlinkInFlight) : Prop :=
  g.downlink = some d ∧ d.mod = i ∧ (g.mod i).status = some .active

/-- The control flags of a frame to a module, with the pending answer flag (R114). -/
def Module.flags (m : Module) (cls : FrameClass) (toggle : Bool) : Control :=
  ⟨cls, toggle, decide (m.flag = .ack), decide (m.flag = .busy), decide (m.flag = .reject)⟩

/-- A gate that has polled a module. -/
def GateCtl.polledWith (g : GateCtl) (i : ModuleId) (deadline : Nat) : GateCtl :=
  { g.setMod i { g.mod i with flag := .none } with
    addressing := some
      { mod := i, sent := partFrame i.addr ((g.mod i).flags .poll (g.mod i).downToggle) [], isDownlink := false
        deadline := deadline } }

/-- A gate that has sent a module its downlink. -/
def GateCtl.sentWith (g : GateCtl) (i : ModuleId) (d : DownlinkInFlight) (deadline : Nat) : GateCtl :=
  { g.setMod i { g.mod i with flag := .none } with
    downlink := some { d with sends := d.sends + 1 }
    addressing := some
      { mod := i, sent := partFrame i.addr ((g.mod i).flags d.cls d.toggle) d.payload, isDownlink := true
        deadline := deadline } }

theorem frameFor_of_not (h : ∀ d, ¬ g.carries i d) :
    g.frameFor i = (partFrame i.addr ((g.mod i).flags .poll (g.mod i).downToggle) [], false) := by
  unfold GateCtl.frameFor
  dsimp only
  split
  case h_1 d hd => exact if_neg fun hc => h d ⟨hd, hc.1, hc.2⟩
  case h_2 => rfl

theorem frameFor_of_carries (h : g.carries i d) :
    g.frameFor i = (partFrame i.addr ((g.mod i).flags d.cls d.toggle) d.payload, true) := by
  obtain ⟨hd, hmod, hactive⟩ := h
  unfold GateCtl.frameFor
  simp only [hd]
  exact if_pos ⟨hmod, hactive⟩

/-- A POLL (R114). -/
theorem address_of_not (h : ∀ d, ¬ (u.gate sd).carries i d) : u.address sd i = u.setGate sd ((u.gate sd).polledWith i
    (u.now + charMicros (u.gate sd).divisor 5 + millis u.cfg.answerTimeout)) := by
  unfold State.address
  dsimp only
  rw [frameFor_of_not h]
  cases i <;> rfl

/-- A downlink (R114, R130). -/
theorem address_of_carries (h : (u.gate sd).carries i d) : u.address sd i = u.setGate sd ((u.gate sd).sentWith i d
    (u.now + charMicros (u.gate sd).divisor (5 + d.payload.length) + millis u.cfg.answerTimeout)) := by
  unfold State.address
  dsimp only
  rw [frameFor_of_carries h]
  simp only [h.1]
  rfl

/-! #### An exchange ends -/

theorem endExchange_of_some (h : (u.gate sd).addressing = some a) (i : ModuleId) :
    u.endExchange sd i = u.pollFrom sd i.following := by
  simp [State.endExchange, h]

theorem pollFrom_of_polled (h : ((u.gate sd).mod i).polled = true) (l : List ModuleId) :
    u.pollFrom sd (i :: l) = u.address sd i := if_pos h

theorem pollFrom_of_not (h : ((u.gate sd).mod i).polled = false) (l : List ModuleId) :
    u.pollFrom sd (i :: l) = u.pollFrom sd l := if_neg (by rw [h]; decide)

/-- What follows an exchange changes, of the gate, the module addressed next and the downlink in flight for it (R114). -/
theorem endExchange_gate (u : State) (sd : Side) (i : ModuleId) : ∃ x m b,
    u.endExchange sd i = u.setGate sd { u.gate sd with addressing := x, keypad := m, downlink := b } ∧
      (i = .keypad → m = (u.gate sd).keypad) ∧ ((u.gate sd).addressing = none → x = none) ∧
      ((∀ d, (u.gate sd).downlink = some d → d.mod = i) → b = (u.gate sd).downlink) := by
  cases ha : (u.gate sd).addressing with
  | none =>
    refine ⟨none, (u.gate sd).keypad, (u.gate sd).downlink, ?_, fun _ => rfl, fun _ => rfl, fun _ => rfl⟩
    have hself : ({ u.gate sd with addressing := none } : GateCtl) = u.gate sd := by rw [← ha]
    exact (show u.endExchange sd i = u by simp [State.endExchange, ha]).trans
      ((State.setGate_self u sd).symm.trans (congrArg (u.setGate sd) hself.symm))
  | some a =>
    have hstop : ∃ x m b, u.setGate sd { u.gate sd with addressing := none } =
          u.setGate sd { u.gate sd with addressing := x, keypad := m, downlink := b } ∧
        m = (u.gate sd).keypad ∧ b = (u.gate sd).downlink := ⟨none, _, _, rfl, rfl, rfl⟩
    obtain ⟨x, m, b, hx, hm, hb⟩ := hstop
    rw [endExchange_of_some ha]
    cases i with
    | keypad => exact ⟨x, m, b, hx, fun _ => hm, nofun, fun _ => hb⟩
    | card =>
      cases hp : ((u.gate sd).mod .keypad).polled with
      | false => exact ⟨x, m, b, (pollFrom_of_not hp _).trans hx, fun _ => hm, nofun, fun _ => hb⟩
      | true =>
        rw [show ModuleId.card.following = [.keypad] from rfl, pollFrom_of_polled hp]
        by_cases hc : ∃ d, (u.gate sd).carries .keypad d
        · obtain ⟨d, hd⟩ := hc
          refine ⟨_, _, _, address_of_carries hd, nofun, nofun, fun hmod => ?_⟩
          exact absurd ((hmod d hd.1).symm.trans hd.2.1) (by decide)
        · exact ⟨_, _, _, address_of_not (not_exists.1 hc), nofun, nofun, fun _ => rfl⟩

/-! #### The commands of the link -/

/-- A good frame from the module being addressed (R113, R115). -/
theorem exec_answerFrame (hp : (s.gate sd).power = true) (ha : (s.gate sd).addressing = some a)
    (hr : (s.gate sd).receiver ≠ .resync) (hg : frameGood f = true) :
    exec (.answerFrame dt sd f) s = .next (((s.elapse dt).goodAnswer sd a f).afterGate sd (s.gate sd).state) := by
  have hel : (s.elapse dt).gate sd = s.gate sd := rfl
  have haw : ((s.elapse dt).gate sd).awaited = some a := by rw [hel, GateCtl.awaited, if_pos hp, ha]
  refine congrArg Host.Outcome.next ?_
  rw [haw, hel]
  exact (if_neg hr).trans (congrArg (fun v => State.afterGate v sd (s.gate sd).state) (if_pos hg))

/-- A command by which an awaited answer is missed, the receiver as it leaves it (R113, R114). -/
def missesAnswer (dt : Nat) (sd : Side) (s : State) (a : Addressing) (c : Instr) : Prop :=
  (c = .answerTimeout dt sd ∧ a.deadline ≤ s.now + dt) ∨
    (c ∈ [Instr.breakOff dt sd, .receiveError dt sd] ∧ (s.gate sd).receiver ≠ .resync)

/-- An answer is missed; a receive error has the receiver rest first (R113, R114). -/
theorem exec_missed (hp : (s.gate sd).power = true) (ha : (s.gate sd).addressing = some a)
    (hc : missesAnswer dt sd s a c) : ∃ r, exec c s = .next ((((s.elapse dt).setGate sd
      { s.gate sd with receiver := r }).missAnswer sd a).afterGate sd (s.gate sd).state) ∧
        (c = .answerTimeout dt sd → r = (s.gate sd).receiver) := by
  have hel : (s.elapse dt).gate sd = s.gate sd := rfl
  have haw : ∀ x, ({ s.gate sd with receiver := x } : GateCtl).awaited = some a := fun x => by
    rw [GateCtl.awaited, if_pos hp, ha]
  have hself : (s.elapse dt).setGate sd { s.gate sd with receiver := (s.gate sd).receiver } = s.elapse dt :=
    State.setGate_self (s.elapse dt) sd
  rcases hc with ⟨rfl, hdead⟩ | ⟨hc, hr⟩
  · refine ⟨(s.gate sd).receiver, congrArg Host.Outcome.next ?_, fun _ => rfl⟩
    rw [hself, hel, haw (s.gate sd).receiver]
    exact if_pos hdead
  · rcases List.mem_pair.1 hc with rfl | rfl
    · refine ⟨(s.gate sd).receiver, congrArg Host.Outcome.next ?_, fun _ => rfl⟩
      rw [hself, hel, haw (s.gate sd).receiver]
      exact if_neg hr
    · refine ⟨.resync, congrArg Host.Outcome.next ?_, nofun⟩
      have hready : ¬ (!((s.elapse dt).gate sd).power || decide (((s.elapse dt).gate sd).receiver = .resync)) = true := by
        simp [hel, hp, hr]
      refine (if_neg hready).trans ?_
      rw [hel, haw (s.gate sd).receiver]
      exact congrArg (State.afterGate _ sd) ((congrArg GateCtl.state (State.setGate_gate_self _ _ _)).trans rfl)

end Sys2Proof.Machine

open Sys2Proof Sys2Proof.Machine

/-- Settles O35: the module each cycle and each exchange addresses, and with which frame. -/
theorem pollCyclesBegin : Obligations.PollCyclesBegin := by
  unfold Obligations.PollCyclesBegin
  intro dt sd s hp
  dsimp only
  have hel : (s.elapse dt).gate sd = s.gate sd := rfl
  have haddress : ∀ (c : Instr) (g : GateCtl) (i : ModuleId), g.divisor = (s.gate sd).divisor →
      exec c s = .next (((s.elapse dt).setGate sd g).address sd i) →
      ((∀ d, ¬ g.carries i d) → exec c s = .next ((s.elapse dt).setGate sd (g.polledWith i
        (s.now + dt + charMicros (s.gate sd).divisor 5 + millis s.exch.config.answerTimeout)))) ∧
      ∀ d, g.carries i d → exec c s = .next ((s.elapse dt).setGate sd (g.sentWith i d
        (s.now + dt + charMicros (s.gate sd).divisor (5 + d.payload.length) + millis s.exch.config.answerTimeout))) :=
    fun c g i hdiv hexec => by
      refine ⟨fun h => ?_, fun d h => ?_⟩
      · rw [hexec, address_of_not (by rw [State.setGate_gate_self]; exact h), State.setGate_gate_self,
          State.setGate_setGate, hdiv]
        rfl
      · rw [hexec, address_of_carries (by rw [State.setGate_gate_self]; exact h), State.setGate_gate_self,
          State.setGate_setGate, hdiv]
        rfl
  refine ⟨fun hidle hdue => ?_, fun a c m ha hnodown hstage hc => ?_, fun hrest => ?_⟩
  · have hready : (s.gate sd).pollReady (s.now + dt) = true := by
      have : (match (s.gate sd).pollDue with | some t => decide (t ≤ s.now + dt) | none => true) = true := by
        split
        case h_1 t ht => exact decide_eq_true (hdue t ht)
        case h_2 => rfl
      simp only [GateCtl.pollReady, hp, hidle, Option.isNone_none, Bool.and_self, Bool.true_and]
      exact this
    let g : GateCtl := { s.gate sd with
      cycleAt := some (s.now + dt), pollDue := some (s.now + dt + millis s.exch.config.pollInterval) }
    have hexec : exec (.pollCycleStart dt sd) s = .next (((s.elapse dt).setGate sd g).pollFrom sd [.card, .keypad]) :=
      congrArg Host.Outcome.next (if_pos hready)
    have hdiv : g.divisor = (s.gate sd).divisor := rfl
    have hnone : ({ g with addressing := none } : GateCtl) = g :=
      congrArg (fun x => ({ g with addressing := x } : GateCtl)) hidle.symm
    have hself : ((s.elapse dt).setGate sd g).gate sd = g := State.setGate_gate_self _ _ _
    refine ⟨fun hcard => ?_, fun hcard hkey => ?_, fun hcard hkey => ?_⟩
    · exact haddress _ g .card hdiv (hexec.trans (congrArg _ (pollFrom_of_polled (by rw [hself]; exact hcard) _)))
    · refine haddress _ g .keypad hdiv (hexec.trans (congrArg _ ?_))
      rw [pollFrom_of_not (by rw [hself]; exact hcard), pollFrom_of_polled (by rw [hself]; exact hkey)]
    · rw [hexec, pollFrom_of_not (by rw [hself]; exact hcard), pollFrom_of_not (by rw [hself]; exact hkey)]
      rw [State.pollFrom, hself, State.setGate_setGate, hnone]
  · let g := (s.gate sd).setMod a.mod m
    have hg : (s.gate sd).setMod a.mod m = g := rfl
    generalize hv : (s.elapse dt).setGate sd g = v
    have hvg : v.gate sd = g := by rw [← hv]; exact State.setGate_gate_self _ _ _
    have hga : g.addressing = some a := by rw [← hg]; simpa using ha
    have hdiv : g.divisor = (s.gate sd).divisor := by rw [← hg]; simp
    have hafter : (v.endExchange sd a.mod).afterGate sd (s.gate sd).state = v.endExchange sd a.mod := by
      obtain ⟨x, m', b, he, -⟩ := endExchange_gate v sd a.mod
      rw [he]
      refine afterGate_of_stays ?_ ?_
      · rw [State.setGate_gate_self, hvg, ← hg]
        have hst := ((s.gate sd).setMod_frame a.mod m).1
        by_cases h : (s.gate sd).state = .opened
        · exact .inr (hst.trans h)
        · exact .inl h
      · rw [← hv]
        exact hstage
    have hexec : exec c s = .next (v.endExchange sd a.mod) := by
      rw [← hafter]
      rcases hc with ⟨f, rfl, hr, hgood, hcls, rfl⟩ | ⟨rfl, hdead, hsilent, rfl⟩
      · rw [exec_answerFrame hp ha hr hgood]
        have htake : (s.elapse dt).goodAnswer sd a f = v.endExchange sd a.mod := by
          rw [← hv, ← hg]
          have hno : ∀ w : State, w.takeByClass sd a.mod f = w := fun w => by simp [State.takeByClass, hcls]
          unfold State.goodAnswer
          simp only [hnodown, Bool.false_eq_true, if_false, hno, hel]
          split
          · rfl
          · rw [GateCtl.setMod_self]
            exact congrArg (fun w => State.endExchange w sd a.mod) (State.setGate_self (s.elapse dt) sd).symm
        rw [htake]
      · obtain ⟨r, hexec, hr⟩ := exec_missed (dt := dt) hp ha (.inl ⟨rfl, hdead⟩)
        have hs : (s.elapse dt).setGate sd { s.gate sd with receiver := (s.gate sd).receiver } = v := by
          rw [← hv, ← hg, GateCtl.setMod_self]
        rw [hr rfl, hs] at hexec
        have hmiss : v.missAnswer sd a = v.endExchange sd a.mod := by
          have hst : ((v.gate sd).mod a.mod).status ≠ some .active := by rw [hvg, ← hg, GateCtl.setMod_self]; exact hsilent
          simp [State.missAnswer, hnodown, State.countMiss, hst]
        rw [hexec, hmiss]
    rw [endExchange_of_some (by rw [hvg]; exact hga)] at hexec
    refine ⟨fun hcard hpoll => ?_, fun hcard hpoll => ?_, fun hkey => ?_⟩
    · rw [hcard, show ModuleId.card.following = [.keypad] from rfl,
        pollFrom_of_polled (by rw [hvg]; exact hpoll), ← hv] at hexec
      exact haddress c g .keypad hdiv hexec
    · rw [hcard, show ModuleId.card.following = [.keypad] from rfl,
        pollFrom_of_not (by rw [hvg]; exact hpoll)] at hexec
      rw [hexec, State.pollFrom, hvg, ← hv, State.setGate_setGate]
    · rw [hkey, show ModuleId.keypad.following = [] from rfl] at hexec
      rw [hexec, State.pollFrom, hvg, ← hv, State.setGate_setGate]
  · have hready : (((s.elapse dt).gate sd).power && decide (((s.elapse dt).gate sd).receiver = .resync)) = true := by
      simp [hel, hp, hrest]
    exact congrArg Host.Outcome.next (if_pos hready)
end


/-! ### Uplink frames -/
section
namespace Sys2Proof.Machine

variable {s t u v : State} {sd : Side} {dt : Nat} {g : GateCtl} {i : ModuleId} {a : Addressing} {f : Frame} {m : Module}

theorem Block.same_trans {b : Block} (h : b.same s u) (h' : b.same u t) : b.same s t := by
  cases b <;> exact Eq.trans h' h

/-- What two steps leave alone, if the second takes no time. -/
theorem Lands.trans {bs : List Block} (h : Lands dt bs s u) (h' : Lands 0 bs u t) : Lands dt bs s t :=
  ⟨h'.1.trans h.1, fun b hb => Block.same_trans (h.2 b hb) (h'.2 b hb)⟩

theorem Lands.mono {bs cs : List Block} (h : Lands dt bs s t) (hsub : bs ⊆ cs) : Lands dt cs s t :=
  ⟨h.1, fun b hb => h.2 b fun hc => hb (hsub hc)⟩

theorem State.setGate_lands (s : State) (sd : Side) (g : GateCtl) : Lands 0 [.gates] s (s.setGate sd g) := by
  simp [lands_iff]

theorem Raised.of_same {k : EventKind} {o : Nat} {d1 d2 : Detail} (h : Raised s u k o d1 d2) (he : t.exch = u.exch) :
    Raised s t k o d1 d2 := by
  obtain ⟨hnext, hring, hcount, hfresh⟩ := h
  refine ⟨by rw [he]; exact hnext, by rw [he]; exact hring, ?_, by rw [he]; exact hfresh⟩
  rw [show ∀ x, t.header x = u.header x from fun x => by simp [State.header, he]]
  exact hcount

/-! #### What an exchange's end leaves alone -/

/-- The end of an exchange changes no more than the module addressed next and the downlink in flight for it (R114). -/
structure ExchangeEnds (u t : State) (sd : Side) (i : ModuleId) : Prop where
  lands : Lands 0 [.gates] u t
  other : t.gate sd.other = u.gate sd.other
  mod : (t.gate sd).mod i = (u.gate sd).mod i
  card : (t.gate sd).card = (u.gate sd).card
  queue : (t.gate sd).queue = (u.gate sd).queue
  state : (t.gate sd).state = (u.gate sd).state
  trip : (t.gate sd).trip = (u.gate sd).trip
  power : (t.gate sd).power = (u.gate sd).power
  restart : (t.gate sd).restart = (u.gate sd).restart
  restartUsed : (t.gate sd).restartUsed = (u.gate sd).restartUsed
  offT : (t.gate sd).offT = (u.gate sd).offT
  idle : (u.gate sd).addressing = none → (t.gate sd).addressing = none
  downlink : (∀ d, (u.gate sd).downlink = some d → d.mod = i) → (t.gate sd).downlink = (u.gate sd).downlink

theorem endExchange_ends (u : State) (sd : Side) (i : ModuleId) : ExchangeEnds u (u.endExchange sd i) sd i := by
  obtain ⟨x, m, b, he, hkey, hidle, hdown⟩ := endExchange_gate u sd i
  rw [he]
  constructor <;> simp only [State.setGate_gate_self, State.setGate_gate_other]
  case lands => simp [lands_iff]
  case mod =>
    cases i with
    | card => rfl
    | keypad => exact hkey rfl
  case idle => exact hidle
  case downlink => exact hdown

/-! #### A good answer to a POLL -/

/-- A gate whose module has answered: the count of misses of an ACTIVE one is cleared (R115). -/
def GateCtl.replied (g : GateCtl) (i : ModuleId) : GateCtl :=
  if (g.mod i).status = some .active then g.setMod i { g.mod i with missed := 0 } else g

theorem GateCtl.replied_frame (g : GateCtl) (i : ModuleId) : (g.replied i).state = g.state ∧ (g.replied i).queue = g.queue ∧
    (g.replied i).admission = g.admission ∧ (g.replied i).restartUsed = g.restartUsed ∧
    (g.replied i).restart = g.restart ∧ (g.replied i).downlink = g.downlink := by
  unfold GateCtl.replied
  split <;> simp

theorem GateCtl.replied_of_active (h : (g.mod i).status = some .active) :
    g.replied i = g.setMod i { g.mod i with missed := 0 } := if_pos h

theorem GateCtl.replied_of_not (h : (g.mod i).status ≠ some .active) : g.replied i = g := if_neg h

theorem goodAnswer_of_poll (h : a.isDownlink = false) : u.goodAnswer sd a f =
    ((u.setGate sd ((u.gate sd).replied a.mod)).takeByClass sd a.mod f).endExchange sd a.mod := by
  unfold State.goodAnswer GateCtl.replied
  simp only [h, Bool.false_eq_true, if_false]
  split
  · rfl
  · rw [State.setGate_self]

/-- What follows an operation on a gate that stays in OPEN, or whose side has no sale (R118, R170). -/
theorem afterGate_of_no_loss {old : GateState} (h : old ≠ .opened ∨ (u.gate sd).state = .opened ∨ (u.side sd).sale = none)
    (hr : u.mode.stage ≠ some .readers) : u.afterGate sd old = u := by
  rcases h with h | h | h
  · exact afterGate_of_stays (.inl h) hr
  · exact afterGate_of_stays (.inr h) hr
  · have hnotice : u.noticeGate sd = u := by simp [State.noticeGate, h]
    unfold State.afterGate
    rw [hnotice, readersTest_of_not (by split <;> exact hr), ite_self]

/-- A good answer that takes no side with a sale out of OPEN (R114, R115). -/
theorem exec_good_answer (hp : (s.gate sd).power = true) (ha : (s.gate sd).addressing = some a)
    (hr : (s.gate sd).receiver ≠ .resync) (hg : frameGood f = true)
    (htake : (s.elapse dt).goodAnswer sd a f = v.endExchange sd a.mod)
    (hstate : (s.gate sd).state ≠ .opened ∨ (v.gate sd).state = .opened ∨ (v.side sd).sale = none)
    (hmode : v.mode.stage ≠ some .readers) :
    ∃ t, exec (.answerFrame dt sd f) s = .next t ∧ ExchangeEnds v t sd a.mod := by
  have hends := endExchange_ends v sd a.mod
  obtain ⟨-, hl⟩ := hends.lands
  have hside : (v.endExchange sd a.mod).side sd = v.side sd := congrArg (Both.get · sd) (hl .sides (by decide) : _)
  refine ⟨_, ?_, hends⟩
  rw [exec_answerFrame hp ha hr hg, htake, afterGate_of_no_loss]
  · exact hstate.imp_right fun h => h.imp hends.state.trans fun h => (congrArg SideCtl.sale hside).trans h
  · rwa [show (v.endExchange sd a.mod).mode = v.mode from hl .mode (by decide)]

theorem exec_polled_answer (hp : (s.gate sd).power = true) (ha : (s.gate sd).addressing = some a)
    (hdown : a.isDownlink = false) (hr : (s.gate sd).receiver ≠ .resync) (hg : frameGood f = true)
    (htake : ((s.elapse dt).setGate sd ((s.gate sd).replied a.mod)).takeByClass sd a.mod f = v)
    (hstate : (s.gate sd).state ≠ .opened ∨ (v.gate sd).state = .opened ∨ (v.side sd).sale = none)
    (hmode : v.mode.stage ≠ some .readers) :
    ∃ t, exec (.answerFrame dt sd f) s = .next t ∧ ExchangeEnds v t sd a.mod :=
  exec_good_answer hp ha hr hg ((goodAnswer_of_poll (u := s.elapse dt) hdown).trans
    (congrArg (State.endExchange · sd a.mod) htake)) hstate hmode

/-! #### Uplink frames -/

theorem takeByClass_of_uplink (hc : f.control.cls.isUplink = true) : u.takeByClass sd i f =
    if ((u.gate sd).mod i).status = some .active then u.takeUplink sd i f else u := by
  have hcls : f.control.cls = .card ∨ f.control.cls = .entry ∨ f.control.cls = .payload := by
    revert hc
    cases f.control.cls <;> simp [FrameClass.isUplink]
  unfold State.takeByClass
  dsimp only
  rcases hcls with h | h | h
  all_goals
    rw [h]
    rcases ((u.gate sd).mod i).status with - | st
    · rfl
    · cases st <;> rfl

/-- The answer flag that a judgement gives (R116). -/
def Judgement.flag : Judgement → AnswerFlag
  | .taken => .ack
  | .refused => .reject

/-- A resend is discarded with the flag of its first judgement (R116). -/
theorem takeUplink_of_resend {j : Judgement} (h : ((u.gate sd).mod i).lastToggle = some (f.control.toggle, j)) :
    u.takeUplink sd i f = u.setGate sd ((u.gate sd).setMod i { (u.gate sd).mod i with
      flag := j.flag }) := by
  unfold State.takeUplink
  simp only [h, if_true]
  cases j <;> rfl

/-- A new frame is judged (R127). -/
theorem takeUplink_of_new (hnew : ∀ j, ((u.gate sd).mod i).lastToggle ≠ some (f.control.toggle, j)) :
    u.takeUplink sd i f =
      if ((u.gate sd).admission.up.get ((u.gate sd).mod i).judgedScope).allows f.control.cls = true then
        u.enqueue sd i f false
      else if u.cfg.admissionMode.get sd = .check then u.refuseFrame sd i f
      else u.enqueue sd i f (decide (u.cfg.admissionMode.get sd = .checkRefer)) := by
  unfold State.takeUplink
  dsimp only
  split
  case h_1 b j hlast =>
    rw [if_neg fun hb : b = f.control.toggle => hnew j (hb ▸ hlast)]
    split
    · rfl
    · cases h : u.cfg.admissionMode.get sd <;> simp
  case h_2 =>
    split
    · rfl
    · cases h : u.cfg.admissionMode.get sd <;> simp

/-- A frame that passes is taken, marked when only CHECK_REFER lets it pass (R127). -/
theorem takeUplink_of_passes (hnew : ∀ j, ((u.gate sd).mod i).lastToggle ≠ some (f.control.toggle, j))
    (hpass : ((u.gate sd).admission.up.get ((u.gate sd).mod i).judgedScope).allows f.control.cls = true ∨
      u.cfg.admissionMode.get sd = .openAll ∨ u.cfg.admissionMode.get sd = .checkRefer) :
    u.takeUplink sd i f = u.enqueue sd i f
      (!((u.gate sd).admission.up.get ((u.gate sd).mod i).judgedScope).allows f.control.cls &&
        decide (u.cfg.admissionMode.get sd = .checkRefer)) := by
  rw [takeUplink_of_new hnew]
  cases hal : ((u.gate sd).admission.up.get ((u.gate sd).mod i).judgedScope).allows f.control.cls with
  | true => simp
  | false =>
    have hcheck : u.cfg.admissionMode.get sd ≠ .check := by
      rcases hpass with h | h | h
      · exact absurd (hal.symm.trans h) (by decide)
      · rw [h]; decide
      · rw [h]; decide
    simp [hcheck]

theorem enqueue_of_full (h : 4 ≤ (u.gate sd).queue.length) (b : Bool) : u.enqueue sd i f b =
    u.setGate sd ((u.gate sd).setMod i { (u.gate sd).mod i with flag := .busy }) := if_pos h

/-- A gate that has taken a frame into its queue (R128). -/
def GateCtl.queued (g : GateCtl) (i : ModuleId) (f : Frame) (e : UplinkEntry) : GateCtl :=
  { g.setMod i { g.mod i with lastToggle := some (f.control.toggle, .taken), flag := .ack } with
    queue := g.queue ++ [e] }

theorem GateCtl.queued_frame (g : GateCtl) (i : ModuleId) (f : Frame) (e : UplinkEntry) :
    (g.queued i f e).mod i = { g.mod i with lastToggle := some (f.control.toggle, .taken), flag := .ack } ∧
      (g.queued i f e).state = g.state := by
  cases i <;> exact ⟨rfl, rfl⟩

theorem enqueue_of_room (h : (u.gate sd).queue.length < 4) (b : Bool) : u.enqueue sd i f b =
    (u.setGate sd ((u.gate sd).queued i f
      ⟨i, ((u.gate sd).mod i).tag, f.control.cls, b, f.payload, u.capture⟩)).uplinkFlow sd :=
  if_neg (by omega)

theorem uplinkFlow_of_host (h : ∀ i, (u.header (Folio.uplink sd i)).holder = .host) : u.uplinkFlow sd = u := by
  rw [State.uplinkFlow, uplinkInto_of_host (h 0), uplinkInto_of_host (h 1)]

/-- A good frame's entry fits an UPLINK body (R112, R128). -/
theorem UplinkEntry.length_bytes (e : UplinkEntry) : e.bytes.length = 10 + e.payload.length := by
  simp [UplinkEntry.bytes]
  omega

theorem payload_of_good (h : frameGood f = true) : f.payload.length ≤ 200 := by
  simp only [frameGood, Bool.and_eq_true, decide_eq_true_eq] at h
  omega

/-- The only frame of the queue goes into the part-held first folio (R128). -/
theorem uplinkFlow_of_only {e : UplinkEntry} (hq : (u.gate sd).queue = [e])
    (hpart : (u.header (Folio.uplink sd 0)).holder = .part) :
    let v := (u.setGate sd { u.gate sd with queue := [] }).writeBody (Folio.uplink sd 0) e.bytes
    u.uplinkFlow sd = (v.setHeader (Folio.uplink sd 0) { v.header (Folio.uplink sd 0) with ref := 0 }).handOver
      (Folio.uplink sd 0) .done := by
  dsimp only
  rw [State.uplinkFlow, uplinkInto_of_part hq hpart]
  exact uplinkInto_of_nil 1 (by simp)

end Sys2Proof.Machine

open Sys2Proof Sys2Proof.Machine

/-- Settles O37: an uplink frame by its module, its toggle, its class and the room for it. -/
theorem uplinksAreJudged : Obligations.UplinksAreJudged := by
  unfold Obligations.UplinksAreJudged
  intro dt sd s a f hp ha hdown hr hgood hcls hstage
  dsimp only
  have htakes : ∀ {v : State}, ((s.elapse dt).setGate sd ((s.gate sd).replied a.mod)).takeByClass sd a.mod f = v →
      (v.gate sd).state = (s.gate sd).state → v.mode = s.mode →
      ∃ t, exec (.answerFrame dt sd f) s = .next t ∧ ExchangeEnds v t sd a.mod := fun htake hstate hmode =>
    exec_polled_answer hp ha hdown hr hgood htake ((em _).symm.imp_right fun h => .inl (hstate.trans h)) (by rwa [hmode])
  have hself : ∀ g : GateCtl, ((s.elapse dt).setGate sd g).gate sd = g := fun g => State.setGate_gate_self _ _ _
  have hother : ∀ g : GateCtl, ((s.elapse dt).setGate sd g).gate sd.other = s.gate sd.other := fun g =>
    State.setGate_gate_other _ _ _
  have hout : ((s.gate sd).mod a.mod).status ≠ some .active →
      ((s.elapse dt).setGate sd ((s.gate sd).replied a.mod)).takeByClass sd a.mod f = s.elapse dt := fun hout => by
    rw [GateCtl.replied_of_not hout, takeByClass_of_uplink hcls, if_neg (by rwa [hself])]
    exact State.setGate_self (s.elapse dt) sd
  refine ⟨fun h => ?_, ?_⟩
  · obtain ⟨t, hexec, hends⟩ := htakes (hout h) rfl rfl
    exact ⟨t, hexec, Lands.trans (by simp [lands_iff]) hends.lands, hends.mod, hends.queue, hends.other⟩
  by_cases hactive : ((s.gate sd).mod a.mod).status = some .active
  case neg =>
    exact ⟨fun _ h => absurd h hactive, fun h => absurd h hactive, fun h => absurd h hactive,
      fun h => absurd h hactive, fun h => absurd h hactive⟩
  generalize hm : ({ (s.gate sd).mod a.mod with missed := 0 } : Module) = m
  generalize hw : (s.elapse dt).setGate sd ((s.gate sd).setMod a.mod m) = w
  have hwg : w.gate sd = (s.gate sd).setMod a.mod m := by rw [← hw, hself]
  have hwo : w.gate sd.other = s.gate sd.other := by rw [← hw]; exact hother _
  have hwm : (w.gate sd).mod a.mod = m := by rw [hwg, GateCtl.setMod_mod]
  have hwq : (w.gate sd).queue = (s.gate sd).queue := by rw [hwg]; simp
  have hwst : (w.gate sd).state = (s.gate sd).state := by rw [hwg]; simp
  have hwl : Lands dt [.gates] s w := by rw [← hw]; simp [lands_iff]
  have hwmode : w.mode = s.mode := by rw [← hw]; rfl
  have hwx : w.exch = s.exch := by rw [← hw]; rfl
  have hwh : ∀ x, w.header x = s.header x := fun x => by rw [← hw]; rfl
  have hwnow : w.capture = BitVec.ofNat 32 (s.now + dt) := by rw [← hw]; rfl
  have htakes' : ∀ {v : State}, w.takeUplink sd a.mod f = v → (v.gate sd).state = (s.gate sd).state → v.mode = s.mode →
      ∃ t, exec (.answerFrame dt sd f) s = .next t ∧ ExchangeEnds v t sd a.mod := fun h => by
    refine htakes ?_
    rw [GateCtl.replied_of_active hactive, hm, hw, takeByClass_of_uplink hcls, if_pos (by rw [hwm, ← hm]; exact hactive), h]
  have hnew : (∀ j, ((s.gate sd).mod a.mod).lastToggle ≠ some (f.control.toggle, j)) →
      ∀ j, ((w.gate sd).mod a.mod).lastToggle ≠ some (f.control.toggle, j) := fun h j => by
    rw [hwm, ← hm]; exact h j
  have hallow : ((w.gate sd).admission.up.get ((w.gate sd).mod a.mod).judgedScope).allows f.control.cls =
      ((s.gate sd).admission.up.get (((s.gate sd).mod a.mod).scope.getD .other)).allows f.control.cls := by
    rw [hwm, ← hm, hwg]
    simp [Module.judgedScope]
  have hcfg : w.cfg.admissionMode.get sd = s.exch.config.admissionMode.get sd := by rw [State.cfg, hwx]
  generalize hb : (!((s.gate sd).admission.up.get (((s.gate sd).mod a.mod).scope.getD .other)).allows f.control.cls &&
    decide (s.exch.config.admissionMode.get sd = .checkRefer)) = b
  generalize he : (⟨a.mod, ((s.gate sd).mod a.mod).tag, f.control.cls, b, f.payload, BitVec.ofNat 32 (s.now + dt)⟩ :
    UplinkEntry) = e
  have hroomed : (s.gate sd).queue.length < 4 →
      w.enqueue sd a.mod f b = (w.setGate sd ((w.gate sd).queued a.mod f e)).uplinkFlow sd := fun h => by
    rw [enqueue_of_room (by rw [hwq]; exact h), hwm, hwnow, ← he, ← hm]
  have hpasses : (∀ j, ((s.gate sd).mod a.mod).lastToggle ≠ some (f.control.toggle, j)) →
      (((s.gate sd).admission.up.get (((s.gate sd).mod a.mod).scope.getD .other)).allows f.control.cls = true ∨
        s.exch.config.admissionMode.get sd = .openAll ∨ s.exch.config.admissionMode.get sd = .checkRefer) →
      w.takeUplink sd a.mod f = w.enqueue sd a.mod f b := fun h hpass => by
    rw [takeUplink_of_passes (hnew h) (by rwa [hallow, hcfg]), hallow, hcfg, hb]
  obtain ⟨hqmod, hqstate⟩ := (w.gate sd).queued_frame a.mod f e
  have hqq : ((w.gate sd).queued a.mod f e).queue = (s.gate sd).queue ++ [e] := congrArg (· ++ [e]) hwq
  have hqm : ((w.gate sd).queued a.mod f e).mod a.mod = { (s.gate sd).mod a.mod with
      missed := 0, lastToggle := some (f.control.toggle, .taken), flag := .ack } := by rw [hqmod, hwm, ← hm]
  refine ⟨fun j _ hlast => ?_, fun _ hn hno => ?_, fun _ hn hpass hfull => ?_, fun _ hn hpass hroom hhost => ?_,
    fun _ hn hpass hempty hpart => ?_⟩
  · obtain ⟨t, hexec, hends⟩ := htakes' (takeUplink_of_resend (j := j) (by rw [hwm, ← hm]; exact hlast))
      (by simp [hwst]) hwmode
    refine ⟨t, hexec, (hwl.trans (State.setGate_lands _ _ _)).trans hends.lands, ?_, ?_, ?_⟩
    · rw [hends.mod, State.setGate_gate_self, GateCtl.setMod_mod, hwm, ← hm]
      cases j <;> rfl
    · rw [hends.queue, State.setGate_gate_self]
      simpa using hwq
    · rw [hends.other, State.setGate_gate_other, hwo]
  · have hcheck : s.exch.config.admissionMode.get sd = .check := by
      cases h : s.exch.config.admissionMode.get sd <;> simp_all
    have href : w.takeUplink sd a.mod f = w.refuseFrame sd a.mod f := by
      rw [takeUplink_of_new (hnew hn), hallow, if_neg (fun h => hno (.inl h)), hcfg, if_pos hcheck]
    obtain ⟨t, hexec, hends⟩ := htakes' href (by simp [State.refuseFrame, hwst]) (by simp [hwmode])
    have hrl : Lands 0 [.gates, .exch] w (w.refuseFrame sd a.mod f) := by simp [lands_iff]
    refine ⟨t, hexec, ((hwl.mono (by decide)).trans hrl).trans (hends.lands.mono (by decide)), ?_, ?_, ?_, ?_⟩
    · rw [hends.mod]
      simp [State.refuseFrame, hwm, ← hm]
    · rw [hends.queue]
      simp [State.refuseFrame, hwq]
    · rw [hends.other]
      simp [State.refuseFrame, hwo]
    · have hscope : ((w.gate sd).mod a.mod).judgedScope = ((s.gate sd).mod a.mod).scope.getD .other := by
        rw [hwm, ← hm]
        rfl
      have htx : t.exch = (w.refuseFrame sd a.mod f).exch := by have := hends.lands; rw [lands_iff] at this; simp_all
      rw [← hscope]
      exact (raised_of (B := fun _ => False) (u := w.setGate sd ((w.gate sd).setMod a.mod { (w.gate sd).mod a.mod with
        lastToggle := some (f.control.toggle, .refused), flag := .reject })) (congrArg Exchange.log hwx)
        (congrArg ModeCtl.clock hwmode) rfl (Keeps.refl _ _)).of_same htx
  · have hq := enqueue_of_full (u := w) (sd := sd) (i := a.mod) (f := f) (by rw [hwq]; exact hfull) b
    obtain ⟨t, hexec, hends⟩ := htakes' ((hpasses hn hpass).trans hq)
      (by simp [hwst]) hwmode
    refine ⟨t, hexec, (hwl.trans (State.setGate_lands _ _ _)).trans hends.lands, ?_, ?_, ?_⟩
    · rw [hends.mod, State.setGate_gate_self, GateCtl.setMod_mod, hwm, ← hm]
    · rw [hends.queue, State.setGate_gate_self]
      simpa using hwq
    · rw [hends.other, State.setGate_gate_other, hwo]
  · generalize (w.gate sd).queued a.mod f e = q at *
    have hflow := uplinkFlow_of_host (u := w.setGate sd q) (sd := sd)
      (fun i => (congrArg Header.holder (hwh _)).trans (hhost i))
    obtain ⟨t, hexec, hends⟩ := htakes' ((hpasses hn hpass).trans ((hroomed hroom).trans hflow))
      (by rw [State.setGate_gate_self, hqstate, hwst]) hwmode
    refine ⟨t, hexec, (hwl.trans (State.setGate_lands _ _ _)).trans hends.lands, ?_, ?_, ?_⟩
    · rw [hends.mod, State.setGate_gate_self, hqm]
    · rw [hends.queue, State.setGate_gate_self, hqq]
    · rw [hends.other, State.setGate_gate_other, hwo]
  · generalize (w.gate sd).queued a.mod f e = q at *
    have hflow := uplinkFlow_of_only (u := w.setGate sd q) (sd := sd) (e := e)
      (by rw [State.setGate_gate_self, hqq, hempty]; rfl) ((congrArg Header.holder (hwh _)).trans hpart)
    dsimp only at hflow
    rw [State.setGate_gate_self, State.setGate_setGate] at hflow
    generalize hx : w.setGate sd { q with queue := [] } = x at hflow
    have hxg : x.gate sd = { q with queue := [] } := by rw [← hx, State.setGate_gate_self]
    have hxo : x.gate sd.other = s.gate sd.other := by rw [← hx, State.setGate_gate_other, hwo]
    have hxmod : (x.gate sd).mod a.mod = q.mod a.mod := by rw [hxg]; cases a.mod <;> rfl
    have hxl : Lands dt [.gates] s x := hwl.trans (by rw [← hx]; exact State.setGate_lands _ _ _)
    have hxh : ∀ y, x.header y = s.header y := fun y => by rw [← hx]; exact hwh y
    have hxmem : x.exch.mem = s.exch.mem := by rw [← hx, ← hwx]; rfl
    have hans := answered_of_fill (s := s) (u := x) (f := Folio.uplink sd 0) (congrArg Header.count (hxh _))
      (fun y _ _ => hxh y) e.bytes 0 .done 0
    have hlen : e.bytes.length ≤ 240 := by
      have := payload_of_good hgood
      rw [e.length_bytes, ← he]
      exact (Nat.add_le_add_left this 10).trans (by decide)
    have hbytes : Memory.wf s.exch.mem = true → Memory.readAll (Memory.writeAll s.exch.mem (Folio.uplink sd 0).body
        (e.bytes.take 240)) (Folio.uplink sd 0).body e.bytes.length = e.bytes := fun hwf => by
      rw [List.take_of_length_le hlen, Memory.readAll_writeAll hwf _ le_rfl]
      simp [Memory.length_readAll]
    generalize hr : ((x.writeBody (Folio.uplink sd 0) e.bytes).setHeader (Folio.uplink sd 0)
      { (x.writeBody (Folio.uplink sd 0) e.bytes).header (Folio.uplink sd 0) with ref := 0 }).handOver
        (Folio.uplink sd 0) .done = r at *
    have hrg : ∀ y, r.gate y = x.gate y := fun y => by simp [← hr]
    have hrl : Lands 0 [.exch] x r := by rw [← hr]; simp [lands_iff]
    have hrm : r.mode = x.mode := by simp [← hr]
    have hrmem : r.exch.mem = Memory.writeAll s.exch.mem (Folio.uplink sd 0).body (e.bytes.take 240) := by
      rw [← hr, ← hxmem]; rfl
    have hxst : (x.gate sd).state = q.state := by rw [hxg]
    obtain ⟨t, hexec, hends⟩ := htakes' ((hpasses hn hpass).trans ((hroomed (by rw [hempty]; decide)).trans hflow))
      (by rw [hrg, hxst, hqstate, hwst]) (by rw [hrm, ← hx]; exact hwmode)
    have htx : t.exch = r.exch := by have := hends.lands; rw [lands_iff] at this; simp_all
    have htm : t.mode = r.mode := by have := hends.lands; rw [lands_iff] at this; simp_all
    refine ⟨t, hexec, ((hxl.mono (by decide)).trans (hrl.mono (by decide))).trans (hends.lands.mono (by decide)), ?_, ?_, ?_, ?_, ?_⟩
    · rw [hends.mod, hrg, hxmod, hqm]
    · rw [hends.queue, hrg, hxg]
    · rw [hends.other, hrg, hxo]
    · exact hans.of_same htx (by rw [htm])
    · rw [htx, hrmem]
      exact hbytes
end


/-! ### HELLO -/
section
namespace Sys2Proof.Machine

variable {s t u v : State} {sd : Side} {dt : Nat} {g : GateCtl} {i : ModuleId} {a : Addressing} {f : Frame} {m : Module}
  {tag : BitVec 16} {version : Byte} {sc : Scope} {o : HelloOutcome} {b : Bool}

theorem GateCtl.setMod_replied (g : GateCtl) (i : ModuleId) (m : Module) : (g.replied i).setMod i m = g.setMod i m := by
  unfold GateCtl.replied
  split
  · cases i <;> rfl
  · rfl

/-- A HELLO leaves nothing of the count of misses (R117). -/
theorem hello_replied (g : GateCtl) (i : ModuleId) :
    ((g.replied i).mod i).hello tag version sc o b = (g.mod i).hello tag version sc o b := by
  unfold GateCtl.replied
  split
  · rw [GateCtl.setMod_mod]
    rfl
  · rfl

/-- A module's HELLO is recorded with its outcome and its event (R117). -/
def State.greeted (u : State) (sd : Side) (i : ModuleId) (f : Frame) (sc : Scope) (o : HelloOutcome) : State :=
  (u.setGate sd ((u.gate sd).setMod i (((u.gate sd).mod i).hello (helloTag f.payload) (helloAt f.payload 2) sc o
    f.control.toggle))).raise .moduleAdmitted sd.number (.hello i.addr sc o)
      (.tagVersion (helloTag f.payload) (helloAt f.payload 2))

theorem takeHello_eq (hsc : scopeOf (u.gate sd).admission.keys (helloTag f.payload) = sc)
    (ho : helloOutcome (u.cfg.admissionMode.get sd) sc = o) :
    u.takeHello sd i f = (u.greeted sd i f sc o).afterHello sd i o := by
  unfold State.takeHello State.greeted
  simp only [hsc, ho]

theorem takeHello_replied (hsc : scopeOf (u.gate sd).admission.keys (helloTag f.payload) = sc)
    (ho : helloOutcome (u.cfg.admissionMode.get sd) sc = o) :
    (u.setGate sd ((u.gate sd).replied i)).takeHello sd i f = (u.greeted sd i f sc o).afterHello sd i o := by
  have hkeys : ((u.gate sd).replied i).admission = (u.gate sd).admission := ((u.gate sd).replied_frame i).2.2.1
  rw [takeHello_eq (u := u.setGate sd ((u.gate sd).replied i)) (sc := sc) (o := o) (by rw [State.setGate_gate_self, hkeys]; exact hsc) ho]
  unfold State.greeted
  simp only [State.setGate_gate_self, State.setGate_setGate, GateCtl.setMod_replied, hello_replied]

theorem takeByClass_of_hello (h : f.control.cls = .hello) : u.takeByClass sd i f = u.takeHello sd i f := by
  unfold State.takeByClass
  simp only [h]

/-- The table of standings (R117). -/
theorem helloOutcome_eq (mode : AdmissionMode) (sc : Scope) : helloOutcome mode sc =
    if mode = .check ∧ sc = .other then .shut else if mode = .checkRefer ∧ sc = .other then .referred else .admitted := by
  cases mode <;> cases sc <;> rfl

/-! #### What the greeting changes -/

theorem greeted_gate (u : State) (sd : Side) (i : ModuleId) (f : Frame) (sc : Scope) (o : HelloOutcome) :
    (u.greeted sd i f sc o).gate sd = (u.gate sd).setMod i (((u.gate sd).mod i).hello (helloTag f.payload)
        (helloAt f.payload 2) sc o f.control.toggle) ∧
      (u.greeted sd i f sc o).gate sd.other = u.gate sd.other := by
  simp [State.greeted]

theorem greeted_raised (u : State) (sd : Side) (i : ModuleId) (f : Frame) (sc : Scope) (o : HelloOutcome) :
    Raised u (u.greeted sd i f sc o) .moduleAdmitted sd.number (.hello i.addr sc o)
      (.tagVersion (helloTag f.payload) (helloAt f.payload 2)) := by
  unfold State.greeted
  exact raised_of (B := fun _ => False) (u := u.setGate sd _) rfl rfl rfl (Keeps.refl _ _)

theorem greeted_lands (u : State) (sd : Side) (i : ModuleId) (f : Frame) (sc : Scope) (o : HelloOutcome) :
    Lands 0 [.gates, .exch] u (u.greeted sd i f sc o) := by
  simp [State.greeted, lands_iff]

/-! #### What the gate does after it -/

/-- A gate that a card module's HELLO has opened, or found OPEN, the restart-used flag as it leaves it (R119, R120). -/
def GateCtl.welcomed (g : GateCtl) : GateCtl := if g.helloClears then { g with restartUsed := false } else g

theorem afterHello_of_coming (h : (u.gate sd).state = .starting ∨ (u.gate sd).state = .restarting) (ho : o ≠ .shut) :
    u.afterHello sd .card o = (u.setGate sd (u.gate sd).welcomed).gateOpen sd := by
  have hw : (if (u.gate sd).helloClears then u.setGate sd { u.gate sd with restartUsed := false } else u) =
      u.setGate sd (u.gate sd).welcomed := by
    unfold GateCtl.welcomed
    split
    · rfl
    · exact (State.setGate_self u sd).symm
  cases o
  case shut => exact absurd rfl ho
  all_goals
    unfold State.afterHello
    dsimp only
    rw [hw]
    rcases h with h | h <;> rw [h]

theorem afterHello_of_opened (h : (u.gate sd).state = .opened) (ho : o ≠ .shut) :
    u.afterHello sd .card o = u.setGate sd { u.gate sd with restartUsed := false } := by
  have hclears : (u.gate sd).helloClears = true := by simp [GateCtl.helloClears, h]
  cases o
  case shut => exact absurd rfl ho
  all_goals simp [State.afterHello, h, hclears]

theorem afterHello_of_shut : u.afterHello sd .card .shut =
    if (u.gate sd).state = .opened then u.gateTrip sd .notAdmitted else u := rfl

/-- A gate that opens (R118, R119). -/
theorem gateOpen_opens (h : (u.gate sd).state ≠ .opened) :
    (u.gateOpen sd).gate sd = { u.gate sd with state := .opened, restart := none } ∧
      (u.gateOpen sd).gate sd.other = u.gate sd.other ∧
      (u.gateOpen sd).exch.nextEvent = succ32 u.exch.nextEvent ∧
      Lands 0 [.gates, .display, .exch] u (u.gateOpen sd) := by
  unfold State.gateOpen
  obtain ⟨hself, hother⟩ := State.gateChange_gate u sd { u.gate sd with state := .opened, restart := none } .hello
  rw [if_neg h] at hself
  exact ⟨hself, hother, State.gateChange_nextEvent _ _ _ _, by simp [lands_iff]⟩

theorem gateTrip_lands (u : State) (sd : Side) (r : TripReason) :
    Lands 0 [.gates, .display, .exch] u (u.gateTrip sd r) := by
  simp [lands_iff]

end Sys2Proof.Machine

open Sys2Proof Sys2Proof.Machine

/-- Settles O36: the HELLO's outcome, and what the gate does by its module, the outcome and the gate's state. -/
theorem helloOpensTheGate : Obligations.HelloOpensTheGate := by
  unfold Obligations.HelloOpensTheGate
  intro dt sd s a f b0 b1 b2 hp ha hdown hr hgood hcls hpay hstage
  dsimp only
  intro st sta hout
  generalize hsc : scopeOf (s.gate sd).admission.keys (b0 ++ b1) = sc at hout ⊢
  generalize hmode : s.exch.config.admissionMode.get sd = mode at hout ⊢
  generalize ho : (if mode = .check ∧ sc = .other then HelloOutcome.shut
    else if mode = .checkRefer ∧ sc = .other then .referred else .admitted) = o
  have htag : helloTag f.payload = b0 ++ b1 := by rw [hpay]; rfl
  have hversion : helloAt f.payload 2 = b2 := by rw [hpay]; rfl
  have hshut : (mode = .check ∧ sc = .other) ↔ o = .shut := by
    rw [← ho]
    by_cases h : mode = .check ∧ sc = .other
    · rw [if_pos h]
      exact iff_of_true h rfl
    · rw [if_neg h]
      split <;> exact iff_of_false h (by decide)
  have hel : (s.elapse dt).gate sd = s.gate sd := rfl
  have htake : ((s.elapse dt).setGate sd ((s.gate sd).replied a.mod)).takeByClass sd a.mod f =
      ((s.elapse dt).greeted sd a.mod f sc o).afterHello sd a.mod o := by
    rw [takeByClass_of_hello hcls]
    exact takeHello_replied (u := s.elapse dt) (by rw [htag]; exact hsc)
      ((helloOutcome_eq _ _).trans (by rw [← ho, ← hmode]; rfl))
  have hexec : ∀ {v}, ((s.elapse dt).greeted sd a.mod f sc o).afterHello sd a.mod o = v →
      ((s.gate sd).state ≠ .opened ∨ (v.gate sd).state = .opened ∨ (v.side sd).sale = none) → v.mode = s.mode →
      ∃ t, exec (.answerFrame dt sd f) s = .next t ∧ ExchangeEnds v t sd a.mod := fun h hstate hm =>
    exec_polled_answer hp ha hdown hr hgood (htake.trans h) hstate (by rwa [hm])
  obtain ⟨hgself, hgother⟩ := greeted_gate (s.elapse dt) sd a.mod f sc o
  have hraised := greeted_raised (s.elapse dt) sd a.mod f sc o
  have hgl : Lands dt [.gates, .exch] s ((s.elapse dt).greeted sd a.mod f sc o) := by simp [lands_iff, State.greeted]
  have hheard : ((s.gate sd).mod a.mod).hello (helloTag f.payload) (helloAt f.payload 2) sc o f.control.toggle =
      { (s.gate sd).mod a.mod with
        status := some st, standing := sta, tag := some (b0 ++ b1), version := some b2, scope := some sc, missed := 0
        lastToggle := some (f.control.toggle, .taken), downToggle := false, flag := .ack } := by
    rw [htag, hversion, ← ho]
    rcases hout with ⟨hs, rfl, rfl⟩ | ⟨hs, rfl, rfl⟩ | ⟨hs, hr, rfl, rfl⟩
    · rw [if_pos hs]
      rfl
    · rw [if_neg (by rw [hs.1]; simp), if_pos hs]
      rfl
    · rw [if_neg hs, if_neg hr]
      rfl
  generalize ({ (s.gate sd).mod a.mod with
        status := some st, standing := sta, tag := some (b0 ++ b1), version := some b2, scope := some sc, missed := 0
        lastToggle := some (f.control.toggle, .taken), downToggle := false, flag := .ack } : Module) = heard at hheard ⊢
  rw [hel, hheard] at hgself
  rw [htag, hversion] at hraised
  have htold : ∀ t : State, t.exch = ((s.elapse dt).greeted sd a.mod f sc o).exch → Raised s t .moduleAdmitted sd.number
      (.hello a.mod.addr sc o) (.tagVersion (b0 ++ b1) b2) := fun t h => Raised.of_same (s := s) hraised h
  have hwm : ((s.elapse dt).greeted sd a.mod f sc o).mode = s.mode := by simp [State.greeted]
  have hws : ((s.elapse dt).greeted sd a.mod f sc o).side sd = s.side sd := by simp [State.greeted]
  generalize (s.elapse dt).greeted sd a.mod f sc o = w at *
  obtain ⟨hmst, -, -, hmused, hmrestart, -⟩ := (s.gate sd).setMod_frame a.mod heard
  rw [← hgself] at hmst hmused hmrestart
  have hmod : (w.gate sd).mod a.mod = heard := by rw [hgself, GateCtl.setMod_mod]
  have hexch : ∀ {v t : State} {i}, ExchangeEnds v t sd i → t.exch = v.exch := fun h => h.lands.2 .exch (by decide)
  have hnext : w.exch.nextEvent = succ32 s.exch.nextEvent := hraised.1
  have hstay : w.afterHello sd a.mod o = w → ∃ t, exec (.answerFrame dt sd f) s = .next t ∧ Lands dt [.gates, .exch] s t ∧
      (t.gate sd).state = (s.gate sd).state ∧ (t.gate sd).restart = (s.gate sd).restart ∧
      (t.gate sd).restartUsed = (s.gate sd).restartUsed ∧ (t.gate sd).mod a.mod = heard ∧
      (t.gate sd).card = ((s.gate sd).setMod a.mod heard).card ∧ t.gate sd.other = s.gate sd.other ∧
      Raised s t .moduleAdmitted sd.number (.hello a.mod.addr sc o) (.tagVersion (b0 ++ b1) b2) := fun h => by
    obtain ⟨t, hex, hends⟩ := hexec h ((em _).symm.imp_right fun hst => .inl (hmst.trans hst)) hwm
    exact ⟨t, hex, hgl.trans (hends.lands.mono (by decide)), hends.state.trans hmst, hends.restart.trans hmrestart,
      hends.restartUsed.trans hmused, hends.mod.trans hmod, hends.card.trans (by rw [hgself]),
      hends.other.trans hgother, htold t (hexch hends)⟩
  refine ⟨fun hkey => ?_, fun hcard hno => ?_, fun hcard hyes => ?_⟩
  · obtain ⟨t, hex, hl, hst, -, hused, hm, hc, hother, htell⟩ := hstay (by rw [hkey]; rfl)
    rw [hkey] at hm hc
    exact ⟨t, hex, hl, hst, hused, hc, hm, hother, htell⟩
  · have hno' : o ≠ .shut := fun h => hno (hshut.2 h)
    rw [hcard] at hexec hmod
    have hcoming : (s.gate sd).state = .starting ∨ (s.gate sd).state = .restarting →
        ∃ t, exec (.answerFrame dt sd f) s = .next t ∧ Lands dt [.gates, .display, .exch] s t ∧
          (t.gate sd).state = .opened ∧ (t.gate sd).restart = none ∧
          (t.gate sd).restartUsed = (w.gate sd).welcomed.restartUsed ∧ (t.gate sd).card = heard ∧
          t.gate sd.other = s.gate sd.other ∧ t.exch.nextEvent = succ32 (succ32 s.exch.nextEvent) := fun h => by
      have hwst : (w.gate sd).welcomed.state = (w.gate sd).state ∧ (w.gate sd).welcomed.card = (w.gate sd).card := by
        unfold GateCtl.welcomed
        split <;> exact ⟨rfl, rfl⟩
      obtain ⟨hself, hother, hev, hl⟩ := gateOpen_opens (u := w.setGate sd (w.gate sd).welcomed) (sd := sd)
        (by rw [State.setGate_gate_self, hwst.1, hmst]; rcases h with h | h <;> rw [h] <;> decide)
      rw [State.setGate_gate_self] at hself
      rw [State.setGate_gate_other] at hother
      have hopen := afterHello_of_coming (u := w) (sd := sd) (o := o) (by rw [hmst]; exact h) hno'
      have hm : ((w.setGate sd (w.gate sd).welcomed).gateOpen sd).mode = w.mode := hl.2 .mode (by decide)
      obtain ⟨t, hex, hends⟩ := hexec hopen (.inr (.inl (by rw [hself]))) (hm.trans hwm)
      refine ⟨t, hex, ?_, by rw [hends.state, hself], by rw [hends.restart, hself], by rw [hends.restartUsed, hself], ?_,
        hends.other.trans (hother.trans hgother), by rw [hexch hends, hev, ← hnext]; rfl⟩
      · exact ((hgl.mono (by decide)).trans ((State.setGate_lands _ _ _).mono (by decide))).trans
          (hl.trans (hends.lands.mono (by decide)))
      · rw [hends.card, hself]
        exact hwst.2.trans hmod
    refine ⟨fun hst => ?_, fun origin hst horigin => ?_, fun hst => ?_⟩
    · obtain ⟨t, hex, hl, hopen, -, hused, hc, hother, hev⟩ := hcoming (.inl hst)
      refine ⟨t, hex, hl, hopen, hused.trans ?_, hc, hother, hev⟩
      simp [GateCtl.welcomed, GateCtl.helloClears, hmst, hst]
    · obtain ⟨t, hex, hl, hopen, hrest, hused, hc, hother, hev⟩ := hcoming (.inr hst)
      refine ⟨t, hex, hl, hopen, hrest, hused.trans ?_, hc, hother, hev⟩
      cases origin <;> simp [GateCtl.welcomed, GateCtl.helloClears, hmst, hst, hmrestart, horigin, hmused]
    · have hopen := afterHello_of_opened (u := w) (sd := sd) (o := o) (hmst.trans hst) hno'
      obtain ⟨t, hex, hends⟩ := hexec hopen (.inr (.inl (by rw [State.setGate_gate_self]; exact hmst.trans hst))) hwm
      refine ⟨t, hex, (hgl.trans ((State.setGate_lands _ _ _).mono (by decide))).trans (hends.lands.mono (by decide)), ?_, ?_, ?_, ?_, ?_⟩
      · rw [hends.state, State.setGate_gate_self]
        exact hmst.trans hst
      · rw [hends.restartUsed, State.setGate_gate_self]
      · rw [hends.card, State.setGate_gate_self]
        exact hmod
      · exact hends.other.trans ((State.setGate_gate_other _ _ _).trans hgother)
      · have htell := htold t ((hexch hends).trans rfl)
        rw [← ho, if_neg hno, hcard] at htell
        rw [hcard]
        exact htell
  · obtain rfl : o = .shut := hshut.1 hyes
    refine ⟨fun hst => ?_, fun hst hsale => ?_⟩
    · have hne : (w.gate sd).state ≠ .opened := by rw [hmst]; rcases hst with h | h <;> rw [h] <;> decide
      obtain ⟨t, hex, hl, hs, hrest, hused, hm, -, hother, htell⟩ := hstay
        (by rw [hcard, afterHello_of_shut, if_neg hne])
      rw [hcard] at hm
      exact ⟨t, hex, hl, hs, hrest, hused, hm, hother, htell⟩
    · have htrip : w.afterHello sd a.mod .shut = w.gateTrip sd .notAdmitted := by
        rw [hcard, afterHello_of_shut, if_pos (hmst.trans hst)]
      obtain ⟨htst, htwhy, htpower, -⟩ := gateTrip_trips w sd .notAdmitted
      obtain ⟨htself, htother⟩ := w.gateTrip_gate sd .notAdmitted
      have hl := gateTrip_lands w sd .notAdmitted
      have hev := gateTrip_nextEvent w sd .notAdmitted
      rw [if_pos (hmst.trans hst)] at htself
      generalize w.gateTrip sd .notAdmitted = x at *
      have hm : x.mode = w.mode := hl.2 .mode (by decide)
      have hxs : x.side sd = w.side sd := congrArg (Both.get · sd) (hl.2 .sides (by decide) : _)
      obtain ⟨t, hex, hends⟩ := hexec htrip (.inr (.inr (by rw [hxs, hws]; exact hsale))) (hm.trans hwm)
      have hdown : (x.gate sd).downlink = none := by rw [htself]; rfl
      refine ⟨t, hex, ((hgl.mono (by decide)).trans hl).trans (hends.lands.mono (by decide)), hends.state.trans htst,
        hends.trip.trans htwhy, hends.power.trans htpower, ?_, ?_, hends.other.trans (htother.trans hgother),
        by rw [hexch hends, hev, hnext]⟩
      · rw [hends.downlink (fun d hd => absurd (hdown.symm.trans hd) nofun), hdown]
      · rw [hends.card, htself, ← hmod, hcard]
        rfl
end


/-! ### Missed answers -/
section
namespace Sys2Proof.Machine

variable {s t u v : State} {sd : Side} {dt : Nat} {g : GateCtl} {i : ModuleId} {a : Addressing} {d : DownlinkInFlight}
  {r : Result}

/-- A module that has missed one more answer (R115). -/
def Module.missedOnce (m : Module) : Module := { m with missed := m.missed + 1 }

theorem countMiss_of_few (h : ((u.gate sd).mod i).status = some .active) (hm : ((u.gate sd).mod i).missed < 2) :
    u.countMiss sd i = u.setGate sd ((u.gate sd).setMod i ((u.gate sd).mod i).missedOnce) := by
  have hfew : ¬ ((u.gate sd).mod i).missed + 1 ≥ 3 := by omega
  unfold State.countMiss
  exact (if_pos h).trans (if_neg hfew)

/-- The third miss silences the module (R115, R120). -/
theorem countMiss_of_third (h : ((u.gate sd).mod i).status = some .active) (hm : ((u.gate sd).mod i).missed = 2) :
    u.countMiss sd i = (u.setGate sd ((u.gate sd).setMod i ((u.gate sd).mod i).missedOnce)).gateSilent sd := by
  have hthird : ((u.gate sd).mod i).missed + 1 ≥ 3 := by omega
  unfold State.countMiss
  exact (if_pos h).trans (if_pos hthird)

theorem downlinkResult_of_some (h : (u.gate sd).downlink = some d) : u.downlinkResult sd r =
    (u.setGate sd (u.gate sd).answered).handOver (Folio.downlink sd) r
      (Config.downlinkDetail d.sends (if r = .moduleBusy then d.busies else none)) := by
  simp only [State.downlinkResult, h]
  rfl

theorem unacknowledged_of_few (h : (u.gate sd).downlink = some d) (hd : d.sends ≤ u.cfg.downlinkRetries) :
    u.unacknowledged sd = u := by
  simp only [State.unacknowledged, h]
  exact if_neg (by omega)

theorem unacknowledged_of_many (h : (u.gate sd).downlink = some d) (hd : u.cfg.downlinkRetries < d.sends) :
    u.unacknowledged sd = u.downlinkResult sd .noAnswer := by
  simp only [State.unacknowledged, h]
  exact if_pos hd

/-- The answer to a downlink in flight hands its folio back (R130). -/
theorem answered_of_downlinkResult (h : (u.gate sd).downlink = some d) (hhead : ∀ x, u.header x = s.header x) :
    Answered s (u.downlinkResult sd r) (Folio.downlink sd) (s.header (Folio.downlink sd)).ref r
      (Config.downlinkDetail d.sends (if r = .moduleBusy then d.busies else none)) := by
  have hx : ∀ x, (u.setGate sd (u.gate sd).answered).header x = s.header x := hhead
  have hans := answered_of_handOver (s := s) (u := u.setGate sd (u.gate sd).answered) (f := Folio.downlink sd)
    (congrArg Header.count (hx _)) (fun x _ _ => hx x) r
    (Config.downlinkDetail d.sends (if r = .moduleBusy then d.busies else none))
  rw [downlinkResult_of_some h]
  rwa [hx] at hans

end Sys2Proof.Machine

open Sys2Proof Sys2Proof.Machine

/-- Settles O38: a miss by its number, and a downlink's by its sends. -/
theorem missedAnswersSilenceAModule : Obligations.MissedAnswersSilenceAModule := by
  unfold Obligations.MissedAnswersSilenceAModule
  intro dt sd s a c hp ha hc hactive
  dsimp only
  obtain ⟨r, hexec, -⟩ := exec_missed hp ha hc
  generalize hv : (s.elapse dt).setGate sd { s.gate sd with receiver := r } = v at hexec
  have hvg : v.gate sd = { s.gate sd with receiver := r } := by rw [← hv, State.setGate_gate_self]
  have hvmod : (v.gate sd).mod a.mod = (s.gate sd).mod a.mod := by rw [hvg]; cases a.mod <;> rfl
  have hvst : (v.gate sd).state = (s.gate sd).state := by rw [hvg]
  have hvo : v.gate sd.other = s.gate sd.other := by rw [← hv]; exact State.setGate_gate_other _ _ _
  have hvl : Lands dt [.gates] s v := by rw [← hv]; simp [lands_iff]
  have hvx : v.exch = s.exch := by rw [← hv]; rfl
  have hvm : v.mode = s.mode := by rw [← hv]; rfl
  have hstays : ∀ {w : State}, v.missAnswer sd a = w.endExchange sd a.mod → (w.gate sd).state = (s.gate sd).state →
      w.mode = s.mode → s.mode.stage ≠ some .readers → ∃ t, exec c s = .next t ∧ ExchangeEnds w t sd a.mod :=
    fun {w} hmiss hst hm hstage => by
      have hends := endExchange_ends w sd a.mod
      have hmode : (w.endExchange sd a.mod).mode = w.mode := hends.lands.2 .mode (by decide)
      refine ⟨_, hexec.trans (congrArg _ ?_), hends⟩
      rw [hmiss]
      exact afterGate_of_stays ((em _).symm.imp_right fun h => hends.state.trans (hst.trans h))
        (by rw [hmode, hm]; exact hstage)
  refine ⟨fun hfew hdown hstage => ?_, fun d hfew hdown hd hmod hstage => ⟨fun hretry => ?_, fun hgone => ?_⟩,
    fun hthird hdown hstage hused => ?_, fun hthird hdown hstage hused => ?_⟩
  · have hmiss : v.missAnswer sd a = (v.setGate sd ((v.gate sd).setMod a.mod
        ((v.gate sd).mod a.mod).missedOnce)).endExchange sd a.mod := by
      rw [← countMiss_of_few (by rw [hvmod]; exact hactive) (by rw [hvmod]; exact hfew)]
      simp [State.missAnswer, hdown]
    obtain ⟨t, hex, hends⟩ := hstays hmiss (by simp [hvst]) hvm hstage
    refine ⟨t, hex, (hvl.trans (State.setGate_lands _ _ _)).trans hends.lands, ?_, ?_, ?_⟩
    · rw [hends.state]
      simp [hvst]
    · rw [hends.mod, State.setGate_gate_self, GateCtl.setMod_mod, hvmod]
      rfl
    · rw [hends.other, State.setGate_gate_other, hvo]
  · have hvd : (v.gate sd).downlink = some d := by rw [hvg]; exact hd
    have hmiss : v.missAnswer sd a = (v.setGate sd ((v.gate sd).setMod a.mod
        ((v.gate sd).mod a.mod).missedOnce)).endExchange sd a.mod := by
      rw [← countMiss_of_few (by rw [hvmod]; exact hactive) (by rw [hvmod]; exact hfew)]
      simp only [State.missAnswer, hdown, if_true]
      rw [unacknowledged_of_few hvd (by rw [State.cfg, hvx]; exact hretry)]
    obtain ⟨t, hex, hends⟩ := hstays hmiss (by simp [hvst]) hvm hstage
    refine ⟨t, hex, (hvl.trans (State.setGate_lands _ _ _)).trans hends.lands, ?_, ?_, ?_⟩
    · have hwd : ((v.setGate sd ((v.gate sd).setMod a.mod ((v.gate sd).mod a.mod).missedOnce)).gate sd).downlink = some d := by
        simp [hvd]
      rw [hends.downlink fun d' h => (Option.some.inj (hwd.symm.trans h)) ▸ hmod, hwd]
    · rw [hends.mod, State.setGate_gate_self, GateCtl.setMod_mod, hvmod]
      rfl
    · rw [hends.other, State.setGate_gate_other, hvo]
  · have hvd : (v.gate sd).downlink = some d := by rw [hvg]; exact hd
    have hun := unacknowledged_of_many hvd (by rw [State.cfg, hvx]; exact hgone)
    have hans := answered_of_downlinkResult (s := s) (r := .noAnswer) hvd (fun x => by simp [State.header, hvx])
    obtain ⟨hxg, hxo⟩ := v.downlinkResult_gate sd .noAnswer
    have hxl : Lands 0 [.gates, .exch] v (v.downlinkResult sd .noAnswer) := by simp [lands_iff]
    generalize v.downlinkResult sd .noAnswer = x at *
    have hxmod : (x.gate sd).mod a.mod = (s.gate sd).mod a.mod := by
      rw [hxg, ← hvmod]
      cases a.mod <;> rfl
    have hxst : (x.gate sd).state = (s.gate sd).state := by rw [hxg]; exact hvst
    have hmiss : v.missAnswer sd a = (x.setGate sd ((x.gate sd).setMod a.mod
        ((x.gate sd).mod a.mod).missedOnce)).endExchange sd a.mod := by
      rw [← countMiss_of_few (by rw [hxmod]; exact hactive) (by rw [hxmod]; exact hfew)]
      simp only [State.missAnswer, hdown, if_true, hun]
    have hxm : x.mode = v.mode := hxl.2 .mode (by decide)
    obtain ⟨t, hex, hends⟩ := hstays hmiss (by simp [hxst]) (hxm.trans hvm) hstage
    have htx : t.exch = x.exch := hends.lands.2 .exch (by decide)
    have htm : t.mode = x.mode := hends.lands.2 .mode (by decide)
    have hwd : ((x.setGate sd ((x.gate sd).setMod a.mod ((x.gate sd).mod a.mod).missedOnce)).gate sd).downlink = none := by
      simp [hxg, GateCtl.answered]
    refine ⟨t, hex, ((hvl.mono (by decide)).trans hxl).trans
      (((State.setGate_lands _ _ _).trans hends.lands).mono (by decide)), ?_, ?_, ?_, hans.of_same htx (by rw [htm])⟩
    · rw [hends.downlink fun d' h => absurd (hwd.symm.trans h) nofun, hwd]
    · rw [hends.mod, State.setGate_gate_self, GateCtl.setMod_mod, hxmod]
      rfl
    · rw [hends.other, State.setGate_gate_other, hxo, hvo]
  all_goals
    have hmiss : v.missAnswer sd a = ((v.setGate sd ((v.gate sd).setMod a.mod
        ((v.gate sd).mod a.mod).missedOnce)).gateSilent sd).endExchange sd a.mod := by
      rw [← countMiss_of_third (by rw [hvmod]; exact hactive) (by rw [hvmod]; exact hthird)]
      simp [State.missAnswer, hdown]
    generalize hw : v.setGate sd ((v.gate sd).setMod a.mod ((v.gate sd).mod a.mod).missedOnce) = w at hmiss
    have hwused : (w.gate sd).restartUsed = (s.gate sd).restartUsed := by
      rw [← hw, State.setGate_gate_self, ((v.gate sd).setMod_frame a.mod _).2.2.2.1, hvg]
    have hwo : w.gate sd.other = s.gate sd.other := by rw [← hw, State.setGate_gate_other, hvo]
    have hwn : w.now = s.now + dt := by rw [← hw]; exact hvl.1
    have hwm : w.mode = s.mode := by rw [← hw]; exact hvm
    have hfinish : ∀ {x : State}, w.gateSilent sd = x → x.mode = w.mode → x.now = w.now → (x.gate sd).addressing = none →
        ∃ t, exec c s = .next t ∧ t.now = s.now + dt ∧ ∀ y, t.gate y = x.gate y := fun {x} hx hm hn hidle => by
      have hend : x.endExchange sd a.mod = x := by simp [State.endExchange, hidle]
      obtain ⟨hgates, -, -⟩ := afterGate_stands (s := x) (sd := sd) (old := (s.gate sd).state) (by rw [hm, hwm]; exact hstage)
      rw [hmiss, hx, hend] at hexec
      refine ⟨_, hexec, ?_, State.gate_eq_of_gates hgates⟩
      have hnow : (x.afterGate sd (s.gate sd).state).now = x.now := by simp
      rw [hnow, hn, hwn]
  · have hx : w.gateSilent sd = w.gateRestart sd .automatic := if_neg (by rw [hwused, hused]; decide)
    obtain ⟨hself, hother⟩ := w.gateRestart_gate sd .automatic
    have hself' : ((w.gateRestart sd .automatic).gate sd).state = .restarting ∧
        ((w.gateRestart sd .automatic).gate sd).power = false ∧
        ((w.gateRestart sd .automatic).gate sd).restart = some (.automatic, .offTime) ∧
        ((w.gateRestart sd .automatic).gate sd).restartUsed = true ∧
        ((w.gateRestart sd .automatic).gate sd).offT = some (w.now + seconds 2) ∧
        ((w.gateRestart sd .automatic).gate sd).addressing = none := by
      rw [hself]
      split <;> simp [GateCtl.restarted, GateCtl.answered, GateCtl.powerDown]
    obtain ⟨hst, hpower, hrest, hflag, hoff, hidle⟩ := hself'
    obtain ⟨t, hex, hnow, hgate⟩ := hfinish hx (by simp) (by simp) hidle
    refine ⟨t, hex, hnow, ?_⟩
    simp only [hgate]
    exact ⟨hst, hpower, hrest, hflag, by rw [hoff, hwn], hidle, hother.trans hwo⟩
  · have hx : w.gateSilent sd = w.gateTrip sd .silent := if_pos (by rw [hwused, hused])
    obtain ⟨hst, hwhy, hpower, -, hidle, -⟩ := gateTrip_trips w sd .silent
    obtain ⟨-, hother⟩ := w.gateTrip_gate sd .silent
    obtain ⟨t, hex, hnow, hgate⟩ := hfinish hx (by simp) (by simp) hidle
    refine ⟨t, hex, hnow, ?_⟩
    simp only [hgate]
    exact ⟨hst, hwhy, hpower, hidle, hother.trans hwo⟩
end


/-! ### Answers to a downlink -/
section
namespace Sys2Proof.Machine

variable {s t u v w : State} {sd : Side} {dt : Nat} {g : GateCtl} {i : ModuleId} {a : Addressing} {f : Frame}
  {d : DownlinkInFlight} {r : Result} {x : Option Addressing}

/-! #### Answers and events that follow one another -/

/-- An answer stands through what answers no folio and clears no fresh bit. -/
theorem Answered.of_owned {B : Folio → Prop} {fo : Folio} {ref : Word32} {dd : Word32} (h : Answered s u fo ref r dd)
    (hf : 7 ≤ fo.val) (ho : t.exch.owned = u.exch.owned) (hk : Keeps B u t) (hc : t.mode.clock = u.mode.clock) :
    Answered s t fo ref r dd := by
  obtain ⟨hhead, hother, hfresh⟩ := h
  have hh : ∀ g : Folio, 7 ≤ g.val → t.header g = u.header g := fun g => header_eq_of_owned ho
  exact ⟨by rw [hh fo hf, hc]; exact hhead, fun g hne hg => (hh g hg).trans (hother g hne hg), hk.fresh fo hfresh⟩

/-- A gate without a downlink in flight answers no folio as it changes (R118). -/
theorem gateChange_of_none (h : g.downlink = none) (c : GateCause) : u.gateChange sd g c =
    (((u.setGate sd g).raise .gate sd.number (.gate g.state c) (.gateState (u.gate sd).state)).postStatus).recompose
      sd := by
  have hnone : (u.setGate sd g).downlinkResult sd .gateClosed = u.setGate sd g := by simp [State.downlinkResult, h]
  unfold State.gateChange
  dsimp only
  rw [hnone, ite_self]

theorem gateTrip_owned_of_none (h : (u.gate sd).downlink = none) (why : TripReason) :
    (u.gateTrip sd why).exch.owned = u.exch.owned := by
  have hdown : ({ (u.gate sd).powerDown with state := .tripped, trip := some why, restart := none } : GateCtl).downlink =
    none := h
  have hchange := gateChange_of_none (u := u) (sd := sd) hdown (.trip why)
  rw [State.gateTrip]
  exact (congrArg (fun w : State => w.exch.owned) hchange).trans (by simp)

/-- A trip out of OPEN hands the downlink's folio back first (R118). -/
theorem gateTrip_of_opened (h : (u.gate sd).state = .opened) (why : TripReason) : u.gateTrip sd why =
    ((((u.setGate sd ((u.gate sd).tripped why)).downlinkResult sd .gateClosed).raise .gate sd.number
      (.gate .tripped (.trip why)) (.gateState .opened)).postStatus).recompose sd := by
  unfold State.gateTrip State.gateChange
  dsimp only
  rw [if_pos h, h]
  rfl

/-- Tamper trips an OPEN gate, whose downlink is answered first (R118, R122). -/
theorem gateTamper_of_opened (h : (u.gate sd).state = .opened) (source : Nat) : u.gateTamper sd source =
    (u.gateTrip sd .tamper).raise .tamper sd.number (.num source) (.gateState .opened) := by
  unfold State.gateTamper
  simp only [h]
  exact congrArg (fun w : State => w.raise .tamper sd.number (.num source) (.gateState .opened)) (if_neg (by decide))

/-! #### The answer by its class -/

theorem setGate_replied (u : State) (sd : Side) (i : ModuleId) : (if ((u.gate sd).mod i).status = some .active then
    u.setGate sd ((u.gate sd).setMod i { (u.gate sd).mod i with missed := 0 }) else u) =
      u.setGate sd ((u.gate sd).replied i) := by
  unfold GateCtl.replied
  split
  · rfl
  · rw [State.setGate_self]

theorem goodAnswer_of_ack (h : a.isDownlink = true) (hc : f.control.cls = .ack) : u.goodAnswer sd a f =
    ((u.setGate sd ((u.gate sd).replied a.mod)).downlinkResult sd .done).endExchange sd a.mod := by
  unfold State.goodAnswer
  simp only [h, if_true, hc, setGate_replied]

theorem goodAnswer_of_busy (h : a.isDownlink = true) (hc : f.control.cls = .busy) : u.goodAnswer sd a f =
    ((u.setGate sd ((u.gate sd).replied a.mod)).downlinkBusy sd).endExchange sd a.mod := by
  unfold State.goodAnswer
  simp only [h, if_true, hc, setGate_replied]

theorem goodAnswer_of_hello (h : a.isDownlink = true) (hc : f.control.cls = .hello) : u.goodAnswer sd a f =
    (((u.setGate sd ((u.gate sd).replied a.mod)).downlinkResult sd .noAnswer).takeByClass sd a.mod f).endExchange
      sd a.mod := by
  unfold State.goodAnswer
  simp only [h, if_true, hc, setGate_replied]

/-- An answer of a class that is none to a downlink is taken as if it answered a POLL (R130). -/
theorem goodAnswer_of_other (h : a.isDownlink = true) (hack : f.control.cls ≠ .ack) (hbusy : f.control.cls ≠ .busy)
    (hhello : f.control.cls ≠ .hello) : u.goodAnswer sd a f =
    (((u.setGate sd ((u.gate sd).replied a.mod)).takeByClass sd a.mod f).unacknowledged sd).endExchange sd a.mod := by
  unfold State.goodAnswer
  simp only [h, if_true, setGate_replied]

theorem downlinkBusy_of_some (h : (u.gate sd).downlink = some d) : u.downlinkBusy sd =
    if d.busies + 1 ≥ 10 then
      (u.setGate sd { u.gate sd with downlink := some { d with busies := d.busies + 1 } }).downlinkResult sd .moduleBusy
    else u.setGate sd { u.gate sd with downlink := some { d with busies := d.busies + 1 } } := by
  simp only [State.downlinkBusy, h]

/-! #### An uplink frame whoever it answers -/

/-- A state whose gate awaits another answer. -/
def State.readdressed (u : State) (sd : Side) (x : Option Addressing) : State :=
  u.setGate sd { u.gate sd with addressing := x }

theorem readdressed_setGate (u : State) (sd : Side) (x : Option Addressing) (y : GateCtl) :
    (u.readdressed sd x).setGate sd { y with addressing := x } = (u.setGate sd y).readdressed sd x := by
  simp [State.readdressed]

theorem readdressed_gate (u : State) (sd : Side) (x : Option Addressing) :
    (u.readdressed sd x).gate sd = { u.gate sd with addressing := x } := State.setGate_gate_self _ _ _

theorem uplinkInto_readdressed (u : State) (sd : Side) (x : Option Addressing) (j : Fin 2) :
    (u.readdressed sd x).uplinkInto sd j = (u.uplinkInto sd j).readdressed sd x := by
  have hhead : (u.readdressed sd x).header (Folio.uplink sd j) = u.header (Folio.uplink sd j) := rfl
  have hqueue : ((u.readdressed sd x).gate sd).queue = (u.gate sd).queue := by rw [readdressed_gate]
  cases hq : (u.gate sd).queue with
  | nil => rw [uplinkInto_of_nil _ hq, uplinkInto_of_nil _ (hqueue.trans hq)]
  | cons e rest =>
    by_cases hp : (u.header (Folio.uplink sd j)).holder = .part
    · rw [uplinkInto_of_part hq hp, uplinkInto_of_part (hqueue.trans hq) (by rw [hhead]; exact hp), readdressed_gate]
      cases sd <;> rfl
    · have hhost : (u.header (Folio.uplink sd j)).holder = .host := by
        cases h : (u.header (Folio.uplink sd j)).holder
        · rfl
        · exact absurd h hp
      rw [uplinkInto_of_host hhost, uplinkInto_of_host (by rw [hhead]; exact hhost)]

theorem uplinkFlow_readdressed (u : State) (sd : Side) (x : Option Addressing) :
    (u.readdressed sd x).uplinkFlow sd = (u.uplinkFlow sd).readdressed sd x := by
  rw [State.uplinkFlow, uplinkInto_readdressed, uplinkInto_readdressed, State.uplinkFlow]

theorem replied_readdressed (g : GateCtl) (i : ModuleId) (x : Option Addressing) :
    ({ g with addressing := x } : GateCtl).replied i = { g.replied i with addressing := x } := by
  have hmod : ({ g with addressing := x } : GateCtl).mod i = g.mod i := by cases i <;> rfl
  by_cases h : (g.mod i).status = some .active
  · rw [GateCtl.replied_of_active h, GateCtl.replied_of_active (by rw [hmod]; exact h), hmod]
    cases i <;> rfl
  · rw [GateCtl.replied_of_not h, GateCtl.replied_of_not (by rw [hmod]; exact h)]

theorem takeUplink_readdressed (u : State) (sd : Side) (x : Option Addressing) (i : ModuleId) (f : Frame) :
    (u.readdressed sd x).takeUplink sd i f = (u.takeUplink sd i f).readdressed sd x := by
  have hg := readdressed_gate u sd x
  have hmod : ((u.readdressed sd x).gate sd).mod i = (u.gate sd).mod i := by rw [hg]; cases i <;> rfl
  have hset : ∀ m, (u.readdressed sd x).setGate sd (((u.readdressed sd x).gate sd).setMod i m) =
      (u.setGate sd ((u.gate sd).setMod i m)).readdressed sd x := fun m => by
    rw [← readdressed_setGate, hg]
    cases i <;> rfl
  have hqueue : ((u.readdressed sd x).gate sd).queue = (u.gate sd).queue := by rw [hg]
  have hadm : ((u.readdressed sd x).gate sd).admission = (u.gate sd).admission := by rw [hg]
  have hcfg : (u.readdressed sd x).cfg = u.cfg := rfl
  have henq : ∀ b, (u.readdressed sd x).enqueue sd i f b = (u.enqueue sd i f b).readdressed sd x := fun b => by
    by_cases hfull : 4 ≤ (u.gate sd).queue.length
    · rw [enqueue_of_full hfull, enqueue_of_full (by rw [hqueue]; exact hfull), hmod, hset]
    · have hroom : (u.gate sd).queue.length < 4 := by omega
      rw [enqueue_of_room hroom, enqueue_of_room (u := u.readdressed sd x) (by rw [hqueue]; exact hroom), hmod,
        ← uplinkFlow_readdressed, ← readdressed_setGate, hg]
      cases i <;> rfl
  have href : (u.readdressed sd x).refuseFrame sd i f = (u.refuseFrame sd i f).readdressed sd x := by
    unfold State.refuseFrame
    dsimp only
    rw [hmod, hset]
    rfl
  by_cases hlast : ∃ j, ((u.gate sd).mod i).lastToggle = some (f.control.toggle, j)
  · obtain ⟨j, hj⟩ := hlast
    rw [takeUplink_of_resend hj, takeUplink_of_resend (by rw [hmod]; exact hj), hmod, hset]
  · have hnew := not_exists.1 hlast
    rw [takeUplink_of_new hnew, takeUplink_of_new (by rw [hmod]; exact hnew), hmod, hadm, hcfg, henq, henq, href]
    split
    · rfl
    · split <;> rfl

/-! #### What an uplink frame leaves alone -/

theorem uplinkFlow_leaves (u : State) (sd : Side) : (∃ q, (u.uplinkFlow sd).gate sd = { u.gate sd with queue := q }) ∧
    (u.uplinkFlow sd).gate sd.other = u.gate sd.other ∧ (u.uplinkFlow sd).header (Folio.downlink sd) = u.header (Folio.downlink sd) := by
  have hinto : ∀ (w : State) (j : Fin 2), (∃ q, (w.uplinkInto sd j).gate sd = { w.gate sd with queue := q }) ∧
      (w.uplinkInto sd j).gate sd.other = w.gate sd.other := fun w j => by
    cases hq : (w.gate sd).queue with
    | nil => rw [uplinkInto_of_nil _ hq]; exact ⟨⟨_, rfl⟩, rfl⟩
    | cons e rest =>
      cases hp : (w.header (Folio.uplink sd j)).holder with
      | host => rw [uplinkInto_of_host hp]; exact ⟨⟨_, rfl⟩, rfl⟩
      | part => rw [uplinkInto_of_part hq hp]; exact ⟨⟨rest, by simp⟩, by simp⟩
  have hne : ∀ j : Fin 2, Folio.downlink sd ≠ Folio.uplink sd j := by cases sd <;> decide
  obtain ⟨⟨q, hq⟩, ho⟩ := hinto u 0
  obtain ⟨⟨q', hq'⟩, ho'⟩ := hinto (u.uplinkInto sd 0) 1
  refine ⟨⟨q', hq'.trans (by rw [hq])⟩, ho'.trans ho, ?_⟩
  rw [State.uplinkFlow, uplinkInto_header_ne (hne 1), uplinkInto_header_ne (hne 0)]

/-- An uplink frame changes its module, the queue and the side's UPLINK folios (R116, R127, R128). -/
theorem takeUplink_leaves (u : State) (sd : Side) (i : ModuleId) (f : Frame) :
    (∃ m q, (u.takeUplink sd i f).gate sd = { (u.gate sd).setMod i m with queue := q }) ∧
      (u.takeUplink sd i f).gate sd.other = u.gate sd.other ∧
      (u.takeUplink sd i f).header (Folio.downlink sd) = u.header (Folio.downlink sd) := by
  have hset : ∀ m, (∃ m' q, (u.setGate sd ((u.gate sd).setMod i m)).gate sd = { (u.gate sd).setMod i m' with queue := q }) ∧
      (u.setGate sd ((u.gate sd).setMod i m)).gate sd.other = u.gate sd.other ∧
      (u.setGate sd ((u.gate sd).setMod i m)).header (Folio.downlink sd) = u.header (Folio.downlink sd) := fun m =>
    ⟨⟨m, ((u.gate sd).setMod i m).queue, State.setGate_gate_self _ _ _⟩, State.setGate_gate_other _ _ _, rfl⟩
  have henq : ∀ b, (∃ m q, (u.enqueue sd i f b).gate sd = { (u.gate sd).setMod i m with queue := q }) ∧
      (u.enqueue sd i f b).gate sd.other = u.gate sd.other ∧
      (u.enqueue sd i f b).header (Folio.downlink sd) = u.header (Folio.downlink sd) := fun b => by
    by_cases hfull : 4 ≤ (u.gate sd).queue.length
    · rw [enqueue_of_full hfull]
      exact hset _
    · rw [enqueue_of_room (Nat.lt_of_not_le hfull)]
      obtain ⟨⟨q, hq⟩, ho, hh⟩ := uplinkFlow_leaves (u.setGate sd ((u.gate sd).queued i f
        ⟨i, ((u.gate sd).mod i).tag, f.control.cls, b, f.payload, u.capture⟩)) sd
      rw [State.setGate_gate_self] at hq
      rw [State.setGate_gate_other] at ho
      exact ⟨⟨_, q, hq⟩, ho, hh⟩
  by_cases hlast : ∃ j, ((u.gate sd).mod i).lastToggle = some (f.control.toggle, j)
  · obtain ⟨j, hj⟩ := hlast
    rw [takeUplink_of_resend hj]
    exact hset _
  · rw [takeUplink_of_new (not_exists.1 hlast)]
    split
    · exact henq _
    · split
      · obtain ⟨hm, ho, -⟩ := hset { (u.gate sd).mod i with lastToggle := some (f.control.toggle, .refused), flag := .reject }
        exact ⟨hm, ho, header_eq_of_owned (s := u) (t := u.refuseFrame sd i f) (by simp [State.refuseFrame]) (downlink_ge sd)⟩
      · exact henq _

end Sys2Proof.Machine
end


/-! ### The answer to a downlink, by its class -/
section
open Sys2Proof Sys2Proof.Machine

/-- Settles O42: the answer by its class, and for a HELLO by its outcome and its module. -/
theorem downlinksAreAnswered : Obligations.DownlinksAreAnswered := by
  unfold Obligations.DownlinksAreAnswered
  intro dt sd s a d f hp ha hdown hr hgood hst hd hmod hactive hstage
  dsimp only
  have hel : (s.elapse dt).gate sd = s.gate sd := rfl
  have hrep : (s.gate sd).replied a.mod = (s.gate sd).setMod a.mod { (s.gate sd).mod a.mod with missed := 0 } :=
    GateCtl.replied_of_active hactive
  generalize hm0 : ({ (s.gate sd).mod a.mod with missed := 0 } : Module) = m0 at hrep ⊢
  generalize hv : (s.elapse dt).setGate sd ((s.gate sd).replied a.mod) = v
  have hvg : v.gate sd = (s.gate sd).setMod a.mod m0 := by rw [← hv, State.setGate_gate_self, hrep]
  have hvmod : (v.gate sd).mod a.mod = m0 := by rw [hvg, GateCtl.setMod_mod]
  have hvst : (v.gate sd).state = .opened := by rw [hvg]; simpa using hst
  have hvd : (v.gate sd).downlink = some d := by rw [hvg]; simpa using hd
  have hvo : v.gate sd.other = s.gate sd.other := by rw [← hv]; exact State.setGate_gate_other _ _ _
  have hvl : Lands dt [.gates] s v := by rw [← hv]; simp [lands_iff]
  have hvx : v.exch = s.exch := by rw [← hv]; rfl
  have hvm : v.mode = s.mode := by rw [← hv]; rfl
  have hvs : v.side sd = s.side sd := by rw [← hv]; rfl
  have hvh : ∀ x, v.header x = s.header x := fun x => by simp [State.header, hvx]
  have hvcfg : v.cfg = s.exch.config := by rw [State.cfg, hvx]
  have hexec : ∀ {w : State}, (s.elapse dt).goodAnswer sd a f = w.endExchange sd a.mod →
      ((w.gate sd).state = .opened ∨ (w.side sd).sale = none) → w.mode = s.mode →
      ∃ t, exec (.answerFrame dt sd f) s = .next t ∧ ExchangeEnds w t sd a.mod := fun htake hstate hm =>
    exec_good_answer hp ha hr hgood htake (.inr hstate) (by rwa [hm])
  have hexch : ∀ {w t : State} {i}, ExchangeEnds w t sd i → t.exch = w.exch ∧ t.mode = w.mode := fun h =>
    ⟨h.lands.2 .exch (by decide), h.lands.2 .mode (by decide)⟩
  have hkept : ∀ {w t : State} {e : DownlinkInFlight}, ExchangeEnds w t sd a.mod → (w.gate sd).downlink = some e →
      e.mod = d.mod → (t.gate sd).downlink = some e := fun h he hem => by
    rw [h.downlink fun d' hd' => by rw [← Option.some.inj (he.symm.trans hd'), hem, hmod], he]
  have hgone : ∀ {w t : State}, ExchangeEnds w t sd a.mod → (w.gate sd).downlink = none →
      (t.gate sd).downlink = none := fun h he => by
    rw [h.downlink fun d' hd' => absurd (he.symm.trans hd') nofun, he]
  have hresult : ∀ (w : State) (r : Result) (e : DownlinkInFlight), (w.gate sd).downlink = some e → w.exch = s.exch →
      w.mode = s.mode → (w.gate sd).state = .opened → w.gate sd.other = s.gate sd.other → Lands dt [.gates] s w →
      (s.elapse dt).goodAnswer sd a f = (w.downlinkResult sd r).endExchange sd a.mod →
      ∃ t, exec (.answerFrame dt sd f) s = .next t ∧ Lands dt [.gates, .exch] s t ∧ (t.gate sd).downlink = none ∧
        (t.gate sd).mod a.mod = (w.gate sd).mod a.mod ∧ t.gate sd.other = s.gate sd.other ∧
        Answered s t (Folio.downlink sd) (s.header (Folio.downlink sd)).ref r
          (Config.downlinkDetail e.sends (if r = .moduleBusy then e.busies else none)) := by
    intro w r e he hx hm hopen hother hl htake
    have hans := answered_of_downlinkResult (s := s) (r := r) he (fun y => by simp [State.header, hx])
    obtain ⟨hself, hoth⟩ := w.downlinkResult_gate sd r
    have hwl : Lands 0 [.gates, .exch] w (w.downlinkResult sd r) := by simp [lands_iff]
    obtain ⟨t, hex, hends⟩ := hexec htake (.inl (by rw [hself]; exact hopen)) ((hwl.2 .mode (by decide)).trans hm)
    obtain ⟨htx, htm⟩ := hexch hends
    refine ⟨t, hex, ((hl.mono (by decide)).trans hwl).trans (hends.lands.mono (by decide)), hgone hends (by rw [hself]; rfl),
      ?_, hends.other.trans (hoth.trans hother), hans.of_same htx (by rw [htm])⟩
    rw [hends.mod, hself]
    cases a.mod <;> rfl
  generalize hsc : scopeOf (s.gate sd).admission.keys (helloTag f.payload) = sc
  generalize ho : helloOutcome (s.exch.config.admissionMode.get sd) sc = o
  have hshut : (s.exch.config.admissionMode.get sd = .check ∧ sc = .other) ↔ o = .shut := by
    rw [← ho]
    cases s.exch.config.admissionMode.get sd <;> cases sc <;> simp [helloOutcome]
  have hgreet : f.control.cls = .hello → ∃ x : State,
      x.gate sd = ((s.gate sd).setMod a.mod (((s.gate sd).mod a.mod).hello (helloTag f.payload) (helloAt f.payload 2) sc o
        f.control.toggle)).answered ∧
      x.gate sd.other = s.gate sd.other ∧ Lands dt [.gates, .exch] s x ∧
      x.exch.nextEvent = succ32 s.exch.nextEvent ∧
      Answered s x (Folio.downlink sd) (s.header (Folio.downlink sd)).ref .noAnswer
        (Config.downlinkDetail d.sends none) ∧
      (s.elapse dt).goodAnswer sd a f = (x.afterHello sd a.mod o).endExchange sd a.mod := by
    intro hc
    have hans := answered_of_downlinkResult (s := s) (r := .noAnswer) hvd hvh
    obtain ⟨hwself, hwother⟩ := v.downlinkResult_gate sd .noAnswer
    have hwl : Lands 0 [.gates, .exch] v (v.downlinkResult sd .noAnswer) := by simp [lands_iff]
    have hwn : (v.downlinkResult sd .noAnswer).exch.nextEvent = s.exch.nextEvent :=
      (State.downlinkResult_nextEvent v sd .noAnswer).trans (by rw [hvx])
    have htake : (s.elapse dt).goodAnswer sd a f =
        ((v.downlinkResult sd .noAnswer).takeByClass sd a.mod f).endExchange sd a.mod := by
      rw [goodAnswer_of_hello hdown hc, hel, hv]
    have hwcfg : (v.downlinkResult sd .noAnswer).cfg = s.exch.config := by
      rw [State.cfg, ← hvx]
      simp
    generalize v.downlinkResult sd .noAnswer = w at *
    have hwkeys : (w.gate sd).admission = (s.gate sd).admission := by
      rw [hwself, hvg]
      exact ((s.gate sd).setMod_frame a.mod m0).2.2.2.2.2.2.2.2.2.1
    have hwmod : (w.gate sd).mod a.mod = m0 := by
      rw [hwself, ← hvmod]
      cases a.mod <;> rfl
    rw [takeByClass_of_hello hc, takeHello_eq (sc := sc) (o := o) (by rw [hwkeys]; exact hsc) (by rw [hwcfg]; exact ho)]
      at htake
    obtain ⟨hgself, hgother⟩ := greeted_gate w sd a.mod f sc o
    have hraised := greeted_raised w sd a.mod f sc o
    have hgl := greeted_lands w sd a.mod f sc o
    have howned : (w.greeted sd a.mod f sc o).exch.owned = w.exch.owned := by simp [State.greeted]
    have hkeeps : Keeps (fun _ => False) w (w.greeted sd a.mod f sc o) := by
      unfold State.greeted
      exact (Keeps.refl _ _).setGate.raise
    have hclock : (w.greeted sd a.mod f sc o).mode.clock = w.mode.clock := by simp [State.greeted]
    refine ⟨_, hgself.trans ?_, hgother.trans (hwother.trans hvo), ((hvl.mono (by decide)).trans hwl).trans hgl,
      hraised.1.trans (by rw [hwn]), hans.of_owned (downlink_ge sd) howned hkeeps hclock, htake⟩
    have hhello : m0.hello (helloTag f.payload) (helloAt f.payload 2) sc o f.control.toggle =
        ((s.gate sd).mod a.mod).hello (helloTag f.payload) (helloAt f.payload 2) sc o f.control.toggle := by rw [← hm0]; rfl
    rw [hwmod, hhello, hwself, hvg]
    cases a.mod <;> rfl
  refine ⟨fun hc => ?_, fun hc => ⟨fun hfew => ?_, fun hmany => ?_⟩, fun hc => ⟨fun hfew => ?_, fun hmany => ?_⟩,
    fun hc => ?_, fun hc => ⟨fun hno => ?_, fun hshut' hcard hsale => ?_⟩, fun hc hsale => ?_⟩
  · obtain ⟨t, hex, hl, hdn, hm, ho, hans⟩ := hresult v .done d hvd hvx hvm hvst hvo hvl
      ((goodAnswer_of_ack (u := s.elapse dt) hdown hc).trans (by rw [hel, hv]))
    exact ⟨t, hex, hl, hdn, hm.trans hvmod, ho, hans⟩
  · have htake : (s.elapse dt).goodAnswer sd a f =
        (v.setGate sd { v.gate sd with downlink := some { d with busies := d.busies + 1 } }).endExchange sd a.mod := by
      rw [goodAnswer_of_busy hdown hc, hel, hv, downlinkBusy_of_some hvd, if_neg (by omega)]
    obtain ⟨t, hex, hends⟩ := hexec htake (.inl (by rw [State.setGate_gate_self]; exact hvst)) hvm
    exact ⟨t, hex, (hvl.trans (State.setGate_lands _ _ _)).trans hends.lands,
      hkept hends (by rw [State.setGate_gate_self]) rfl, hends.other.trans ((State.setGate_gate_other _ _ _).trans hvo)⟩
  · have htake : (s.elapse dt).goodAnswer sd a f = ((v.setGate sd { v.gate sd with
        downlink := some { d with busies := d.busies + 1 } }).downlinkResult sd .moduleBusy).endExchange sd a.mod := by
      rw [goodAnswer_of_busy hdown hc, hel, hv, downlinkBusy_of_some hvd, if_pos (by omega)]
    obtain ⟨t, hex, hl, hdn, -, ho, hans⟩ := hresult
      (v.setGate sd { v.gate sd with downlink := some { d with busies := d.busies + 1 } }) .moduleBusy
      { d with busies := d.busies + 1 }
      (by rw [State.setGate_gate_self]) hvx hvm (by rw [State.setGate_gate_self]; exact hvst)
      ((State.setGate_gate_other _ _ _).trans hvo) (hvl.trans (State.setGate_lands _ _ _)) htake
    exact ⟨t, hex, hl, hdn, ho, hans⟩
  · have htake : (s.elapse dt).goodAnswer sd a f = v.endExchange sd a.mod := by
      have hno : v.takeByClass sd a.mod f = v := by simp [State.takeByClass, hc]
      rw [goodAnswer_of_other hdown (by rw [hc]; decide) (by rw [hc]; decide) (by rw [hc]; decide), hel, hv, hno,
        unacknowledged_of_few hvd (by rw [hvcfg]; exact hfew)]
    obtain ⟨t, hex, hends⟩ := hexec htake (.inl hvst) hvm
    exact ⟨t, hex, hvl.trans hends.lands, hkept hends hvd rfl, hends.other.trans hvo⟩
  · have htake : (s.elapse dt).goodAnswer sd a f = (v.downlinkResult sd .noAnswer).endExchange sd a.mod := by
      have hno : v.takeByClass sd a.mod f = v := by simp [State.takeByClass, hc]
      rw [goodAnswer_of_other hdown (by rw [hc]; decide) (by rw [hc]; decide) (by rw [hc]; decide), hel, hv, hno,
        unacknowledged_of_many hvd (by rw [hvcfg]; exact hmany)]
    obtain ⟨t, hex, hl, hdn, -, ho, hans⟩ := hresult v .noAnswer d hvd hvx hvm hvst hvo hvl htake
    exact ⟨t, hex, hl, hdn, ho, hans⟩
  · have hne : f.control.cls ≠ .ack ∧ f.control.cls ≠ .busy ∧ f.control.cls ≠ .hello := by
      revert hc
      cases f.control.cls <;> simp [FrameClass.isUplink]
    obtain ⟨hack, hbusy, hhello⟩ := hne
    have hup : v.takeByClass sd a.mod f = v.takeUplink sd a.mod f := by
      rw [takeByClass_of_uplink hc, if_pos (by rw [hvmod, ← hm0]; exact hactive)]
    have htake : (s.elapse dt).goodAnswer sd a f = ((v.takeUplink sd a.mod f).unacknowledged sd).endExchange sd a.mod := by
      rw [goodAnswer_of_other hdown hack hbusy hhello, hel, hv, hup]
    obtain ⟨⟨m, q, hrg⟩, hro, hrh⟩ := takeUplink_leaves v sd a.mod f
    have hrl : Lands 0 [.gates, .exch] v (v.takeUplink sd a.mod f) := by simp [lands_iff]
    have hrcfg : (v.takeUplink sd a.mod f).cfg = s.exch.config := by
      rw [State.cfg, ← hvx]
      simp
    generalize hx : some { a with isDownlink := false } = x
    have hpolled : ((((s.readdressed sd x).elapse dt).setGate sd (((s.readdressed sd x).gate sd).replied a.mod)).takeByClass
        sd a.mod f) = (v.takeUplink sd a.mod f).readdressed sd x := by
      have hvr : ((s.readdressed sd x).elapse dt).setGate sd (((s.readdressed sd x).gate sd).replied a.mod) =
          v.readdressed sd x := by
        rw [← hv, readdressed_gate, replied_readdressed]
        exact readdressed_setGate (s.elapse dt) sd x _
      have hmodr : ((v.readdressed sd x).gate sd).mod a.mod = m0 := by
        rw [readdressed_gate, ← hvmod]
        cases a.mod <;> rfl
      rw [hvr, ← takeUplink_readdressed, takeByClass_of_uplink hc, if_pos (by rw [hmodr, ← hm0]; exact hactive)]
    have hag : (s.readdressed sd x).gate sd = { s.gate sd with addressing := x } := readdressed_gate _ _ _
    generalize v.takeUplink sd a.mod f = r at *
    have hrst : (r.gate sd).state = .opened := by rw [hrg]; simpa using hvst
    have hrd : (r.gate sd).downlink = some d := by rw [hrg]; simpa using hvd
    have hrm : r.mode = s.mode := (hrl.2 .mode (by decide)).trans hvm
    have hrmr : (r.readdressed sd x).mode = r.mode := rfl
    obtain ⟨u, huex, huends⟩ := exec_polled_answer (s := s.readdressed sd x) (dt := dt) (f := f)
      (a := { a with isDownlink := false }) (by rw [hag]; exact hp) (by rw [hag]; exact hx.symm) rfl
      (by rw [hag]; exact hr) hgood hpolled (.inr (.inl (by rw [readdressed_gate]; exact hrst)))
      (by rw [hrmr, hrm]; exact hstage)
    have humod : (u.gate sd).mod a.mod = (r.gate sd).mod a.mod := by
      rw [huends.mod, readdressed_gate]
      cases a.mod <;> rfl
    have huqueue : (u.gate sd).queue = (r.gate sd).queue := by rw [huends.queue, readdressed_gate]
    have huexch : u.exch = r.exch := (hexch huends).1
    have huhead : ∀ y, u.header y = r.header y := fun y => by simp [State.header, huexch]
    rcases Nat.lt_or_ge s.exch.config.downlinkRetries d.sends with hmany | hfew
    · rw [unacknowledged_of_many hrd (by rw [hrcfg]; exact hmany), downlinkResult_of_some hrd] at htake
      generalize hw : r.setGate sd (r.gate sd).answered = w at htake
      have hwg : w.gate sd = (r.gate sd).answered := by rw [← hw, State.setGate_gate_self]
      have hwo : w.gate sd.other = r.gate sd.other := by rw [← hw]; exact State.setGate_gate_other _ _ _
      have hwl : Lands 0 [.gates, .exch] r w := by rw [← hw]; exact (State.setGate_lands _ _ _).mono (by decide)
      have hwh : ∀ y, w.header y = r.header y := fun y => by rw [← hw]; rfl
      have hwx : w.exch = r.exch := by rw [← hw]; rfl
      have hwm : w.mode = s.mode := (hwl.2 .mode (by decide)).trans hrm
      obtain ⟨hhself, hhother⟩ := w.handOver_header (Folio.downlink sd) .noAnswer (Config.downlinkDetail d.sends none)
      have hfresh := handOver_fresh (f := Folio.downlink sd) w .noAnswer (Config.downlinkDetail d.sends none)
      generalize hz : w.handOver (Folio.downlink sd) .noAnswer (Config.downlinkDetail d.sends none) = z at *
      have htake' : (s.elapse dt).goodAnswer sd a f = z.endExchange sd a.mod := by rw [← hz]; exact htake
      have hzl : Lands 0 [.gates, .exch] w z := by rw [← hz]; simp [lands_iff]
      have hzg : ∀ y, z.gate y = w.gate y := fun y => by simp [← hz]
      obtain ⟨t, hex, hends⟩ := hexec htake' (.inl (by rw [hzg, hwg]; exact hrst)) ((hzl.2 .mode (by decide)).trans hwm)
      obtain ⟨htx, -⟩ := hexch hends
      have hth : ∀ y, t.header y = z.header y := fun y => by simp [State.header, htx]
      have hdn : (t.gate sd).downlink = none := hgone hends (by rw [hzg, hwg]; rfl)
      refine ⟨t, u, hex, huex, ?_, ?_, ?_, ?_, ?_, ?_, ?_, fun y hy => ?_, fun h => absurd hmany (by omega), fun _ => ⟨hdn, ?_, ?_⟩⟩
      · exact ((hvl.mono (by decide)).trans (hrl.trans (hwl.trans hzl))).trans (hends.lands.mono (by decide))
      · rw [hends.state, hzg, hwg]
        exact hrst
      · rw [hends.other, hzg, hwo, hro, hvo]
      · rw [hends.mod, hzg, hwg, humod]
        cases a.mod <;> rfl
      · rw [hends.queue, hzg, hwg, huqueue]
        rfl
      · rw [htx, huexch, ← hwx, ← hz]
        rfl
      · rw [htx, huexch, ← hwx, ← hz]
        rfl
      · rw [hth, hhother y hy, hwh, huhead]
      · rw [hth, hhself, hwh, hrh, hvh, hwm]
      · rw [htx]
        exact hfresh
    · rw [unacknowledged_of_few hrd (by rw [hrcfg]; exact hfew)] at htake
      obtain ⟨t, hex, hends⟩ := hexec htake (.inl hrst) hrm
      obtain ⟨htx, -⟩ := hexch hends
      have hth : ∀ y, t.header y = r.header y := fun y => by simp [State.header, htx]
      refine ⟨t, u, hex, huex, ((hvl.mono (by decide)).trans hrl).trans (hends.lands.mono (by decide)), hends.state.trans hrst,
        hends.other.trans (hro.trans hvo), hends.mod.trans humod.symm, hends.queue.trans huqueue.symm, by rw [htx, huexch],
        by rw [htx, huexch], fun y _ => (hth y).trans (huhead y).symm,
        fun _ => ⟨hkept hends hrd rfl, (hth _).trans (hrh.trans (hvh _))⟩, fun h => absurd h (by omega)⟩
  · obtain ⟨x, hxself, hxother, hxl, hxn, hxans, htake⟩ := hgreet hc
    have hxm : x.mode = s.mode := hxl.2 .mode (by decide)
    have hxst : (x.gate sd).state = .opened := by
      rw [hxself]
      exact ((s.gate sd).setMod_frame a.mod _).1.trans hst
    have hafter : ∃ b, x.afterHello sd a.mod o = x.setGate sd { x.gate sd with restartUsed := b } := by
      cases hcard : a.mod with
      | keypad => exact ⟨(x.gate sd).restartUsed, (State.setGate_self x sd).symm⟩
      | card => exact ⟨false, afterHello_of_opened hxst fun h => hno ⟨hshut.2 h, hcard⟩⟩
    obtain ⟨b, hb⟩ := hafter
    rw [hb] at htake
    obtain ⟨t, hex, hends⟩ := hexec htake (.inl (by rw [State.setGate_gate_self]; exact hxst)) hxm
    obtain ⟨htx, htm⟩ := hexch hends
    have htmod : (t.gate sd).mod a.mod = ((s.gate sd).mod a.mod).hello (helloTag f.payload) (helloAt f.payload 2) sc o
        f.control.toggle := by
      rw [hends.mod, State.setGate_gate_self, hxself]
      cases a.mod <;> rfl
    refine ⟨t, hex, (hxl.trans ((State.setGate_lands _ _ _).mono (by decide))).trans (hends.lands.mono (by decide)), ?_, ?_, ?_,
      ?_, ?_, ?_, ?_⟩
    · rw [hends.state, State.setGate_gate_self]
      exact hxst
    · exact hgone hends (by rw [State.setGate_gate_self, hxself]; rfl)
    · rw [htmod]
      rfl
    · rw [htmod]
      by_cases h : o = .shut
      · exact .inl ⟨hshut.2 h, by rw [h]; rfl⟩
      · refine .inr ⟨fun h' => h (hshut.1 h'), ?_⟩
        cases o with
        | shut => exact absurd rfl h
        | admitted => rfl
        | referred => rfl
    · exact hends.other.trans ((State.setGate_gate_other _ _ _).trans hxother)
    · rw [htx]
      exact hxn
    · exact hxans.of_same htx (by rw [htm]; rfl)
  · obtain ⟨x, hxself, hxother, hxl, hxn, hxans, htake⟩ := hgreet hc
    have hxm : x.mode = s.mode := hxl.2 .mode (by decide)
    have hxs : x.side sd = s.side sd := congrArg (Both.get · sd) (hxl.2 .sides (by decide) : _)
    have hxst : (x.gate sd).state = .opened := by
      rw [hxself]
      exact ((s.gate sd).setMod_frame a.mod _).1.trans hst
    have hxd : (x.gate sd).downlink = none := by rw [hxself]; rfl
    rw [hshut.1 hshut', hcard, afterHello_of_shut, if_pos hxst] at htake
    obtain ⟨htst, htwhy, htpower, -⟩ := gateTrip_trips x sd .notAdmitted
    obtain ⟨htself, htother⟩ := x.gateTrip_gate sd .notAdmitted
    have hl := gateTrip_lands x sd .notAdmitted
    have hev := gateTrip_nextEvent x sd .notAdmitted
    have hclock : (x.gateTrip sd .notAdmitted).mode.clock = x.mode.clock := by simp
    have hans := hxans.of_owned (downlink_ge sd) (gateTrip_owned_of_none hxd .notAdmitted)
      (Keeps.gateTrip (B := fun _ => False) (Keeps.refl _ _)) hclock
    rw [if_pos hxst] at htself
    generalize x.gateTrip sd .notAdmitted = y at *
    have hys : y.side sd = x.side sd := congrArg (Both.get · sd) (hl.2 .sides (by decide) : _)
    obtain ⟨t, hex, hends⟩ := hexec (hcard ▸ htake) (.inr (by rw [hys, hxs]; exact hsale)) ((hl.2 .mode (by decide)).trans hxm)
    obtain ⟨htx, htm⟩ := hexch hends
    refine ⟨t, hex, ((hxl.mono (by decide)).trans hl).trans (hends.lands.mono (by decide)), hends.state.trans htst,
      hends.trip.trans htwhy, hends.power.trans htpower, hgone hends (by rw [htself]; rfl), ?_,
      hends.other.trans (htother.trans hxother), by rw [htx, hev, hxn], hans.of_same htx (by rw [htm])⟩
    rw [hends.card, htself, hxself, hcard, hshut.1 hshut']
    rfl
  · have htrip := gateTrip_of_opened hvst .tamper
    have hans := answered_of_downlinkResult (s := s) (r := .gateClosed) (d := d)
      (u := v.setGate sd ((v.gate sd).tripped .tamper)) (sd := sd) (by rw [State.setGate_gate_self]; exact hvd) hvh
    obtain ⟨htst, htwhy, htpower, -⟩ := gateTrip_trips v sd .tamper
    obtain ⟨htself, htother⟩ := v.gateTrip_gate sd .tamper
    have hl := gateTrip_lands v sd .tamper
    have hev := gateTrip_nextEvent v sd .tamper
    have howned : (v.gateTrip sd .tamper).exch.owned =
        ((v.setGate sd ((v.gate sd).tripped .tamper)).downlinkResult sd .gateClosed).exch.owned := by
      rw [htrip]
      simp
    have hkeeps : Keeps (fun _ => False) ((v.setGate sd ((v.gate sd).tripped .tamper)).downlinkResult sd .gateClosed)
        (v.gateTrip sd .tamper) := by
      rw [htrip]
      exact (Keeps.raise (Keeps.refl _ _)).postStatus.recompose
    have hclock : (v.gateTrip sd .tamper).mode.clock =
        ((v.setGate sd ((v.gate sd).tripped .tamper)).downlinkResult sd .gateClosed).mode.clock := by simp
    have hans' := hans.of_owned (downlink_ge sd) howned hkeeps hclock
    rw [if_pos hvst] at htself
    have htam : v.takeByClass sd a.mod f = (v.gateTrip sd .tamper).raise .tamper sd.number (.num a.mod.addr)
        (.gateState .opened) := by
      rw [← gateTamper_of_opened hvst]
      unfold State.takeByClass
      simp only [hc]
    have htake : (s.elapse dt).goodAnswer sd a f = ((v.takeByClass sd a.mod f).unacknowledged sd).endExchange sd a.mod := by
      rw [goodAnswer_of_other hdown (by rw [hc]; decide) (by rw [hc]; decide) (by rw [hc]; decide), hel, hv]
    rw [htam] at htake
    generalize v.gateTrip sd .tamper = y at *
    have hym : y.mode = s.mode := (hl.2 .mode (by decide)).trans hvm
    have hys : y.side sd = s.side sd := (congrArg (Both.get · sd) (hl.2 .sides (by decide) : _)).trans hvs
    have hyd : (y.gate sd).downlink = none := by rw [htself]; rfl
    obtain ⟨-, hzn, -⟩ := y.raise_ring .tamper sd.number (.num a.mod.addr) (.gateState .opened)
    have hnew : NewestEvent (y.raise .tamper sd.number (.num a.mod.addr) (.gateState .opened)) y.mode.clock .tamper
        sd.number (.num a.mod.addr) (.gateState .opened) := ⟨_, rfl, Vector.getElem_set_self _⟩
    have hzans := hans'.of_owned (B := fun _ => False) (downlink_ge sd)
      (t := y.raise .tamper sd.number (.num a.mod.addr) (.gateState .opened)) (by simp) (Keeps.raise (Keeps.refl _ _)) rfl
    have hzl : Lands 0 [.gates, .display, .exch] y (y.raise .tamper sd.number (.num a.mod.addr) (.gateState .opened)) := by
      simp [lands_iff]
    have hzg : ∀ k, (y.raise .tamper sd.number (.num a.mod.addr) (.gateState .opened)).gate k = y.gate k := fun k => by simp
    have hzs : (y.raise .tamper sd.number (.num a.mod.addr) (.gateState .opened)).side sd = y.side sd := by simp
    have hzm : (y.raise .tamper sd.number (.num a.mod.addr) (.gateState .opened)).mode = y.mode := by simp
    generalize y.raise .tamper sd.number (.num a.mod.addr) (.gateState .opened) = z at *
    have hun : z.unacknowledged sd = z := by simp [State.unacknowledged, hzg, hyd]
    rw [hun] at htake
    obtain ⟨t, hex, hends⟩ := hexec htake (.inr (by rw [hzs, hys]; exact hsale)) (hzm.trans hym)
    obtain ⟨htx, htm⟩ := hexch hends
    refine ⟨t, hex, (((hvl.mono (by decide)).trans hl).trans hzl).trans (hends.lands.mono (by decide)),
      hends.state.trans (by rw [hzg]; exact htst), hends.trip.trans (by rw [hzg]; exact htwhy),
      hends.power.trans (by rw [hzg]; exact htpower), hgone hends (by rw [hzg]; exact hyd), ?_, ?_, ?_, hzans.of_same htx (by rw [htm])⟩
    · rw [hends.other, hzg, htother, hvo]
    · rw [htx, hzn, hev, hvx]
    · obtain ⟨n, hn, hring⟩ := hnew
      rw [hym] at hring
      exact ⟨n, by rw [htx]; exact hn, by rw [htx]; exact hring⟩
end


/-! ### The stage timers -/
section
namespace Sys2Proof.Machine

variable {s t u v : State} {sd : Side} {dt d : Nat} {p : Product}

theorem Lands.of_elapse {bs : List Block} (h : Lands 0 bs (s.elapse dt) t) : Lands dt bs s t :=
  ⟨h.1, fun b hb => by have hsame := h.2 b hb; cases b <;> exact hsame⟩

/-! #### CHECK and WARM -/

theorem exec_wakeSettle (hst : s.mode.stage = some .wake) (hd : s.mode.wakeT = some d) (hle : d ≤ s.now + dt) :
    exec (.wakeSettle dt) s = .next ((s.elapse dt).setMode { s.mode with wakeT := none }).checkStage := by
  have hdue : (decide ((s.elapse dt).mode.stage = some .wake) && (s.elapse dt).mode.wakeT.due (s.elapse dt).now) = true := by
    rw [Bool.and_eq_true]
    exact ⟨decide_eq_true hst, (Timer.due_iff _ _).2 ⟨d, hd, hle⟩⟩
  exact congrArg Host.Outcome.next (if_pos hdue)

/-- A factor that CHECK passes (R167). -/
def factorFits (u : State) (m : Meter) : Prop := ∃ cf, PerMeter.get u.journal.master m = some cf ∧ 256 ≤ cf ∧ cf ≤ 16383

/-- A grade that CHECK does not pass (R167). -/
def unpricedGrade (u : State) (g : Fin 6) : Prop := mapped u.prices.maps g = true ∧ u.prices.active.get g = 0

theorem firstUnpriced_none (u : State) : firstUnpriced u.prices.maps u.prices.active = none ↔ ∀ g, ¬ unpricedGrade u g := by
  simp [firstUnpriced, List.find?_eq_none, unpricedGrade]

/-- CHECK finds nothing exactly when the journal has a slot, every factor fits and every mapped grade has its price (R167). -/
theorem checkFinds_none (u : State) : u.checkFinds = none ↔
    u.journal.empty = false ∧ (∀ m, factorFits u m) ∧ ∀ g, ¬ unpricedGrade u g := by
  have hfactor : ∀ m, (∀ cf, PerMeter.get u.journal.master m = some cf → ¬ (cf < 256 ∨ 16383 < cf)) ∧
      PerMeter.get u.journal.master m ≠ none ↔ factorFits u m := fun m => by
    unfold factorFits
    cases h : PerMeter.get u.journal.master m <;> simp
  unfold State.checkFinds
  split
  case isTrue he => simp [he]
  case isFalse he =>
    have hempty : u.journal.empty = false := by simpa using he
    split
    case h_1 m hm =>
      have hbad := List.find?_some hm
      refine iff_of_false nofun fun h => ?_
      obtain ⟨cf, hcf, hlo, hhi⟩ := h.2.1 m
      rw [hcf] at hbad
      simp at hbad
      omega
    case h_2 hnone =>
      have hall : ∀ m, factorFits u m := fun m => by
        have hm := List.find?_eq_none.1 hnone m (mem_allMeters m)
        unfold factorFits
        cases h : PerMeter.get u.journal.master m <;> simp_all
      rw [Option.map_eq_none_iff, firstUnpriced_none]
      exact ⟨fun h => ⟨hempty, hall, h⟩, fun h => h.2.2⟩

theorem checkStage_of_fails (h : (u.toStage .check).checkFinds ≠ none) :
    ∃ v : State, u.checkStage = v.returnToClosed .checkFailed ∧ v.now = u.now := by
  unfold State.checkStage
  cases hf : (u.toStage .check).checkFinds with
  | none => exact absurd hf h
  | some x =>
    simp only [hf]
    exact ⟨_, rfl, by simp⟩

theorem checkStage_of_passes (h : (u.toStage .check).checkFinds = none) :
    u.checkStage = (u.toStage .check).warmStage := by
  unfold State.checkStage
  simp only [h]

theorem returnToClosed_wakeT (s : State) (c : ModeCause) : (s.returnToClosed c).mode.wakeT = none := by
  unfold State.returnToClosed
  dsimp only
  rw [State.changeMode_mode]
  rfl

/-- A reading at the threshold, of the last one held (R107). -/
def State.isWarm (u : State) : Prop := ∃ r, u.display.temperature = some r ∧ u.cfg.warmThreshold ≤ r

theorem warmStage_of_cold (h : ¬ u.isWarm) : u.warmStage = { u.toStage .warm with display := { u.display with
    coldFlag := false, heater := true, warmT := some (u.now + seconds (60 * u.cfg.warmLimit)) } } := by
  have hd : (u.toStage .warm).display = u.display := by simp
  have hc : (u.toStage .warm).cfg = u.cfg := by simp [State.cfg]
  have hn : (u.toStage .warm).now = u.now := by simp
  unfold State.warmStage
  dsimp only
  rw [hd, hc, hn]
  refine if_neg ?_
  cases ht : u.display.temperature with
  | none => simp
  | some r => exact fun hw => h ⟨r, ht, of_decide_eq_true hw⟩

theorem warmStage_of_warm (h : u.isWarm) : u.warmStage = ({ u.toStage .warm with display := { u.display with
    coldFlag := false, heater := false } } : State).warmDone false := by
  have hd : (u.toStage .warm).display = u.display := by simp
  have hc : (u.toStage .warm).cfg = u.cfg := by simp [State.cfg]
  unfold State.warmStage
  dsimp only
  rw [hd, hc]
  refine if_pos ?_
  obtain ⟨r, hr, hle⟩ := h
  rw [hr]
  exact decide_eq_true hle

/-! #### The grace timer -/

theorem exec_closeGrace (hst : s.mode.stage = some .drain) (hd : s.mode.graceT = some d) (hle : d ≤ s.now + dt) :
    exec (.closeGrace dt) s =
      .next (((s.elapse dt).setMode { s.mode with graceT := none }).bothSides State.graceEnds) := by
  have hdue : (decide ((s.elapse dt).mode.stage = some .drain) && (s.elapse dt).mode.graceT.due (s.elapse dt).now) = true := by
    rw [Bool.and_eq_true]
    exact ⟨decide_eq_true hst, (Timer.due_iff _ _).2 ⟨d, hd, hle⟩⟩
  exact congrArg Host.Outcome.next (if_pos hdue)

theorem graceEnds_of_remaining (h : (u.side sd).state = .starting ∨ (u.side sd).state.delivers = true ∨
    (u.side sd).state = .suspended) : u.graceEnds sd = u.toEnding sd .closing := by
  unfold State.graceEnds
  cases hst : (u.side sd).state <;> simp_all [SideState.delivers]

theorem graceEnds_side_other (u : State) (sd : Side) : (u.graceEnds sd).side sd.other = u.side sd.other := by
  unfold State.graceEnds
  split
  all_goals simp

theorem graceEnds_lands (u : State) (sd : Side) : Lands 0 [.sides, .display, .journal, .exch] u (u.graceEnds sd) := by
  unfold State.graceEnds
  split
  all_goals simp [lands_iff]

/-! #### The spacing timer -/

theorem exec_motorSpacing (hst : s.mode.stage = some .motorsOff) (hd : s.mode.spacingT = some d) (hle : d ≤ s.now + dt) :
    exec (.motorSpacing dt) s = .next (s.elapse dt).spacingStep.afterMotors := by
  have hdue : (decide ((s.elapse dt).mode.stage = some .motorsOff) &&
      (s.elapse dt).mode.spacingT.due (s.elapse dt).now) = true := by
    rw [Bool.and_eq_true]
    exact ⟨decide_eq_true hst, (Timer.due_iff _ _).2 ⟨d, hd, hle⟩⟩
  exact congrArg Host.Outcome.next (if_pos hdue)

/-- A motor that turns after a confirmed start stops at its turn (R87). -/
theorem stopMotor_of_confirmed (h : (u.motor p).state.confirmed = true) : u.stopMotor p =
    (u.setMotor p { u.opened (u.motor p) with users := Users.none, state := .stopped }).postStatus := by
  unfold State.stopMotor
  cases hst : (u.motor p).state <;> simp_all [MotorState.confirmed]

theorem stopMotor_facts (h : (u.motor p).state.confirmed = true) : Lands 0 [.motors, .exch] u (u.stopMotor p) ∧
    (u.stopMotor p).motors.motor =
      u.motors.motor.set p { u.opened (u.motor p) with users := Users.none, state := .stopped } ∧
    (u.stopMotor p).exch.nextEvent = u.exch.nextEvent := by
  rw [stopMotor_of_confirmed h]
  refine ⟨by simp [lands_iff], by simp [State.setMotor], ?_⟩
  exact (events_of_log (State.postStatus_quiet _).1).2

/-- Displays with no test in hand are asked to go dark (R104): the dark timer starts, or goes on if it is running. -/
theorem goDark_of_idle (hidle : ∀ sd, (u.disp sd).state ≠ .testing ∧ (u.disp sd).lamp = none)
    (hdelay : u.display.darkT = none → u.cfg.darkDelay ≠ 0) : u.goDark =
    { u with display := { u.display with
        darkT := some (u.display.darkT.getD (u.now + seconds u.cfg.darkDelay)) } } := by
  have htest : ∀ x, u.darkenTesting x = u := fun x => by
    obtain ⟨hst, hl⟩ := hidle x
    unfold State.darkenTesting
    dsimp only
    rw [hl]
    cases h : (u.disp x).state <;> simp_all
  unfold State.goDark
  rw [htest, htest]
  dsimp only
  split
  case h_1 x hd =>
    have hsame : some (u.display.darkT.getD (u.now + seconds u.cfg.darkDelay)) = u.display.darkT := by
      rw [hd, Option.getD_some]
    rw [hsame]
  case h_2 hd => rw [if_neg (hdelay hd), hd, Option.getD_none]

/-- AUX's turn (R173): the DISPLAY stage asks idle displays to go dark. -/
theorem displayStage_of_idle (hidle : ∀ sd, (u.disp sd).state ≠ .testing ∧ (u.disp sd).lamp = none)
    (hdelay : u.display.darkT = none → u.cfg.darkDelay ≠ 0) (hdark : u.display.darkening = false) :
    u.displayStage = { u.toStage .display with display := { u.display with
        darkT := some (u.display.darkT.getD (u.now + seconds u.cfg.darkDelay)) } } := by
  have hd : (u.toStage .display).display = u.display := by simp
  have hc : (u.toStage .display).cfg = u.cfg := by simp [State.cfg]
  have hn : (u.toStage .display).now = u.now := by simp
  unfold State.displayStage
  rw [goDark_of_idle (by simpa [State.disp] using hidle) (by rw [hd, hc]; exact hdelay), hd, hc, hn]
  exact darkReport_of_lit hdark

end Sys2Proof.Machine

open Sys2Proof Sys2Proof.Machine

/-- Settles O55: the wake delay's CHECK, the grace timer's end, and HIGH's and AUX's turns. -/
theorem stageTimersExpire : Obligations.StageTimersExpire := by
  unfold Obligations.StageTimersExpire
  intro dt s d hle
  refine ⟨fun hst hd => ?_, fun sd o hst hd hside ho => ?_, fun hst hd hnext hconf hnone => ?_,
    fun hst hd hnext hconf hnone hdark hidle hdelay => ?_⟩
  · have hexec := exec_wakeSettle hst hd hle
    generalize hv : (s.elapse dt).setMode { s.mode with wakeT := none } = v at hexec
    have hvj : (v.toStage .check).journal = s.journal := by simp [← hv]
    have hvp : (v.toStage .check).prices = s.prices := by simp [← hv]
    have hvd : (v.toStage .check).display = s.display := by simp [← hv]
    have hvc : (v.toStage .check).cfg = s.exch.config := by simp [← hv, State.cfg]
    have hvn : (v.toStage .check).now = s.now + dt := by simp [← hv]
    have hvl : Lands dt [.mode, .exch] s (v.toStage .check) := by simp [lands_iff, ← hv]
    have hfits : ∀ m, factorFits (v.toStage .check) m ↔
        ∃ cf, PerMeter.get s.journal.master m = some cf ∧ 256 ≤ cf ∧ cf ≤ 16383 := fun m => by rw [factorFits, hvj]
    have hprice : ∀ g, unpricedGrade (v.toStage .check) g ↔
        mapped s.prices.maps g = true ∧ s.prices.active.get g = 0 := fun g => by rw [unpricedGrade, hvp]
    refine ⟨fun hfails => ?_, fun hempty hfactors hpriced => ⟨fun hcold => ?_, fun r hr hwarm => ?_⟩⟩
    · have hfinds : (v.toStage .check).checkFinds ≠ none := fun h => by
        obtain ⟨he, hf, hp⟩ := (checkFinds_none _).1 h
        rw [hvj] at he
        rcases hfails with h | ⟨m, h⟩ | ⟨g, h⟩
        · exact absurd (he.symm.trans h) (by decide)
        · exact h ((hfits m).1 (hf m))
        · exact hp g ((hprice g).2 h)
      obtain ⟨w, hw, hwn⟩ := checkStage_of_fails hfinds
      obtain ⟨hclosed, hstage, -⟩ := returnToClosed_facts w .checkFailed
      have hnow : (w.returnToClosed .checkFailed).now = w.now := by simp
      refine ⟨_, hexec.trans (congrArg _ hw), ?_, hclosed, hstage, returnToClosed_wakeT _ _⟩
      rw [hnow, hwn, ← hv]
      rfl
    all_goals
      have hpass : (v.toStage .check).checkFinds = none := (checkFinds_none _).2
        ⟨by rw [hvj]; exact hempty, fun m => (hfits m).2 (hfactors m), fun g h => hpriced g ((hprice g).1 h)⟩
      rw [checkStage_of_passes hpass] at hexec
      generalize v.toStage .check = u at *
    · have hno : ¬ u.isWarm := fun ⟨r, hr, hw⟩ => by
        rw [hvd] at hr
        rw [hvc] at hw
        exact absurd (hcold r hr) (by omega)
      rw [warmStage_of_cold hno] at hexec
      refine ⟨_, hexec, hvl.mono (by decide) |>.trans (by simp [lands_iff]), by simp, rfl, rfl, ?_⟩
      rw [hvn, hvc]
    · have hyes : u.isWarm := ⟨r, by rw [hvd]; exact hr, by rw [hvc]; exact hwarm⟩
      rw [warmStage_of_warm hyes] at hexec
      generalize hw : ({ u.toStage .warm with display := { u.display with coldFlag := false, heater := false } } : State) = w
        at hexec
      have hwst : w.mode.stage = some .warm := by rw [← hw]; simp
      have hwl : Lands 0 [.display, .mode, .exch] u w := by rw [← hw]; simp [lands_iff]
      obtain ⟨hcold, hlamp, hplant⟩ := warmDone_mode (cold := false) hwst
      have hawait : (w.warmDone false).mode.lampAwait = Both.same true := by rw [warmDone_of_warm hwst, State.lampStage_mode]
      obtain ⟨-, hheater, -, -, hflag, -⟩ := (Display.plant_iff _ _).1 hplant
      refine ⟨_, hexec, ((hvl.mono (by decide)).trans hwl).trans (by simp [lands_iff]), hlamp, hcold, ?_, ?_, hawait⟩
      · rw [hheater, ← hw]
      · rw [hflag, ← hw]
  · have hexec := exec_closeGrace hst hd hle
    generalize hv : (s.elapse dt).setMode { s.mode with graceT := none } = v at hexec
    have hvs : ∀ x, v.side x = s.side x := fun x => by rw [← hv]; rfl
    have hvl : Lands dt [.mode] s v := by rw [← hv]; simp [lands_iff]
    have hl : Lands 0 [.sides, .display, .journal, .exch] v (v.bothSides State.graceEnds) :=
      (graceEnds_lands v .a).trans (graceEnds_lands _ .b)
    have hends : ∀ w : State, w.side sd = s.side sd → GoesToEnding s (w.graceEnds sd) sd .closing := fun w hw => by
      have hsale : (w.side sd).sale = some o := by rw [hw]; exact ho
      obtain ⟨⟨hto, -⟩, -⟩ := w.toEnding_endsWith sd hsale .closing
      rw [graceEnds_of_remaining (by rw [hw]; exact hside)]
      rwa [GoesToEnding, hw] at hto
    have hboth : GoesToEnding s (v.bothSides State.graceEnds) sd .closing := by
      cases sd with
      | a =>
        have hother : (v.bothSides State.graceEnds).side .a = (v.graceEnds .a).side .a :=
          graceEnds_side_other (v.graceEnds .a) .b
        have h := hends v (hvs .a)
        rwa [GoesToEnding, ← hother] at h
      | b => exact hends (v.graceEnds .a) ((graceEnds_side_other v .a).trans (hvs .b))
    obtain ⟨hstate, hsale, hmain, -⟩ := hboth
    refine ⟨_, hexec, (hvl.mono (by decide)).trans (hl.mono (by decide)), ?_, hstate, ?_, hmain⟩
    · exact (hl.2 .mode (by decide)).trans (by rw [← hv]; rfl)
    · rw [hsale, ho]
      rfl
  · have hexec := exec_motorSpacing hst hd hle
    obtain ⟨hul, humotor, hun⟩ := stopMotor_facts (u := s.elapse dt) hconf
    have hstep : (s.elapse dt).spacingStep = ((s.elapse dt).stopMotor .high).setMode
        { ((s.elapse dt).stopMotor .high).mode with
          spacingNext := some .aux, spacingT := some (((s.elapse dt).stopMotor .high).now + seconds 1) } := by
      simp [State.spacingStep, hnext]
    generalize (s.elapse dt).stopMotor .high = u at *
    have hum : u.mode = s.mode := hul.2 .mode (by decide)
    have hus : u.sides = s.sides := hul.2 .sides (by decide)
    rw [hstep, afterMotors_of_none ⟨fun x => by simpa [State.side, hus] using hnone.1 x, by simp [hum, hst]⟩] at hexec
    have hmotor : ∀ q, (u.setMode { u.mode with
        spacingNext := some .aux, spacingT := some (u.now + seconds 1) }).motor q = u.motors.motor.get q := fun _ => rfl
    rw [humotor] at hmotor
    have hself := (hmotor .high).trans (PerProduct.get_set_self _ _ _)
    refine ⟨_, hexec, ?_, by rw [hself], by rw [hself]; rfl, by rw [hself], ?_,
      (hmotor .low).trans (PerProduct.get_set_ne _ _ (by decide)), (hmotor .aux).trans (PerProduct.get_set_ne _ _ (by decide)),
      ?_, hun⟩
    · rw [lands_iff] at hul ⊢
      simp_all
    · rw [hself]
      exact hul.1.symm
    · rw [State.setMode_mode, hum, show u.now = s.now + dt from hul.1]
  · have hexec := exec_motorSpacing hst hd hle
    obtain ⟨hul, humotor, hun⟩ := stopMotor_facts (u := s.elapse dt) hconf
    have hstep : (s.elapse dt).spacingStep = (((s.elapse dt).stopMotor .aux).setMode
        { ((s.elapse dt).stopMotor .aux).mode with spacingNext := none, spacingT := none }).displayStage := by
      simp [State.spacingStep, hnext]
    have hucfg : ((s.elapse dt).stopMotor .aux).exch.config = s.exch.config := by simp
    generalize (s.elapse dt).stopMotor .aux = u at *
    have hum : u.mode = s.mode := hul.2 .mode (by decide)
    have hus : u.sides = s.sides := hul.2 .sides (by decide)
    have hud : u.display = s.display := hul.2 .display (by decide)
    have hun' : u.now = s.now + dt := hul.1
    generalize hv : u.setMode { u.mode with spacingNext := none, spacingT := none } = v at hstep
    have hvd : v.display = s.display := by rw [← hv]; exact hud
    have hvs : v.sides = s.sides := by rw [← hv]; exact hus
    have hvn : v.now = s.now + dt := by rw [← hv]; exact hun'
    have hvl : Lands dt [.motors, .mode, .exch] s v :=
      (hul.of_elapse.mono (by decide)).trans (by rw [← hv]; simp [lands_iff])
    have hvm : v.mode = { s.mode with spacingNext := none, spacingT := none } := by rw [← hv, State.setMode_mode, hum]
    have hvmotor : v.motors.motor = u.motors.motor := by rw [← hv]; rfl
    have hvx : v.exch = u.exch := by rw [← hv]; rfl
    have hvc : v.cfg = s.exch.config := by
      rw [State.cfg, hvx, hucfg]
    rw [displayStage_of_idle (u := v) (by simpa [State.disp, hvd] using hidle) (by rw [hvd, hvc]; exact hdelay)
      (by rw [hvd]; exact hdark), hvd, hvc, hvn] at hstep
    generalize hw : v.toStage .display = w at hstep
    have hwl : Lands 0 [.mode, .exch] v w := by rw [← hw]; simp [lands_iff]
    have hwm : w.mode = { s.mode with stage := some .display, spacingNext := none, spacingT := none } := by
      rw [← hw, State.toStage_mode, hvm]
    have hwmotor : w.motors.motor = u.motors.motor :=
      (congrArg Motors.motor (hwl.2 .motors (by decide) : w.motors = v.motors)).trans hvmotor
    have hws : w.sides = s.sides := (hwl.2 .sides (by decide) : w.sides = v.sides).trans hvs
    have hwnext : w.exch.nextEvent = s.exch.nextEvent := by
      rw [← hw]
      exact ((events_of_log (State.postStatus_quiet _).1).2.trans (congrArg Exchange.nextEvent hvx)).trans hun
    rw [hstep, afterMotors_of_none ⟨fun x => by simpa [State.side, hws] using hnone.1 x, by simp [hwm]⟩] at hexec
    generalize hX : s.display.darkT.getD (s.now + dt + seconds s.exch.config.darkDelay) = X at hexec ⊢
    have hmotor : ∀ q, ({ w with display := { s.display with darkT := some X } } : State).motor q =
      (s.motors.motor.set .aux { (s.elapse dt).opened ((s.elapse dt).motor .aux) with
        users := Users.none, state := .stopped }).get q := fun q => congrArg (PerProduct.get · q) (hwmotor.trans humotor)
    have hself := (hmotor .aux).trans (PerProduct.get_set_self _ _ _)
    refine ⟨_, hexec, ?_, by rw [hself], by rw [hself]; rfl, by rw [hself], ?_,
      (hmotor .low).trans (PerProduct.get_set_ne _ _ (by decide)), (hmotor .high).trans (PerProduct.get_set_ne _ _ (by decide)),
      hwm, rfl, hwnext⟩
    · have hlast : Lands 0 [.motors, .display, .mode, .exch] w { w with display := { s.display with darkT := some X } } := by
        simp [lands_iff]
      exact ((hvl.mono (by decide)).trans (hwl.mono (by decide))).trans hlast
    · rw [hself]
      exact (hwl.1.trans hvn).symm
end


/-! ### DRAIN ends: the gates and the motors go off -/
section
namespace Sys2Proof.Machine

variable {s t u : State} {sd : Side} {dt : Nat} {o : Sale} {p : Product}

/-! #### The stop command and the claim -/

/-- A motor with an empty FIFO that is told to stop has no users and does not turn (R87). -/
theorem stopMotor_stops (h : u.motors.fifo = []) :
    ((u.stopMotor p).motor p).users = Users.none ∧ ((u.stopMotor p).motor p).state.turning = false := by
  unfold State.stopMotor
  dsimp only
  cases hst : (u.motor p).state
  case waiting =>
    have hq : ∀ v : State, v.motors.fifo = [] → v.newHeadTest u.motors.fifo.head? = v := fun v hv =>
      if_pos (by rw [hv, h])
    dsimp only
    rw [hq _ (by simp [State.dropFifo, State.setFifo, State.setMotor, h])]
    simp [State.dropFifo, State.setFifo, State.setMotor, State.motor, MotorState.turning]
  case starting =>
    dsimp only
    rw [arbiterTest_of_nil (by simpa [State.setMotor] using h)]
    simp [State.setMotor, State.motor, MotorState.turning]
  all_goals simp [State.setMotor, State.motor, MotorState.turning]

/-- A mode claim leaves a TRIPPED gate and takes any other OFF (R125). -/
theorem gateClaim_state (u : State) (sd : Side) :
    ((u.gateClaim sd).gate sd).state = if (u.gate sd).state = .tripped then .tripped else .off := by
  have hoff : ((u.gateOff sd).gate sd).state = .off := by
    unfold State.gateOff
    rw [(State.gateChange_gate _ _ _ _).1]
    split <;> rfl
  unfold State.gateClaim
  cases h : (u.gate sd).state <;> simp [hoff, h]

theorem gatesClaimed_state (u : State) (x : Side) : (((u.gateClaim .a).gateClaim .b).gate x).state =
    if (u.gate x).state = .tripped then .tripped else .off := by
  cases x with
  | a =>
    have hother : ((u.gateClaim .a).gateClaim .b).gate .a = (u.gateClaim .a).gate .a := (gateClaim_gate _ .b).2
    rw [hother, gateClaim_state]
  | b =>
    have hother : (u.gateClaim .a).gate .b = u.gate .b := (gateClaim_gate _ .a).2
    rw [gateClaim_state, hother]

theorem MotorsGoOff.of_same (h : MotorsGoOff u t) (hgates : u.gates = s.gates)
    (hfifo : s.motors.fifo = [] → u.motors.fifo = []) : MotorsGoOff s t := by
  obtain ⟨hmode, hstage, hgrace, hnext, hspacing, hgate, hmotor⟩ := h
  refine ⟨hmode, hstage, hgrace, hnext, hspacing, fun x => ?_, fun hf => hmotor (hfifo hf)⟩
  rw [hgate, State.gate, hgates]
  rfl

/-- READERS_OFF and MOTORS_OFF with LOW's stop (R173). -/
theorem readersOffStage_goesOff (hm : u.mode.mode = .closing) (hg : u.mode.graceT = none) :
    MotorsGoOff u u.readersOffStage := by
  unfold State.readersOffStage State.motorsOffStage
  have hclaim : ∀ x, ((((u.toStage .readersOff).gateClaim .a).gateClaim .b).gate x).state =
      if (u.gate x).state = .tripped then .tripped else .off := fun x => by
    have hsame : (u.toStage .readersOff).gate x = u.gate x := by simp [State.gate]
    rw [gatesClaimed_state, hsame]
  generalize hv : ((u.toStage .readersOff).gateClaim .a).gateClaim .b = v at hclaim
  have hvm : v.mode = { u.mode with stage := some .readersOff } := by simp [← hv, State.toStage, State.setMode]
  have hvf : v.motors = u.motors := by simp [← hv]
  have hw : (v.toStage .motorsOff).mode = { u.mode with stage := some .motorsOff } := by
    simp [State.toStage, State.setMode, hvm]
  have hstands := stopMotor_stands (v.toStage .motorsOff) .low
  unfold ModeStands at hstands
  rw [hw] at hstands
  have hstops := fun h => stopMotor_stops (u := v.toStage .motorsOff) (p := .low) h
  have hgates : ((v.toStage .motorsOff).stopMotor .low).gates = v.gates := by simp
  generalize (v.toStage .motorsOff).stopMotor .low = w at *
  have hwm : w.mode.mode = .closing := (congrArg ModeCtl.mode hstands).trans hm
  have hws : w.mode.stage = some .motorsOff := congrArg ModeCtl.stage hstands
  have hwg : w.mode.graceT = none := (congrArg ModeCtl.graceT hstands).trans hg
  refine ⟨hwm, hws, hwg, rfl, rfl, fun x => ?_, fun hf => hstops (by simpa [hvf] using hf)⟩
  rw [← hclaim x]
  simp [State.gate, hgates]

theorem drainTest_of_all (hst : u.mode.stage = some .drain) (ha : u.mode.drainAwait = Both.same false) :
    u.drainTest = (u.setMode { u.mode with graceT := none }).readersOffStage := if_pos ⟨hst, ha⟩

theorem drainTest_goesOff (hm : u.mode.mode = .closing) (hst : u.mode.stage = some .drain)
    (ha : u.mode.drainAwait = Both.same false) : MotorsGoOff u u.drainTest := by
  rw [drainTest_of_all hst ha]
  exact (readersOffStage_goesOff (u := u.setMode { u.mode with graceT := none }) hm rfl).of_same rfl id

/-! #### The sale that DRAIN awaits last -/

theorem nextAfter_holdsSale (x : SideCtl) (o : Sale) (m : Mode) : (x.nextAfter o m).holdsSale = false := by
  unfold SideCtl.nextAfter
  dsimp only
  repeat' split
  all_goals rfl

theorem releaseAll_fifo (w : User) (hf : s.motors.fifo = []) : (s.releaseAll w).motors.fifo = [] := by
  have hfifo : (((s.release w .low).release w .high).release w .aux).motors.fifo = [] :=
    release_fifo w (release_fifo w (release_fifo w hf))
  rw [State.releaseAll, State.newHeadTest, if_pos (by rw [hfifo, hf])]
  exact hfifo

theorem completeSale_fifo (ho : (s.side sd).sale = some o) (reason : Option EndReason) (hf : s.motors.fifo = []) :
    (s.completeSale sd reason).motors.fifo = [] := by
  have hleave : (s.leaving sd o).motors.fifo = [] := by
    unfold State.leaving
    have hdetach : (if o.cap.isSome then s.detachMeters sd else s).motors.fifo = [] := by split <;> simp [hf]
    simpa using releaseAll_fifo (.side sd) hdetach
  rw [State.completeSale_eq ho]
  simpa [State.setSide] using hleave

theorem Both.set_false_eq (b : Both Bool) (sd : Side) : b.set sd false = Both.same false ↔ b.get sd.other = false := by
  obtain ⟨x, y⟩ := b
  cases sd <;> simp [Both.set, Both.same, Both.get, Side.other]

/-- A completion in DRAIN (R172): the stage goes on, or ends with the sale awaited last. -/
theorem finishSale_drains (ho : (s.side sd).sale = some o) (hm : s.mode.mode = .closing)
    (hst : s.mode.stage = some .drain) (hswap : s.prices.swapDue = false) :
    (s.mode.drainAwait.get sd.other = false → MotorsGoOff s (s.finishSale sd none)) ∧
      (s.mode.drainAwait.get sd.other = true → (s.finishSale sd none).mode = { s.mode with
        drainAwait := s.mode.drainAwait.set sd false }) := by
  have hmode : (s.completeSale sd none).mode = s.mode := completeSale_mode ho none (by simp [hst])
  have hside := completeSale_side ho none
  have hfifo := completeSale_fifo ho none
  have hgates : (s.completeSale sd none).gates = s.gates := by rw [State.completeSale_eq ho]; simp [State.setSide]
  rw [finishSale_eq none (.inr hswap)]
  generalize s.completeSale sd none = c at *
  have hidle : (((c.bothSides State.startingTest).side sd).state).holdsSale = false := by
    rw [bothStarting_side (by rw [hside]; exact nextAfter_ne_starting _ _ _), hside]
    exact nextAfter_holdsSale _ _ _
  have hbmode : (c.bothSides State.startingTest).mode = s.mode := by simp [hmode]
  have hbgates : (c.bothSides State.startingTest).gates = s.gates := by simp [hgates]
  have hbfifo : s.motors.fifo = [] → (c.bothSides State.startingTest).motors.fifo = [] := fun h => by simp [hfifo h]
  generalize c.bothSides State.startingTest = b at *
  have hreport : b.drainReport sd = (b.setMode { b.mode with drainAwait := b.mode.drainAwait.set sd false }).drainTest :=
    if_pos ⟨by rw [hbmode, hst], hidle⟩
  rw [hreport, hbmode]
  refine ⟨fun hlast => ?_, fun hmore => ?_⟩
  · exact (drainTest_goesOff (u := b.setMode { s.mode with drainAwait := s.mode.drainAwait.set sd false }) hm hst
      ((Both.set_false_eq _ _).2 hlast)).of_same hbgates hbfifo
  · have hno : ¬ s.mode.drainAwait.set sd false = Both.same false := fun h => by
      rw [Both.set_false_eq, hmore] at h
      cases h
    rw [State.drainTest, if_neg fun h => hno h.2]
    rfl

/-! #### A CLOSE with no sale -/

/-- With no sale a closing goes past REFUSE and DRAIN at once (R172). -/
theorem beginClosing_empty (h : ∀ sd, (u.side sd).state.holdsSale = false) (c : ModeCause) :
    MotorsGoOff u (u.beginClosing c) := by
  unfold State.beginClosing
  have hgates : (u.changeMode .closing (some .refuse) (.modeCause c)).gates = u.gates := by simp
  have hmotors : (u.changeMode .closing (some .refuse) (.modeCause c)).motors = u.motors := by simp
  have hsides : (u.changeMode .closing (some .refuse) (.modeCause c)).sides = u.sides := by simp
  have hmode := State.changeMode_mode u .closing (some .refuse) (.modeCause c)
  generalize u.changeMode .closing (some .refuse) (.modeCause c) = v at *
  have hidle : ∀ x, (v.side x).state.holdsSale = false := fun x => by rw [State.side, hsides]; exact h x
  have hrefuse : ∀ x, v.refuseSale x = v := fun x => if_neg fun ha => by
    have hx := hidle x
    rw [ha] at hx
    cases hx
  have hboth : v.bothSides State.refuseSale = v := by rw [State.bothSides, hrefuse, hrefuse]
  rw [hboth]
  dsimp only
  have hds : ∀ x, ((v.toStage .drain).side x).state.holdsSale = false := fun x => by simpa [State.side] using hidle x
  have hdm : (v.toStage .drain).mode.mode = .closing := by simp [State.toStage, State.setMode, hmode]
  have hdst : (v.toStage .drain).mode.stage = some .drain := by simp [State.toStage, State.setMode]
  have hdg : (v.toStage .drain).gates = u.gates := by simp [hgates]
  have hdf : (v.toStage .drain).motors = u.motors := by simp [hmotors]
  generalize v.toStage .drain = w at *
  rw [hds, hds]
  refine (drainTest_goesOff ?_ ?_ rfl).of_same ?_ ?_
  · exact hdm
  · exact hdst
  · exact hdg
  · exact fun hf => (congrArg (·.fifo) hdf).trans hf

end Sys2Proof.Machine
end


/-! ### The displays are dark, the closing snapshot, and night -/
section
namespace Sys2Proof.Machine

variable {s t u : State} {sd : Side} {dt : Nat} {w : Write} {q : Slot}

/-! #### What a closing leaves of the site order's folio -/

theorem gateClaim_header (u : State) (sd : Side) {f : Folio} (hf : 7 ≤ f.val) (hne : f ≠ Folio.downlink sd) :
    (u.gateClaim sd).header f = u.header f := by
  have hdown : ∀ (v : State) r, (v.downlinkResult sd r).header f = v.header f := fun v r => by
    cases hd : (v.gate sd).downlink with
    | none => simp [State.downlinkResult, hd]
    | some d =>
      rw [downlinkResult_of_some hd, (State.handOver_header _ _ _ _).2 f hne]
      rfl
  have hchange : ∀ g c, (u.gateChange sd g c).header f = u.header f := fun g c => by
    unfold State.gateChange
    dsimp only
    have hshow : ∀ (v : State) k o d e, ((v.raise k o d e).postStatus.recompose sd).header f = v.header f :=
      fun v k o d e => header_eq_of_owned (by simp) hf
    rw [hshow]
    split
    · exact (hdown _ _).trans rfl
    · rfl
  unfold State.gateClaim
  split
  case h_1 => exact hchange _ _
  case h_2 => exact hchange _ _
  case h_3 => exact hchange _ _
  case h_4 => rfl
  case h_5 => rfl

theorem readersOffStage_header (u : State) {f : Folio} (hf : 7 ≤ f.val) (hne : ∀ x, f ≠ Folio.downlink x) :
    u.readersOffStage.header f = u.header f := by
  have hoff : ∀ v : State, v.motorsOffStage.header f = v.header f := fun v =>
    header_eq_of_owned (by simp [State.motorsOffStage]) hf
  rw [State.readersOffStage, hoff, gateClaim_header _ _ hf (hne _), gateClaim_header _ _ hf (hne _)]
  exact header_eq_of_owned (by simp) hf

theorem beginClosing_header (h : ∀ sd, (u.side sd).state.holdsSale = false) (c : ModeCause) {f : Folio} (hf : 7 ≤ f.val)
    (hne : ∀ x, f ≠ Folio.downlink x) : (u.beginClosing c).header f = u.header f := by
  unfold State.beginClosing
  have hsides : (u.changeMode .closing (some .refuse) (.modeCause c)).sides = u.sides := by simp
  have hhead : (u.changeMode .closing (some .refuse) (.modeCause c)).header f = u.header f :=
    header_eq_of_owned (by simp) hf
  generalize u.changeMode .closing (some .refuse) (.modeCause c) = v at *
  have hrefuse : ∀ x, v.refuseSale x = v := fun x => if_neg fun ha => by
    have hx := h x
    rw [State.side, ← hsides] at hx
    rw [State.side] at ha
    rw [ha] at hx
    cases hx
  rw [State.bothSides, hrefuse, hrefuse]
  dsimp only
  have hstage : (v.toStage .drain).header f = u.header f := (header_eq_of_owned (by simp) hf).trans hhead
  unfold State.drainTest
  split
  · rw [readersOffStage_header _ hf hne]
    exact hstage
  · exact hstage

/-! #### The displays are dark -/

/-- The SNAPSHOT stage with the supply off (R104, R173). -/
theorem snapshotStage_begins (hs : u.display.supply = false) (hd : u.display.darkening = false) :
    SnapshotBegins u u.snapshotStage := by
  have hj : (u.toStage .snapshot).journal = u.journal := by simp
  have hdisp : (u.toStage .snapshot).display = u.display := by simp
  have hmode : (u.toStage .snapshot).mode.mode = u.mode.mode ∧ (u.toStage .snapshot).mode.stage = some .snapshot := by
    simp [State.toStage, State.setMode]
  unfold State.snapshotStage
  dsimp only
  rw [hj]
  generalize u.toStage .snapshot = v at *
  have hrm : ∀ x : State, x.requestSnapshot.mode = x.mode := fun x => by simp
  have hrd : ∀ x : State, x.requestSnapshot.display = x.display := fun x => by simp
  refine ⟨?_, ?_, ?_, ?_, fun hp he => ⟨fun hno => ?_, fun hfl => ?_⟩⟩
  · rw [hrm]; exact hmode.1
  · rw [hrm]; exact hmode.2
  · rw [hrd]; exact (congrArg Display.supply hdisp).trans hs
  · rw [hrd]; exact (congrArg Display.darkening hdisp).trans hd
  · rw [requestSnapshot_of_idle (s := { v with journal := { u.journal with closeWait := .toBegin } }) hp hno he]
    exact ⟨_, rfl, rfl, rfl, rfl⟩
  · rw [requestSnapshot_of_writing (s := { v with journal := { u.journal with closeWait := .toBegin } }) hp hfl]
    exact ⟨rfl, rfl, rfl⟩

theorem SnapshotBegins.of_same (h : SnapshotBegins u t) (hm : u.mode.mode = s.mode.mode) (hj : u.journal = s.journal) :
    SnapshotBegins s t := by
  obtain ⟨hmode, hstage, hsupply, hdark, hwrite⟩ := h
  rw [hj] at hwrite
  exact ⟨hmode.trans hm, hstage, hsupply, hdark, hwrite⟩

theorem snapshotStage_lands (u : State) : Lands 0 [.store, .journal, .mode, .exch] u u.snapshotStage := by
  unfold State.snapshotStage
  simp [lands_iff]

/-- In the DISPLAY stage the report that no side still blanks asks for the snapshot (R104, R173). -/
theorem darkReport_snapshots (hdark : u.display.darkening = true) (hgo : ∀ x, (u.disp x).goingDark = false)
    (hst : u.mode.stage = some .display) : SnapshotBegins u u.darkReport ∧
      Lands 0 [.display, .store, .journal, .mode, .exch] u u.darkReport ∧ ∀ x, u.darkReport.disp x = u.disp x := by
  have he : u.darkReport =
      ({ u with display := { u.display with supply := false, darkening := false } } : State).snapshotStage := by
    unfold State.darkReport
    rw [hdark, hgo, hgo]
    exact if_pos hst
  rw [he]
  generalize hv : ({ u with display := { u.display with supply := false, darkening := false } } : State) = v
  have hvl : Lands 0 [.display] u v := by rw [← hv]; simp [lands_iff]
  have hvd : ∀ x, v.disp x = u.disp x := fun x => by rw [← hv]; rfl
  refine ⟨(snapshotStage_begins (by rw [← hv]) (by rw [← hv])).of_same (by rw [← hv]) (by rw [← hv]), ?_, fun x => ?_⟩
  · exact (hvl.mono (by decide)).trans ((snapshotStage_lands v).mono (by decide))
  · rw [← hvd x]
    exact congrArg (fun d : Display => d.side.get x) ((snapshotStage_lands v).2 .display (by decide))

theorem exec_lastBlank {frame echo : List Byte} (ht : (s.disp sd).transfer = some ⟨frame, .blank⟩)
    (hgo : (s.disp sd).goingDark = true) (hdark : (s.disp sd).state ≠ .dark) (hl : (s.disp sd).lamp = none)
    (hst : s.mode.stage ≠ some .lamp) : ∃ v : State, exec (.transferEnd dt sd echo) s = .next (v.darkReport.nextTransfer sd) ∧
      Lands dt [.display, .exch] s v ∧ v.display.plant = s.display.plant ∧ v.disp sd.other = s.disp sd.other ∧
      (v.disp sd).state = .dark ∧ (v.disp sd).rests := by
  generalize hu : (s.elapse dt).setDisp sd ((s.disp sd).latch ⟨frame, .blank⟩) = u
  have hus : u.disp sd = (s.disp sd).latch ⟨frame, .blank⟩ := by rw [← hu]; exact State.setDisp_disp_self _ _ _
  have huo : u.disp sd.other = s.disp sd.other := by rw [← hu]; exact State.setDisp_disp_other _ _ _
  have hul : Lands dt [.display] s u := by rw [← hu]; simp [lands_iff]
  have hup : u.display.plant = s.display.plant := by rw [← hu]; simp
  have hlatch : ((s.disp sd).latch ⟨frame, .blank⟩).goingDark = true ∧
      ((s.disp sd).latch ⟨frame, .blank⟩).lamp = none := by
    unfold DispSide.latch
    exact ⟨hgo, hl⟩
  have hrelease : u.releaseRetest sd = u := by simp [State.releaseRetest, hus, hlatch.2]
  have hpost : ∀ x, ((u.setDisp sd (u.disp sd).enterDark).postStatus).disp x =
      (u.setDisp sd (u.disp sd).enterDark).disp x := fun x => by simp [State.disp]
  refine ⟨(u.setDisp sd (u.disp sd).enterDark).postStatus, ?_, ?_, ?_, ?_, ?_, ?_⟩
  · rw [exec_transferEnd ht hdark, hu]
    have hasked : (u.setDisp sd (u.disp sd).enterDark).postStatus.lampAsked sd = false := by
      have hno : u.mode.stage ≠ some .lamp := by rw [← hu]; exact hst
      simp [State.lampAsked, hno]
    have hgoing : (u.disp sd).goingDark = true := by rw [hus]; exact hlatch.1
    simp only [State.judgeTransfer, State.blankEnds, hgoing, if_true, State.blankedDark, hrelease, hasked,
      Bool.false_eq_true, if_false]
  · rw [lands_iff] at hul ⊢
    simp_all
  · simpa using hup
  · rw [hpost, ← huo]
    exact State.setDisp_disp_other _ _ _
  · rw [hpost, State.setDisp_disp_self]
    rfl
  · rw [hpost, State.setDisp_disp_self]
    exact rests_of_none rfl rfl rfl

end Sys2Proof.Machine
end


/-! ### Night entry -/
section
namespace Sys2Proof.Machine

variable {s t u : State} {sd : Side} {dt : Nat} {w : Write} {q : Slot} {k : EventKind} {o : Nat} {d e : Detail}

theorem newest_of_log (h : t.exch.log = (u.raise k o d e).exch.log) : NewestEvent t u.mode.clock k o d e := by
  obtain ⟨hring, hnext, -⟩ := u.raise_ring k o d e
  obtain ⟨hr, hn⟩ := events_of_log h
  refine ⟨u.exch.nextEvent, hn.trans hnext, ?_⟩
  rw [hr, hring]
  exact Vector.getElem_set_self _

/-- Of a change of mode the event ring keeps its event alone (R160). -/
theorem changeMode_log (u : State) (m : Mode) (st : Option Stage) (d : Detail) : (u.changeMode m st d).exch.log =
    ((u.setMode { u.mode with mode := m, stage := st }).raise .mode m.code (.num u.mode.mode.code) d).exch.log := by
  have hclear : ∀ v : State, (v.clearNight m).exch = v.exch := fun v => by
    unfold State.clearNight
    split <;> rfl
  unfold State.changeMode
  dsimp only
  rw [(State.postStatus_quiet _).1, State.recomposeBoth_exch, hclear]

/-- Entry to CLOSED clears the night flag (R13). -/
theorem changeMode_nightFlag (u : State) (d : Detail) : (u.changeMode .closed none d).pfe.nightFlag = false := by
  unfold State.changeMode
  dsimp only
  generalize (u.setMode { u.mode with mode := .closed, stage := none }).raise .mode Mode.closed.code
    (.num u.mode.mode.code) d = v
  have hclear : v.clearNight .closed = { v with pfe := { v.pfe with nightFlag := false } } := rfl
  rw [hclear]
  simp

/-- The state of a side after night entry (R71). -/
def nightState (x : SideState) : SideState := if x = .calling ∨ x = .ended then .idle else x

theorem nightSide_side (u : State) (sd : Side) : ((u.nightSide sd).side sd).state = nightState (u.side sd).state ∧
    (u.nightSide sd).side sd.other = u.side sd.other ∧ (u.nightSide sd).exch.log = u.exch.log ∧
      (u.nightSide sd).journal.newest = u.journal.newest := by
  have hput : ∀ x : SideCtl, x.state = .idle → ((u.putSide sd x).side sd).state = .idle ∧
      (u.putSide sd x).side sd.other = u.side sd.other ∧ (u.putSide sd x).exch.log = u.exch.log ∧
        (u.putSide sd x).journal.newest = u.journal.newest := fun x hx =>
    ⟨by rw [State.putSide_side_self]; exact hx, State.putSide_side_other _ _ _, (State.putSide_quiet _ _ _).1,
      (congrArg Journal.newest (putSide_steady u sd x) : _)⟩
  unfold State.nightSide
  dsimp only
  split
  case h_1 h => rw [h]; exact hput _ rfl
  case h_2 h => rw [h]; exact hput _ rfl
  case h_3 hc he => exact ⟨(if_neg (by tauto)).symm, rfl, rfl, rfl⟩

theorem bothNight (u : State) : (∀ x, ((u.bothSides State.nightSide).side x).state = nightState (u.side x).state) ∧
    (u.bothSides State.nightSide).exch.log = u.exch.log ∧
      (u.bothSides State.nightSide).journal.newest = u.journal.newest := by
  obtain ⟨ha, hab, hal, han⟩ := nightSide_side u .a
  obtain ⟨hb, hba, hbl, hbn⟩ := nightSide_side (u.nightSide .a) .b
  refine ⟨fun x => ?_, hbl.trans hal, hbn.trans han⟩
  cases x with
  | a => exact (congrArg SideCtl.state hba).trans ha
  | b =>
    rw [State.bothSides, hb]
    exact congrArg (fun y : SideCtl => nightState y.state) hab

/-- What night entry brings (R174). -/
structure IsNight (s t : State) : Prop where
  now : t.now = s.now
  mode : t.mode.mode = .closed ∧ t.mode.stage = none
  newest : t.journal.newest = s.journal.newest
  stopped : t.pfe.nightFlag = false ∧ t.journal.periodicT = none
  event : NewestEvent t s.mode.clock .mode Mode.closed.code (.num s.mode.mode.code) (.modeCause .night)
  sides : ∀ sd, (t.side sd).state = nightState (s.side sd).state ∧ (t.disp sd).state = .dark
  motors : ∀ p, (t.motor p).users = Users.none ∧
    (t.motor p).state = if (s.motor p).state = .failed then .stopped else (s.motor p).state

theorem night_isNight (hno : ∀ sd, (u.side sd).state ≠ .authorized) : IsNight u u.night := by
  unfold State.night
  dsimp only
  have hmode := State.changeMode_mode (u.setMode u.mode.noStage) .closed none (.modeCause .night)
  have hflag := changeMode_nightFlag (u.setMode u.mode.noStage) (.modeCause .night)
  have hlog := changeMode_log (u.setMode u.mode.noStage) .closed none (.modeCause .night)
  have hnow : ((u.setMode u.mode.noStage).changeMode .closed none (.modeCause .night)).now = u.now := by simp
  have hsides : ((u.setMode u.mode.noStage).changeMode .closed none (.modeCause .night)).sides = u.sides := by simp
  have hmotors : ((u.setMode u.mode.noStage).changeMode .closed none (.modeCause .night)).motors = u.motors := by simp
  have hj : ((u.setMode u.mode.noStage).changeMode .closed none (.modeCause .night)).journal = u.journal := by simp
  generalize (u.setMode u.mode.noStage).changeMode .closed none (.modeCause .night) = v at *
  obtain ⟨hbsides, hblog, hbnewest⟩ := bothNight v
  have hbnow : (v.bothSides State.nightSide).now = v.now := by simp [State.bothSides]
  have hbmode : (v.bothSides State.nightSide).mode = v.mode := by simp [State.bothSides]
  have hbpfe : (v.bothSides State.nightSide).pfe = v.pfe := by simp [State.bothSides]
  have hbmotors : (v.bothSides State.nightSide).motors = v.motors := by simp [State.bothSides]
  generalize v.bothSides State.nightSide = b at *
  generalize hw : ({ b with
    display := { b.display with side := b.display.side.map DispSide.night }
    motors := { b.motors with motor := b.motors.motor.map Motor.night, fifo := [] }
    journal := { b.journal with periodicT := none, periodicSum := 0 } } : State) = w
  generalize hz : (if u.nightChanges then w.postStatus else w) = z
  have hzn : z.now = u.now := by rw [← hz]; split <;> simp [← hw, hbnow, hnow]
  have hzm : z.mode = v.mode := by rw [← hz]; split <;> simp [← hw, hbmode]
  have hzj : z.journal = { b.journal with periodicT := none, periodicSum := 0 } := by
    rw [← hz]; split <;> simp [← hw]
  have hzp : z.pfe = v.pfe := by rw [← hz]; split <;> simp [← hw, hbpfe]
  have hzs : ∀ x, (z.side x).state = nightState (u.side x).state := fun x => by
    have hx : z.side x = b.side x := by rw [← hz]; split <;> simp [← hw, State.side]
    rw [hx, hbsides, State.side, hsides]
    rfl
  have hzd : ∀ x, (z.disp x).state = .dark := fun x => by
    have hx : z.disp x = (b.disp x).night := by rw [← hz]; split <;> simp [← hw, State.disp]
    rw [hx]
    rfl
  have hzmo : ∀ p, z.motor p = (u.motor p).night := fun p => by
    have hm : z.motors.motor = u.motors.motor.map Motor.night := by
      rw [← hz]; split <;> simp [← hw, hbmotors, hmotors]
    rw [State.motor, hm, PerProduct.get_map]
    rfl
  have hzl : z.exch.log = v.exch.log := by
    rw [← hblog, ← hz]
    split
    · rw [(State.postStatus_quiet _).1, ← hw]
    · rw [← hw]
  have hleft : z.noticeLeftFailed = z := by
    have hone : ∀ x, z.testReadiness x = z := fun x => State.testReadiness_of_not (by
      have hx := hno x
      rw [hzs]
      unfold nightState
      split
      · exact nofun
      · exact hx)
    rw [State.noticeLeftFailed, State.bothSides, hone, hone]
  rw [hleft]
  exact {
    now := hzn
    mode := ⟨by rw [hzm, hmode], by rw [hzm, hmode]⟩
    newest := by rw [hzj]; exact hbnewest.trans (congrArg Journal.newest hj)
    stopped := ⟨by rw [hzp]; exact hflag, by rw [hzj]⟩
    event := newest_of_log (u := (u.setMode u.mode.noStage).setMode
      { u.mode.noStage with mode := .closed, stage := none }) (hzl.trans hlog)
    sides := fun x => ⟨hzs x, hzd x⟩
    motors := fun p => by rw [hzmo]; exact ⟨rfl, rfl⟩ }

/-! #### The writes of the SNAPSHOT stage -/

/-- The write that follows a completed one of the closing (R150, R158): another if one waits. -/
theorem nextAfterWrite_facts (v : State) : v.nextAfterWrite.now = v.now ∧ v.nextAfterWrite.mode = v.mode ∧
    v.nextAfterWrite.sides = v.sides ∧ v.nextAfterWrite.motors = v.motors ∧
    v.nextAfterWrite.journal.newest = v.journal.newest := by
  have hnewest : v.nextAfterWrite.journal.newest = v.journal.newest := by
    unfold State.nextAfterWrite State.nextWrite
    repeat' split
    all_goals rfl
  simp [hnewest]

theorem nextAfterWrite_of_request (hr : u.journal.request = true) (he : u.journal.empty = false)
    (hf : u.journal.inFlight = none) : u.nextAfterWrite = u.beginWrite := by
  simp [State.nextAfterWrite, State.nextWrite, hr, he, hf]

end Sys2Proof.Machine

open Sys2Proof Sys2Proof.Machine

/-- Settles O57: DRAIN's last sale, a CLOSE with no sale, the dark displays, and the closing snapshot's write. -/
theorem closingReachesClosed : Obligations.ClosingReachesClosed := by
  unfold Obligations.ClosingReachesClosed
  refine ⟨fun dt sd s o c d hm hst h ho hc hside ht hd hswap hother => ?_, fun dt ref s hs hm hsale => ?_,
    fun dt s hst => ⟨fun d hd hle hdark => ?_, fun sd frame echo hdark ht hgo hnd hl hother => ?_⟩,
    fun dt damage s w hst hp hw hauth => ?_⟩
  · have hdue : (s.side sd).settleT.due (s.now + dt) = true := due_of_le ht hd
    have hex : exec (.settleTime dt sd) s = .next ((s.elapse dt).finishSale sd none) := by
      simp [exec, execSettleTime, h, hdue]
    obtain ⟨hlast, hmore⟩ := finishSale_drains (s := s.elapse dt) ho hm hst hswap
    refine ⟨_, hex, by simp, ?_, fun hno => (hlast hno).of_same rfl id, hmore⟩
    simp [finishSale_side (s := s.elapse dt) ho none (.inr hswap)]
  · have hex := exec_closeSite (dt := dt) (ref := ref) hs
    have hhead := (s.taken_header dt (siteBytes 1 []) (ref := ref) hs.2).1
    generalize hv : s.taken dt Folio.siteOrder ref (siteBytes 1 []) = v at hex hhead
    have hvs : v.sides = s.sides := by simp [← hv]
    have hvg : v.gates = s.gates := by simp [← hv]
    have hvm : v.motors = s.motors := by simp [← hv]
    have hvn : v.now = s.now + dt := by simp [← hv]
    have hserve : v.serveClose = (v.beginClosing .order).handOver Folio.siteOrder .done := by
      simp [State.serveClose, ← hv, hm]
    have hidle : ∀ x, (v.side x).state.holdsSale = false := fun x => by rw [State.side, hvs]; exact hsale x
    have hoff := (beginClosing_empty hidle .order).of_same (s := s) hvg (by rw [hvm]; exact id)
    have hsame := beginClosing_header hidle .order siteOrder_ge (fun x => by cases x <;> decide)
    have hnow : (v.beginClosing .order).now = v.now := by simp
    have hshown := ((v.beginClosing .order).handOver_header Folio.siteOrder .done 0).1
    rw [hserve] at hex
    generalize v.beginClosing .order = x at *
    refine ⟨_, hex, hnow.trans hvn, hoff, ?_, ?_, ?_⟩
    · rw [hshown]
    · rw [hshown]
    · rw [hshown, hsame, hhead]
  · have hex := exec_darkDelay (dt := dt) hd hle
    generalize hv : ({ s.elapse dt with display := { s.display with darkT := none, darkening := true } } : State) = v
    have hvd : ∀ x, v.disp x = s.disp x := fun x => by rw [← hv]; rfl
    have hone : ∀ x, v.darkenAtExpiry x = v := fun x => by
      apply darkenAtExpiry_of_not <;> rw [hvd] <;> rcases (hdark x).1 with h | h <;> rw [h] <;> decide
    have hexpire : (s.elapse dt).darkExpire = v := by
      have hboth : (s.elapse dt).darkExpire = (v.darkenAtExpiry .a).darkenAtExpiry .b := by rw [← hv]; rfl
      rw [hboth, hone, hone]
    have hvl : Lands dt [.display] s v := by rw [← hv]; simp [lands_iff]
    obtain ⟨hsnap, hl, -⟩ := darkReport_snapshots (u := v) (by rw [← hv]) (fun x => by rw [hvd]; exact (hdark x).2)
      (by rw [← hv]; exact hst)
    rw [hexpire] at hex
    exact ⟨_, hex, (hvl.mono (by decide)).trans hl, hsnap.of_same (by rw [← hv]; rfl) (by rw [← hv]; rfl)⟩
  · obtain ⟨v, hex, hvl, hplant, hvo, hvdark, hrest⟩ := exec_lastBlank (dt := dt) (echo := echo) ht hgo hnd hl
      (by rw [hst]; decide)
    have hvm : v.mode = s.mode := hvl.2 .mode (by decide)
    have hvj : v.journal = s.journal := hvl.2 .journal (by decide)
    obtain ⟨hsnap, hlands, hsame⟩ := darkReport_snapshots (u := v) ((congrArg Display.darkening hplant : _).trans hdark)
      (fun x => by
        rcases Side.eq_or_other sd x with rfl | rfl
        · exact hrest.1
        · rw [hvo]; exact hother) (by rw [hvm]; exact hst)
    rw [nextTransfer_of_rests (by rw [hsame]; exact hrest)] at hex
    exact ⟨_, hex, (hvl.mono (by decide)).trans hlands, by rw [hsame]; exact hvdark,
      hsnap.of_same (congrArg ModeCtl.mode hvm) hvj⟩
  · dsimp only
    have hdone := fun hq => writeDone_settled (s.elapse dt) (w := w) (q := w.readBack damage) hq
    have hfailed := fun hq => writeFailed_settled (s.elapse dt) (w := w) (q := w.readBack damage) hq
    have hgood := fun hq => exec_writeValid (dt := dt) (damage := damage) hw hq
    have hbad := fun hq => exec_writeBad (dt := dt) (damage := damage) hw hq
    rw [hp] at hgood hbad
    have hl : Lands dt [.store, .journal, .exch] s ((s.elapse dt).writeDone w (w.readBack damage)) := by simp [lands_iff]
    have hlf : Lands dt [.store, .journal, .exch] s ((s.elapse dt).writeFailed w (w.readBack damage)) := by simp [lands_iff]
    generalize (s.elapse dt).writeDone w (w.readBack damage) = v at *
    generalize (s.elapse dt).writeFailed w (w.readBack damage) = f at *
    have hvm : v.mode = s.mode := hl.2 .mode (by decide)
    have hvs : v.sides = s.sides := hl.2 .sides (by decide)
    have hvmo : v.motors = s.motors := hl.2 .motors (by decide)
    have hfm : f.mode = s.mode := hlf.2 .mode (by decide)
    refine ⟨fun hq hclose => ?_, fun hq hclose hreq => ?_, fun hq hclose => ?_⟩
    · obtain ⟨hnow, hmode, hsides, hmotors, hnewest⟩ := nextAfterWrite_facts v
      have hnight : v.afterDone .normal s.journal.closeWait = v.nextAfterWrite.night := by
        rw [hclose]
        exact if_pos ⟨rfl, by rw [hmode, hvm]; exact hst⟩
      have hside : ∀ x, v.nextAfterWrite.side x = s.side x := fun x => by rw [State.side, hsides, hvs]; rfl
      have hmotor : ∀ p, v.nextAfterWrite.motor p = s.motor p := fun p => by rw [State.motor, hmotors, hvmo]; rfl
      have hn := night_isNight (u := v.nextAfterWrite) fun x => by rw [hside]; exact hauth x
      have hevent := hn.event
      rw [hmode, hvm] at hevent
      refine ⟨_, (hgood hq).trans (congrArg _ hnight), (hn.now.trans hnow).trans hl.1, hn.mode.1, hn.mode.2,
        (hn.newest.trans hnewest).trans (congrArg Journal.newest (hdone hq)), hn.stopped.1, hn.stopped.2, hevent,
        fun x => ?_, fun p => ?_⟩
      · rw [← hside x]; exact hn.sides x
      · rw [← hmotor p]; exact hn.motors p
    · have hj := hdone hq
      have hagain : v.afterDone .normal s.journal.closeWait = v.beginWrite := by
        rw [hclose, State.afterDone, State.normalDone, nextAfterWrite_of_request ((congrArg Journal.request hj).trans hreq)
          (congrArg Journal.empty hj) (congrArg Journal.inFlight hj)]
        exact if_neg fun h => absurd h.1 (by decide)
      have hnext := congrArg Journal.next hj
      have hseq := congrArg Journal.seq hj
      have hwait := congrArg Journal.closeWait hj
      refine ⟨_, _, (hgood hq).trans (congrArg _ hagain), hl.1, hvm, rfl, hnext, hseq, ?_⟩
      exact (congrArg WriteWait.begin hwait).trans (by simp [hclose, WriteWait.completed, WriteWait.begin])
    · have hj := hfailed hq
      have hagain : f.afterFailed .normal = f.beginWrite := rfl
      have hnext := congrArg Journal.next hj
      have hseq := congrArg Journal.seq hj
      have hwait := congrArg Journal.closeWait hj
      refine ⟨_, _, (hbad hq).trans (congrArg _ hagain), hlf.1, hfm, rfl, hnext, hseq, ?_⟩
      refine (congrArg WriteWait.begin hwait).trans ?_
      have hcl : (s.elapse dt).journal.closeWait = s.journal.closeWait := rfl
      rw [hcl]
      cases hcw : s.journal.closeWait
      case idle => exact absurd hcw hclose
      all_goals rfl
end


/-! ### READERS: the gates come up and the mode becomes OPEN -/
section
namespace Sys2Proof.Machine

variable {s t u : State} {sd : Side} {dt : Nat} {p : Product}

/-! #### What the stages of an opening leave alone -/

/-- The display plant and the states of the two displays. -/
def Display.picture (d : Display) : Display × Both DispState := (d.plant, d.side.map (·.state))

theorem Display.picture_plant {d e : Display} (h : d.picture = e.picture) : d.plant = e.plant := congrArg Prod.fst h

theorem State.picture_state (h : t.display.picture = s.display.picture) (x : Side) :
    (t.disp x).state = (s.disp x).state := by
  have hb := congrArg (fun q => Both.get q.2 x) h
  simpa [Display.picture, State.disp] using hb

theorem State.picture_of (hp : t.display.plant = s.display.plant) (hs : ∀ x, (t.disp x).state = (s.disp x).state) :
    t.display.picture = s.display.picture := by
  have ha := hs .a
  have hb := hs .b
  unfold Display.picture
  rw [hp]
  exact congrArg (Prod.mk _) (congrArg₂ Both.mk ha hb)

@[simp] theorem State.recompose_picture (s : State) (sd : Side) :
    (s.recompose sd).display.picture = s.display.picture :=
  State.picture_of (State.recompose_plant s sd) (recompose_disp_state s sd)

@[simp] theorem State.recomposeBoth_picture (s : State) : s.recomposeBoth.display.picture = s.display.picture := by
  simp [State.recomposeBoth]

@[simp] theorem State.putSide_picture (s : State) (sd : Side) (x : SideCtl) :
    (s.putSide sd x).display.picture = s.display.picture := by
  simp [State.putSide, State.setSide]

@[simp] theorem State.changeMode_picture (s : State) (m : Mode) (st : Option Stage) (d : Detail) :
    (s.changeMode m st d).display.picture = s.display.picture := by
  simp [State.changeMode]

@[simp] theorem State.gateChange_picture (s : State) (sd : Side) (g : GateCtl) (c : GateCause) :
    (s.gateChange sd g c).display.picture = s.display.picture := by
  unfold State.gateChange
  dsimp only
  rw [State.recompose_picture]
  split <;> simp

/-- What the stages of an opening leave as it is: the time, the configuration, the pins, the displays' states and their
plant; and no side takes a sale. -/
structure Onward (s t : State) : Prop where
  now : t.now = s.now
  config : t.exch.config = s.exch.config
  pins : t.pins = s.pins
  picture : t.display.picture = s.display.picture
  idle : ∀ x, (s.side x).state.holdsSale = false → (t.side x).state.holdsSale = false

theorem Onward.trans (h : Onward s u) (k : Onward u t) : Onward s t :=
  ⟨k.now.trans h.now, k.config.trans h.config, k.pins.trans h.pins, k.picture.trans h.picture,
    fun x hx => k.idle x (h.idle x hx)⟩

theorem Onward.of_hears (hnow : t.now = s.now) (hcfg : t.exch.config = s.exch.config) (hpins : t.pins = s.pins)
    (hpic : t.display.picture = s.display.picture) (h : SidesHear s t) : Onward s t :=
  ⟨hnow, hcfg, hpins, hpic, fun x hx => by rw [h.state]; exact hx⟩

/-! #### The mode becomes OPEN -/

/-- A side as the mode becomes OPEN (R45, R170). -/
def SideCtl.called (x : SideCtl) : SideState := if x.state = .idle ∧ x.nozzles.toList.any id = true then .calling else x.state

theorem callIfLifted_facts (u : State) (sd : Side) : ((u.callIfLifted sd).side sd).state = (u.side sd).called ∧
    (u.callIfLifted sd).side sd.other = u.side sd.other ∧
    (u.callIfLifted sd).display.picture = u.display.picture := by
  unfold State.callIfLifted SideCtl.called SideCtl.anyLifted
  dsimp only
  split
  · exact ⟨by rw [State.putSide_side_self], State.putSide_side_other _ _ _, State.putSide_picture _ _ _⟩
  · exact ⟨rfl, rfl, rfl⟩

/-- What the mode's becoming OPEN brings (R170). -/
structure OpensUp (s t : State) : Prop where
  onward : Onward s t
  mode : t.mode = { s.mode with mode := .openMode, stage := none }
  gates : t.gates = s.gates
  motors : t.motors = s.motors
  event : NewestEvent t s.mode.clock .mode Mode.openMode.code (.num s.mode.mode.code) (.outcome s.mode.outcome)
  sides : ∀ x, (t.side x).state = (s.side x).called

theorem enterOpen_opensUp (u : State) : OpensUp u u.enterOpen := by
  have hgates : u.enterOpen.gates = u.gates := by simp
  have hmotors : u.enterOpen.motors = u.motors := by simp
  have hnow : u.enterOpen.now = u.now := by simp
  have hcfg : u.enterOpen.exch.config = u.exch.config := by simp
  have hpins : u.enterOpen.pins = u.pins := by simp
  have he : u.enterOpen = (u.changeMode .openMode none (.outcome u.mode.outcome)).bothSides State.callIfLifted := rfl
  have hsides : (u.changeMode .openMode none (.outcome u.mode.outcome)).sides = u.sides := by simp
  have hmode := State.changeMode_mode u .openMode none (.outcome u.mode.outcome)
  have hlog := changeMode_log u .openMode none (.outcome u.mode.outcome)
  have hpic := State.changeMode_picture u .openMode none (.outcome u.mode.outcome)
  generalize u.changeMode .openMode none (.outcome u.mode.outcome) = v at *
  obtain ⟨ha, hab, hap⟩ := callIfLifted_facts v .a
  obtain ⟨hb, hba, hbp⟩ := callIfLifted_facts (v.callIfLifted .a) .b
  have hcalled : ∀ x, (u.enterOpen.side x).state = (u.side x).called := fun x => by
    have hv : v.side x = u.side x := by rw [State.side, hsides]; rfl
    rw [he, ← hv]
    cases x with
    | a => exact (congrArg SideCtl.state hba).trans ha
    | b =>
      rw [State.bothSides, hb]
      exact congrArg SideCtl.called hab
  have hel : u.enterOpen.exch.log = v.exch.log := by rw [he]; simp [State.bothSides]
  exact {
    onward := ⟨hnow, hcfg, hpins, by rw [he]; exact hbp.trans (hap.trans hpic), fun x hx => by
      rw [hcalled]
      unfold SideCtl.called
      split
      · rfl
      · exact hx⟩
    mode := by rw [he, ← hmode]; simp [State.bothSides]
    gates := hgates
    motors := hmotors
    event := newest_of_log (u := u.setMode { u.mode with mode := .openMode, stage := none }) (hel.trans hlog)
    sides := hcalled }

/-! #### The gates that READERS awaits -/

/-- A gate is settled for READERS in a state (R170). -/
def GateState.isSettled (g : GateState) : Bool := decide (g = .opened ∨ g = .tripped)

theorem isSettled_iff (u : State) (sd : Side) : (u.gate sd).state.isSettled = true ↔ GateSettled u sd := decide_eq_true_iff

/-- The Mode Controller as a gate that READERS awaits is settled (R170). -/
def ModeCtl.settle (m : ModeCtl) (sd : Side) (g : GateState) : ModeCtl :=
  { m with
    readersAwait := m.readersAwait.set sd (m.readersAwait.get sd && !g.isSettled)
    outcome := { m.outcome with
      gates := m.outcome.gates.set sd (m.outcome.gates.get sd || (m.readersAwait.get sd && decide (g = .tripped))) } }

theorem Both.set_get_self {α : Type} (b : Both α) (sd : Side) : b.set sd (b.get sd) = b := by cases sd <;> rfl

theorem settleReader_eq (u : State) (sd : Side) : u.settleReader sd = u.setMode (u.mode.settle sd (u.gate sd).state) := by
  unfold State.settleReader ModeCtl.settle GateState.isSettled
  cases hw : u.mode.readersAwait.get sd
  · have h1 := Both.set_get_self u.mode.readersAwait sd
    have h2 := Both.set_get_self u.mode.outcome.gates sd
    rw [hw] at h1
    simp [h1, h2, State.setMode]
  · cases hg : (u.gate sd).state
    case opened => simp [Both.set_get_self]
    case tripped => simp
    all_goals
      have h1 := Both.set_get_self u.mode.readersAwait sd
      rw [hw] at h1
      simp [h1, Both.set_get_self, State.setMode]

/-- The Mode Controller once READERS has looked at both gates (R170). -/
def State.settled (u : State) : ModeCtl := (u.mode.settle .a (u.gate .a).state).settle .b (u.gate .b).state

theorem readersTest_eq (hst : u.mode.stage = some .readers) : u.readersTest =
    if u.settled.readersAwait = Both.same false then (u.setMode u.settled).enterOpen else u.setMode u.settled := by
  have hboth : u.bothSides State.settleReader = u.setMode u.settled := by
    rw [State.bothSides, settleReader_eq, settleReader_eq]
    rfl
  unfold State.readersTest
  rw [if_pos hst, hboth]
  rfl

theorem settled_await (u : State) (x : Side) :
    u.settled.readersAwait.get x = (u.mode.readersAwait.get x && !(u.gate x).state.isSettled) := by
  cases x <;> rfl

theorem settled_gates (u : State) (x : Side) : u.settled.outcome.gates.get x =
    (u.mode.outcome.gates.get x || (u.mode.readersAwait.get x && decide ((u.gate x).state = .tripped))) := by
  cases x <;> rfl

theorem settled_frame (u : State) : u.settled =
    { u.mode with
      readersAwait := u.settled.readersAwait, outcome := { u.mode.outcome with gates := u.settled.outcome.gates } } := rfl

theorem Both.eq_same_false (b : Both Bool) : b = Both.same false ↔ ∀ x, b.get x = false := by
  obtain ⟨x, y⟩ := b
  exact ⟨fun h sd => by rw [h]; cases sd <;> rfl, fun h => congrArg₂ Both.mk (h .a) (h .b)⟩

/-! #### The READERS stage -/

/-- A gate that is OFF as READERS begins enters STARTING (R125, R170). -/
def State.startIfOff (u : State) (sd : Side) : State := if (u.gate sd).state = .off then u.gateStart sd .readersStage else u

theorem startIfOff_facts (u : State) (sd : Side) : Onward u (u.startIfOff sd) ∧ (u.startIfOff sd).mode = u.mode ∧
    (u.startIfOff sd).motors = u.motors ∧ (u.startIfOff sd).gate sd.other = u.gate sd.other ∧
    (u.startIfOff sd).gate sd = if (u.gate sd).state = .off then u.started sd else u.gate sd := by
  have hlands : (u.startIfOff sd).now = u.now ∧ (u.startIfOff sd).exch.config = u.exch.config ∧
      (u.startIfOff sd).pins = u.pins ∧ (u.startIfOff sd).sides = u.sides ∧ (u.startIfOff sd).mode = u.mode ∧
      (u.startIfOff sd).motors = u.motors ∧ (u.startIfOff sd).display.picture = u.display.picture := by
    unfold State.startIfOff
    split
    · rw [gateStart_eq]; simp
    · exact ⟨rfl, rfl, rfl, rfl, rfl, rfl, rfl⟩
  obtain ⟨hnow, hcfg, hpins, hsides, hmode, hmotors, hpic⟩ := hlands
  refine ⟨.of_hears hnow hcfg hpins hpic (.of_eq hsides), hmode, hmotors, ?_, ?_⟩
  · unfold State.startIfOff
    split
    · exact (State.gateChange_gate _ _ _ _).2
    · rfl
  · unfold State.startIfOff
    split
    case isTrue h =>
      rw [gateStart_eq, (State.gateChange_gate _ _ _ _).1, h, if_neg nofun]
    case isFalse => rfl

/-- The gates as READERS brings them up: each that was OFF is STARTING (R170). -/
theorem bothStart_facts (u : State) : Onward u (u.bothSides State.startIfOff) ∧
    (u.bothSides State.startIfOff).mode = u.mode ∧ (u.bothSides State.startIfOff).motors = u.motors ∧
    ∀ x, (u.bothSides State.startIfOff).gate x = if (u.gate x).state = .off then u.started x else u.gate x := by
  obtain ⟨ha, ham, hao, hab, hag⟩ := startIfOff_facts u .a
  obtain ⟨hb, hbm, hbo, hba, hbg⟩ := startIfOff_facts (u.startIfOff .a) .b
  refine ⟨ha.trans hb, hbm.trans ham, hbo.trans hao, fun x => ?_⟩
  cases x with
  | a => exact hba.trans hag
  | b =>
    have hother : (u.startIfOff .a).gate .b = u.gate .b := hab
    have hstarted : (u.startIfOff .a).started .b = u.started .b := by
      simp only [State.started, State.powerUp, State.cfg, hother, ha.now, ha.config]
    rw [State.bothSides, hbg, hother, hstarted]

/-- What READERS makes of the opening outcome and of the rest of the Mode Controller. -/
structure ReadersRun (s t : State) : Prop where
  onward : Onward s t
  follow : (∀ p, (s.motor p).users.prime = false) → ReadersFollow s t
  motors : t.motors = s.motors
  outcome : t.mode.outcome = { s.mode.outcome with gates := t.mode.outcome.gates }

theorem readersStage_runs (u : State) : ReadersRun u u.readersStage := by
  generalize hv : (u.toStage .readers).setMode { (u.toStage .readers).mode with readersAwait := Both.same true } = v
  have he : u.readersStage = (v.bothSides State.startIfOff).readersTest := by rw [← hv]; rfl
  have hvm : v.mode = { u.mode with stage := some .readers, readersAwait := Both.same true } := by rw [← hv]; simp
  have hvg : ∀ x, v.gate x = u.gate x := fun x => by rw [← hv]; simp [State.gate]
  have hvmo : v.motors = u.motors := by rw [← hv]; simp
  have hvs : ∀ x, v.started x = u.started x := fun x => by
    simp only [State.started, State.powerUp, State.cfg, hvg]
    rw [← hv]
    simp
  have hvo : Onward u v := by
    rw [← hv]
    exact .of_hears (by simp) (by simp) (by simp) (by simp) (.of_eq (by simp))
  obtain ⟨hw, hwm, hwmo, hwg⟩ := bothStart_facts v
  generalize v.bothSides State.startIfOff = w at *
  have hwm' := hwm.trans hvm
  have hstage : w.mode.stage = some .readers := congrArg ModeCtl.stage hwm'
  have hset : ∀ x, (w.gate x).state.isSettled = (u.gate x).state.isSettled := fun x => by
    rw [hwg, hvg]
    split
    case isTrue h => rw [h]; rfl
    case isFalse => rfl
  have hawait : ∀ x, w.settled.readersAwait.get x = !(u.gate x).state.isSettled := fun x => by
    rw [settled_await, hset, hwm']
    cases x <;> rfl
  have htrip : ∀ x, (u.gate x).state = .tripped → w.settled.outcome.gates.get x = true := fun x h => by
    rw [settled_gates, hwg, hvg, h, hwm']
    cases x <;> simp [h, Both.same, Both.get]
  have hgate : ∀ x, w.gate x = if (u.gate x).state = .off then u.started x else u.gate x := fun x => by
    rw [hwg, hvg, hvs]
  have hfollow : ∀ z : State, z.gates = w.gates → z.motors = u.motors → z.now = u.now →
      z.mode.outcome.gates = w.settled.outcome.gates →
      ((∃ sd, ¬ GateSettled u sd) → z.mode.mode = u.mode.mode ∧ z.mode.stage = some .readers ∧
        z.mode.readersAwait = w.settled.readersAwait) →
      ((∀ sd, GateSettled u sd) → z.mode.mode = .openMode ∧ z.mode.stage = none) →
      (∀ p, (u.motor p).users.prime = false) → ReadersFollow u z := fun z hzg hzm hzn hzo hsome hall husers => by
    have hz : ∀ x, z.gate x = w.gate x := fun x => congrArg (Both.get · x) hzg
    refine ⟨fun p => ?_, fun x h => ?_, fun x h => ?_, fun x h => ?_, fun h => ?_, hall⟩
    · rw [State.motor, hzm]; exact husers p
    · rw [hz, hgate, if_pos h, hzn]
      exact ⟨rfl, rfl, rfl⟩
    · rw [hz, hgate, if_neg h]
    · rw [hzo]; exact htrip x h
    · obtain ⟨hm, hs, ha⟩ := hsome h
      refine ⟨hm, hs, fun x => ?_⟩
      rw [ha, hawait, Bool.not_eq_true', ← Bool.not_eq_true, isSettled_iff]
  rw [he, readersTest_eq hstage]
  have hall : w.settled.readersAwait = Both.same false ↔ ∀ sd, GateSettled u sd := by
    rw [Both.eq_same_false]
    exact forall_congr' fun x => by rw [hawait, Bool.not_eq_false', isSettled_iff]
  have hframe := settled_frame w
  rw [hwm'] at hframe
  generalize hq : w.setMode w.settled = q
  have hqm : q.mode = w.settled := by rw [← hq]; rfl
  have hqo : Onward w q := by rw [← hq]; exact ⟨rfl, rfl, rfl, rfl, fun _ h => h⟩
  have hqg : q.gates = w.gates := by rw [← hq]; rfl
  have hqmo : q.motors = w.motors := by rw [← hq]; rfl
  have houtcome := congrArg ModeCtl.outcome hframe
  have hto := (hvo.trans hw).trans hqo
  split
  case isTrue h =>
    have hopen := enterOpen_opensUp q
    have hmode := hopen.mode
    rw [hqm] at hmode
    exact {
      onward := hto.trans hopen.onward
      follow := hfollow _ (hopen.gates.trans hqg) (hopen.motors.trans (hqmo.trans (hwmo.trans hvmo)))
        (hto.trans hopen.onward).now (by rw [hmode]) (fun ⟨x, hx⟩ => absurd (hall.1 h x) hx)
        (fun _ => ⟨by rw [hmode], by rw [hmode]⟩)
      motors := hopen.motors.trans (hqmo.trans (hwmo.trans hvmo))
      outcome := by rw [hmode]; exact houtcome }
  case isFalse h =>
    exact {
      onward := hto
      follow := hfollow _ hqg (hqmo.trans (hwmo.trans hvmo)) hto.now (by rw [hqm])
        (fun _ => ⟨by rw [hqm]; exact (congrArg ModeCtl.mode hframe : _),
          by rw [hqm]; exact (congrArg ModeCtl.stage hframe : _),
          by rw [hqm]⟩) (fun hx => absurd (hall.2 hx) h)
      motors := hqmo.trans (hwmo.trans hvmo)
      outcome := by rw [hqm]; exact houtcome }

theorem ReadersFollow.of_same (h : ReadersFollow u t) (hgates : u.gates = s.gates) (hcfg : u.exch.config = s.exch.config)
    (hmode : u.mode.mode = s.mode.mode) : ReadersFollow s t := by
  have hg : ∀ x, u.gate x = s.gate x := fun x => congrArg (Both.get · x) hgates
  unfold ReadersFollow GateSettled at *
  simpa only [hg, hcfg, hmode] using h

theorem ReadersFollow.to_same (h : ReadersFollow s u) (hgates : t.gates = u.gates) (hmotors : t.motors = u.motors)
    (hnow : t.now = u.now) (hmode : t.mode = u.mode) : ReadersFollow s t := by
  have hg : ∀ x, t.gate x = u.gate x := fun x => congrArg (Both.get · x) hgates
  have hm : ∀ p, t.motor p = u.motor p := fun p => congrArg (fun m => m.motor.get p) hmotors
  unfold ReadersFollow at *
  simpa only [hg, hm, hnow, hmode] using h

end Sys2Proof.Machine
end


/-! ### PRIME: the products that the mapped grades need -/
section
namespace Sys2Proof.Machine

variable {s t u x y : State} {sd : Side} {dt : Nat} {p q r : Product}

/-! #### The products that PRIME awaits -/

/-- A RUNNING report to every user settles the product for PRIME if it is one (R78, R169). -/
theorem reportAll_wait (u : State) (us : Users) (p : Product) (hst : u.mode.stage = some .prime) :
    (u.reportAll us p).mode.primeWait = if us.prime then u.mode.primeWait.set p false else u.mode.primeWait := by
  have hside : ∀ (v : State) (b : Bool) sd, (if b then v.reportRunning (.side sd) p else v).mode = v.mode := fun v b sd => by
    unfold State.reportRunning
    dsimp only
    repeat' split
    all_goals rfl
  generalize hv : (if us.a then u.reportRunning (.side .a) p else u) = v
  generalize hw : (if us.b then v.reportRunning (.side .b) p else v) = w
  have hwm : w.mode = u.mode := by rw [← hw, hside, ← hv, hside]
  have he : u.reportAll us p = if us.prime then w.reportRunning .prime p else w := by
    rw [← hw, ← hv]; rfl
  rw [he]
  split
  · simp [State.reportRunning, hwm, hst]
  · rw [hwm]

theorem confirmStart_wait (u : State) (p : Product) (hst : u.mode.stage = some .prime) :
    (u.confirmStart p).mode.primeWait =
      if (u.motor p).users.prime then u.mode.primeWait.set p false else u.mode.primeWait := by
  unfold State.confirmStart
  dsimp only
  split
  case isTrue =>
    generalize hv : (u.raise .motorRunning p.number (.num _) (.users (u.motor p).users)).setMotor p _ = v
    have hvm : v.mode = u.mode := by rw [← hv]; simp
    rw [(State.postStatus_frame _).2.2.2.2.2.2.2.2.2.1, reportAll_wait v _ p (by rw [hvm]; exact hst), hvm]
  case isFalse h =>
    have hno : (u.motor p).users.prime = false := by simp_all [Users.any]
    rw [hno]
    simp

theorem arbiterTest_cases (u : State) :
    u.arbiterTest = u ∨ ∃ p rest, u.motors.fifo = p :: rest ∧ u.arbiterTest = u.grant p rest := by
  unfold State.arbiterTest
  split
  · exact .inl rfl
  case h_2 p rest hf =>
    split
    · exact .inr ⟨p, rest, hf, rfl⟩
    · exact .inl rfl

/-- The arbiter settles no product whose pressure-ok input is absent, and unsettles none (R80, R169). -/
theorem arbiterTest_wait (u : State) (q : Product) (hst : u.mode.stage = some .prime) :
    (u.mode.primeWait.get q = false → u.arbiterTest.mode.primeWait.get q = false) ∧
      (u.pins.pressureOk.get q = false → u.arbiterTest.mode.primeWait.get q = u.mode.primeWait.get q) := by
  rcases arbiterTest_cases u with h | ⟨p, rest, -, h⟩
  · rw [h]; exact ⟨id, fun _ => rfl⟩
  · have hgm : (u.granted p rest).mode = u.mode := by simp
    rw [h, grant_eq]
    split
    case isTrue hok =>
      rw [confirmStart_wait _ _ (by rw [hgm]; exact hst), hgm]
      by_cases hq : q = p
      · subst hq
        exact ⟨fun hw => by split <;> simp [hw], fun hdry => by rw [hok] at hdry; cases hdry⟩
      · have hsame : (if ((u.granted p rest).motor p).users.prime then u.mode.primeWait.set p false
            else u.mode.primeWait).get q = u.mode.primeWait.get q := by
          split
          · exact PerProduct.get_set_ne _ _ hq
          · rfl
        exact ⟨fun hw => hsame.trans hw, fun _ => hsame⟩
    case isFalse =>
      rw [hgm]
      exact ⟨id, fun _ => rfl⟩

/-- A motor that has yet to start: STOPPED, WAITING or STARTING. -/
def MotorState.cold (m : MotorState) : Prop := m = .stopped ∨ m = .waiting ∨ m = .starting

/-- PRIME awaits a product whose motor is still to start and has no pressure (R169). -/
structure Awaits (u : State) (p : Product) : Prop where
  stage : u.mode.stage = some .prime
  dry : u.pins.pressureOk.get p = false
  wait : u.mode.primeWait.get p = true
  cold : (u.motor p).state.cold

theorem Awaits.arbiterTest (h : Awaits u p) : Awaits u.arbiterTest p := by
  refine ⟨((ModeStands.refl u).arbiterTest).stage.trans h.stage, by simpa using h.dry,
    ((arbiterTest_wait u p h.stage).2 h.dry).trans h.wait, ?_⟩
  rcases arbiterTest_cases u with he | ⟨q, rest, -, he⟩
  · rw [he]; exact h.cold
  · rw [he, grant_eq]
    by_cases hq : p = q
    · subst hq
      rw [h.dry, if_neg Bool.false_ne_true, State.motor, granted_motors]
      simp [MotorState.cold]
    · have hg : (u.granted q rest).motor p = u.motor p := by
        rw [State.motor, granted_motors]
        exact PerProduct.get_set_ne _ _ hq
      split
      · rw [State.motor, confirmStart_motors, PerProduct.get_set_ne _ _ hq]
        rw [State.motor] at hg
        rw [hg]
        exact h.cold
      · rw [hg]; exact h.cold

theorem Awaits.of_same (h : Awaits u p) (hm : t.mode = u.mode) (hp : t.pins = u.pins)
    (hc : (t.motor p).state.cold) : Awaits t p :=
  ⟨by rw [hm]; exact h.stage, by rw [hp]; exact h.dry, by rw [hm]; exact h.wait, hc⟩

/-! #### PRIME registers with a product -/

theorem Users.add_prime (us : Users) : us.add .prime = { us with prime := true } := rfl

/-- A user joins the users of a product and of no other (R77). -/
theorem register_users (u : State) (w : User) (p q : Product) : ((u.register w p).motor q).users =
    if q = p then (u.motor p).users.add w else (u.motor q).users := by
  have hset : ∀ m : Motor, m.users = (u.motor p).users.add w → ((u.setMotor p m).motor q).users =
      if q = p then (u.motor p).users.add w else (u.motor q).users := fun m hm => by
    by_cases hq : q = p
    · subst hq; simp [hm]
    · rw [if_neg hq, State.motor, State.motor]
      exact congrArg Motor.users (PerProduct.get_set_ne _ _ hq)
  have hreport : ∀ v : State, ((v.reportRunning w p).motor q) = v.motor q := fun v => by
    unfold State.reportRunning
    dsimp only
    repeat' split
    all_goals rfl
  have hjoin : ∀ v : State, ((v.joinFifo p).motor q).users = (v.motor q).users := fun v => by
    unfold State.joinFifo
    dsimp only
    rw [arbiterTest_users]
    have hw : ∀ w : State, (w.postStatus.motor q).users = (w.motor q).users := fun w => by simp [State.motor]
    rw [hw]
    have hs : ((v.setMotor p { v.motor p with state := .waiting }).motor q).users = (v.motor q).users := by
      by_cases hq : q = p
      · subst hq; simp
      · rw [State.motor, State.motor]
        exact congrArg Motor.users (PerProduct.get_set_ne _ _ hq)
    split
    · exact hs
    · exact hs
  unfold State.register
  dsimp only
  split
  · rw [hjoin]; exact hset _ rfl
  · have hw : ∀ w : State, (w.postStatus.motor q).users = (w.motor q).users := fun w => by simp [State.motor]
    rw [hw, hreport]
    exact hset _ rfl
  · rw [hreport]; exact hset _ rfl
  all_goals exact hset _ rfl

theorem setMotor_motor_ne (u : State) (m : Motor) (h : q ≠ p) : (u.setMotor p m).motor q = u.motor q :=
  PerProduct.get_set_ne _ _ h

theorem Awaits.setMotor (h : Awaits u p) {m : Motor} (hm : q = p → m.state.cold) : Awaits (u.setMotor q m) p := by
  refine h.of_same rfl rfl ?_
  by_cases hq : p = q
  · subst hq
    rw [State.setMotor_motor_self]
    exact hm rfl
  · rw [setMotor_motor_ne _ _ hq]
    exact h.cold

theorem Awaits.reportRunning (h : Awaits u p) (hq : q ≠ p) : Awaits (u.reportRunning .prime q) p := by
  have he : u.reportRunning .prime q = { u with mode := { u.mode with primeWait := u.mode.primeWait.set q false } } :=
    if_pos h.stage
  rw [he]
  exact ⟨h.stage, h.dry, (PerProduct.get_set_ne _ _ (Ne.symm hq)).trans h.wait, h.cold⟩

theorem Awaits.postStatus (h : Awaits u p) : Awaits u.postStatus p :=
  h.of_same (by simp) (by simp) (by simpa [State.motor] using h.cold)

theorem Awaits.joinFifo (h : Awaits u p) : Awaits (u.joinFifo q) p := by
  have hset : Awaits (u.setMotor q { u.motor q with state := .waiting }) p := h.setMotor fun _ => .inr (.inl rfl)
  have hfifo : ∀ l, Awaits ((u.setMotor q { u.motor q with state := .waiting }).setFifo l) p := fun l =>
    hset.of_same rfl rfl hset.cold
  unfold State.joinFifo
  dsimp only
  split
  · exact hset.postStatus.arbiterTest
  · exact (hfifo _).postStatus.arbiterTest

/-- PRIME's registrations leave a product that is still to start awaited (R77 to R80, R169). -/
theorem Awaits.primeRegister (h : Awaits u p) : Awaits (u.primeRegister q) p := by
  have hwarm : (u.motor q).state = .rundown ∨ (u.motor q).state = .running ∨ (u.motor q).state = .failed → q ≠ p := by
    rintro hst rfl
    have hc := h.cold
    unfold MotorState.cold at hc
    rcases hst with hst | hst | hst <;> simp [hst] at hc
  have hkeep : Awaits (u.setMotor q { u.motor q with users := (u.motor q).users.add .prime }) p :=
    h.setMotor fun e => by subst e; exact h.cold
  have hreg : Awaits (u.register .prime q) p := by
    unfold State.register
    dsimp only
    split
    case h_1 => exact hkeep.joinFifo
    case h_2 hst =>
      have hne := hwarm (.inl hst)
      exact ((h.setMotor fun e => absurd e hne).reportRunning hne).postStatus
    case h_3 hst => exact hkeep.reportRunning (hwarm (.inr (.inl hst)))
    all_goals exact hkeep
  unfold State.primeRegister State.primeFailed
  dsimp only
  split
  case isFalse => exact h
  case isTrue =>
    split
    case isFalse => exact hreg
    case isTrue hf =>
      have hne : q ≠ p := by
        rintro rfl
        have hc := hreg.cold
        simp [MotorState.cold, hf] at hc
      split
      case isFalse => exact hreg
      case isTrue =>
        exact ⟨hreg.stage, hreg.dry, (PerProduct.get_set_ne _ _ (Ne.symm hne)).trans hreg.wait, hreg.cold⟩

/-- What a registration of PRIME leaves of the Mode Controller (R169). -/
theorem primeRegister_mode (u : State) (p : Product) : (u.primeRegister p).mode = { u.mode with
    primeWait := (u.primeRegister p).mode.primeWait
    outcome := { u.mode.outcome with products := (u.primeRegister p).mode.outcome.products } } := by
  have hreg : (u.register .prime p).mode = { u.mode with primeWait := (u.register .prime p).mode.primeWait } :=
    (ModeStands.refl u).register
  unfold State.primeRegister State.primeFailed
  dsimp only
  split
  case isFalse => rfl
  case isTrue =>
    split
    case isFalse => rw [hreg]
    case isTrue =>
      split
      case isFalse => rw [hreg]
      case isTrue => rw [State.setMode_mode, hreg]

theorem primeRegister_users (u : State) (p q : Product) : ((u.primeRegister p).motor q).users.prime =
    ((u.motor q).users.prime || (u.mode.primeReg.get p && decide (q = p))) := by
  have hfailed : ∀ v : State, (v.primeFailed p).motor q = v.motor q := fun v => by
    unfold State.primeFailed
    split <;> rfl
  unfold State.primeRegister
  dsimp only
  split
  case isFalse h => simp [h]
  case isTrue h =>
    have hu : ((u.register .prime p).motor q).users.prime = ((u.motor q).users.prime || decide (q = p)) := by
      rw [register_users]
      by_cases hq : q = p
      · subst hq; simp [Users.add_prime]
      · simp [hq]
    rw [h, Bool.true_and]
    split
    · rw [hfailed]; exact hu
    · exact hu

theorem primeRegister_onward (u : State) (p : Product) : Onward u (u.primeRegister p) := by
  have hreg := (MotorsTell.register u .prime p).hears
  have hfailed : ∀ v : State, (v.primeFailed p).sides = v.sides := fun v => by simp
  refine .of_hears (by simp) (by simp) (by simp) (by simp) ?_
  unfold State.primeRegister
  dsimp only
  split
  · split
    · exact hreg.trans (.of_eq (hfailed _))
    · exact hreg
  · exact .of_eq rfl

/-! #### A product that runs or has failed -/

/-- A product that PRIME need not await (R169). -/
def MotorState.warm (m : MotorState) : Prop := m.confirmed = true ∨ m = .failed

/-- A running motor reports to PRIME as it registers (R78, R83). -/
theorem register_of_confirmed (hst : u.mode.stage = some .prime) (h : (u.motor p).state.confirmed = true) :
    ∃ m : Motor, m.state = .running ∧
      (u.register .prime p).mode = { u.mode with primeWait := u.mode.primeWait.set p false } ∧
      ∀ q, (u.register .prime p).motor q = (u.setMotor p m).motor q := by
  have hreport : ∀ m : Motor, (u.setMotor p m).reportRunning .prime p =
      { u.setMotor p m with mode := { u.mode with primeWait := u.mode.primeWait.set p false } } := fun m => if_pos hst
  unfold State.register
  dsimp only
  rw [hreport, hreport]
  split
  case h_2 => exact ⟨{ u.motor p with state := .running, users := (u.motor p).users.add .prime, rundownT := none }, rfl,
    by simp, fun q => by simp [State.motor]⟩
  case h_3 hrun => exact ⟨{ u.motor p with users := (u.motor p).users.add .prime }, hrun, rfl, fun q => rfl⟩
  all_goals
    rename_i hno
    rw [hno] at h
    cases h

theorem register_of_failed (h : (u.motor p).state = .failed) : u.register .prime p =
    u.setMotor p { u.motor p with users := (u.motor p).users.add .prime } := by
  unfold State.register
  dsimp only
  split
  case h_6 => rfl
  all_goals
    rename_i hno
    exact absurd (hno.symm.trans h) nofun

theorem primeFailed_of_registered (hst : u.mode.stage = some .prime) (h : u.mode.primeReg.get p = true) :
    u.primeFailed p = u.setMode { u.mode with
      primeWait := u.mode.primeWait.set p false
      outcome := { u.mode.outcome with products := u.mode.outcome.products.set p true } } := if_pos ⟨hst, h⟩

/-- PRIME's registration with a product that runs or has failed settles it at once (R78, R83, R169). -/
theorem primeRegister_settles (hst : u.mode.stage = some .prime) (h : u.mode.primeReg.get p = true → (u.motor p).state.warm) :
    (∀ q, q ≠ p → (u.primeRegister p).motor q = u.motor q) ∧
      (∀ q, q ≠ p → (u.primeRegister p).mode.primeWait.get q = u.mode.primeWait.get q) ∧
      ((u.mode.primeWait.get p = true → u.mode.primeReg.get p = true) →
        (u.primeRegister p).mode.primeWait.get p = false) ∧
      (∀ q, u.mode.outcome.products.get q = true ∨ (u.mode.primeReg.get p = true ∧ q = p ∧ (u.motor p).state = .failed) →
        (u.primeRegister p).mode.outcome.products.get q = true) := by
  cases hreg : u.mode.primeReg.get p
  case false =>
    have he : u.primeRegister p = u := by simp [State.primeRegister, hreg]
    rw [he]
    exact ⟨fun _ _ => rfl, fun _ _ => rfl, fun hw => by simpa [hreg] using hw, fun q hq => hq.resolve_right nofun⟩
  case true =>
    rcases h hreg with hrun | hfail
    · obtain ⟨m, hm, hmode, hmotor⟩ := register_of_confirmed hst hrun
      have hself : ((u.register .prime p).motor p).state = .running := by rw [hmotor, State.setMotor_motor_self]; exact hm
      have he : u.primeRegister p = u.register .prime p := by simp [State.primeRegister, hreg, hself]
      have hne : (u.motor p).state ≠ .failed := fun hf => by
        rw [hf] at hrun
        cases hrun
      rw [he]
      refine ⟨fun q hq => (hmotor q).trans (setMotor_motor_ne _ _ hq), fun q hq => ?_, fun _ => ?_, fun q hq => ?_⟩
      · rw [hmode]; exact PerProduct.get_set_ne _ _ hq
      · rw [hmode]; exact PerProduct.get_set_self _ _ _
      · rw [hmode]; exact hq.resolve_right fun hf => hne hf.2.2
    · have he : u.primeRegister p = (u.setMotor p { u.motor p with users := (u.motor p).users.add .prime }).setMode
          { u.mode with
            primeWait := u.mode.primeWait.set p false
            outcome := { u.mode.outcome with products := u.mode.outcome.products.set p true } } := by
        have hf := primeFailed_of_registered (p := p)
          (u := u.setMotor p { u.motor p with users := (u.motor p).users.add .prime }) hst hreg
        unfold State.primeRegister
        dsimp only
        rw [if_pos hreg, register_of_failed hfail, hf, State.setMotor_motor_self, if_pos hfail]
        rfl
      rw [he]
      refine ⟨fun q hq => setMotor_motor_ne _ _ hq, fun q hq => PerProduct.get_set_ne _ _ hq,
        fun _ => PerProduct.get_set_self _ _ _, fun q hq => ?_⟩
      show (u.mode.outcome.products.set p true).get q = true
      by_cases hqp : q = p
      · subst hqp; exact PerProduct.get_set_self _ _ _
      · rw [PerProduct.get_set_ne _ _ hqp]
        exact hq.resolve_right fun hf => hqp hf.2.1

/-! #### PRIME is over -/

theorem release_fifo_subset (s : State) (w : User) (p : Product) : (s.release w p).motors.fifo ⊆ s.motors.fifo := by
  unfold State.release
  dsimp only
  repeat' split
  all_goals simp [State.setMotor, State.dropFifo, State.setFifo, rundown_motors]

/-- A FAILED motor that is not in the FIFO stays FAILED as a user releases every product (R77, R81). -/
theorem releaseAll_of_failed (w : User) (hf : p ∉ s.motors.fifo) (h : (s.motor p).state = .failed) :
    ((s.releaseAll w).motor p).state = .failed := by
  have hone : ∀ (v : State) q, (v.motor p).state = .failed → ((v.release w q).motor p).state = .failed := fun v q hv => by
    by_cases hq : p = q
    · subst hq
      rw [release_motor_of_failed w hv]
      exact hv
    · rw [release_motor_ne w hq]
      exact hv
  have hout : p ∉ (((s.release w .low).release w .high).release w .aux).motors.fifo := fun hin =>
    hf (release_fifo_subset _ _ _ (release_fifo_subset _ _ _ (release_fifo_subset _ _ _ hin)))
  have hstate : ((((s.release w .low).release w .high).release w .aux).motor p).state = .failed :=
    hone _ _ (hone _ _ (hone _ _ h))
  unfold State.releaseAll State.newHeadTest
  split
  · exact hstate
  · rw [arbiterTest_motor hout]
    exact hstate

/-- PRIME's end (R169, R170). -/
structure PrimeEnds (s t : State) : Prop where
  onward : Onward s t
  follow : ReadersFollow s t
  outcome : t.mode.outcome = { s.mode.outcome with gates := t.mode.outcome.gates }
  failed : ∀ p, p ∉ s.motors.fifo → (s.motor p).state = .failed → (t.motor p).state = .failed

theorem primeTest_ends (hst : u.mode.stage = some .prime) (hw : u.mode.primeWait = PerProduct.same false) :
    PrimeEnds u u.primeTest := by
  generalize hv : (u.releaseAll .prime).setMode { (u.releaseAll .prime).mode with primeReg := PerProduct.same false } = v
  have he : u.primeTest = v.readersStage := by rw [← hv]; exact if_pos ⟨hst, hw⟩
  have hmode : (u.releaseAll .prime).mode = { u.mode with primeWait := (u.releaseAll .prime).mode.primeWait } :=
    (ModeStands.refl u).releaseAll
  have hvm : v.mode.mode = u.mode.mode := by rw [← hv]; simp
  have hvo : v.mode.outcome = u.mode.outcome := by rw [← hv]; exact (congrArg ModeCtl.outcome hmode : _)
  have hvmo : v.motors = (u.releaseAll .prime).motors := by rw [← hv]; rfl
  have hon : Onward u v := by
    rw [← hv]
    refine .of_hears (by simp) (by simp) (by simp) (by simp) ?_
    exact (MotorsTell.releaseAll u .prime).hears.trans (.of_eq rfl)
  have hvg : v.gates = u.gates := by rw [← hv]; simp
  obtain ⟨hr, hfollow, hmotors, hout⟩ := readersStage_runs v
  have husers : ∀ p, (v.motor p).users.prime = false := fun p => by
    rw [State.motor, hvmo]; exact releaseAll_prime u p
  rw [he]
  exact {
    onward := hon.trans hr
    follow := (hfollow husers).of_same hvg hon.config hvm
    outcome := by rw [← hvo]; exact hout
    failed := fun p hf h => by
      rw [State.motor, hmotors, hvmo]
      exact releaseAll_of_failed .prime hf h }

theorem PerProduct.eq_same_false (b : PerProduct Bool) : b = PerProduct.same false ↔ ∀ p, b.get p = false := by
  obtain ⟨x, y, z⟩ := b
  refine ⟨fun h p => by rw [h]; cases p <;> rfl, fun h => ?_⟩
  have hl := h .low
  have hh := h .high
  have ha := h .aux
  simp_all [PerProduct.get, PerProduct.same]

/-- With a product still awaited PRIME goes on (R169). -/
theorem primeTest_of_awaited (h : u.mode.primeWait.get p = true) : u.primeTest = u := if_neg fun hno => by
  have hp := (PerProduct.eq_same_false _).1 hno.2 p
  rw [h] at hp
  cases hp

/-! #### The PRIME stage -/

theorem mappedNeeds_iff (u : State) (p : Product) : u.mappedNeeds p = true ↔ Needed u p := by
  simp [State.mappedNeeds, Needed]

/-- PRIME with its products registered (R169). -/
def State.primed (u : State) : State := ((u.primeRegister .low).primeRegister .high).primeRegister .aux

theorem primed_mode (u : State) : u.primed.mode = { u.mode with
    primeWait := u.primed.mode.primeWait
    outcome := { u.mode.outcome with products := u.primed.mode.outcome.products } } := by
  unfold State.primed
  rw [primeRegister_mode ((u.primeRegister .low).primeRegister .high), primeRegister_mode (u.primeRegister .low),
    primeRegister_mode u]

theorem primed_onward (u : State) : Onward u u.primed :=
  ((primeRegister_onward u .low).trans (primeRegister_onward _ .high)).trans (primeRegister_onward _ .aux)

theorem primed_users (u : State) (q : Product) :
    (u.primed.motor q).users.prime = ((u.motor q).users.prime || u.mode.primeReg.get q) := by
  have h1 : (u.primeRegister .low).mode.primeReg = u.mode.primeReg := by rw [primeRegister_mode]
  have h2 : ((u.primeRegister .low).primeRegister .high).mode.primeReg = u.mode.primeReg := by
    rw [primeRegister_mode]; exact h1
  unfold State.primed
  rw [primeRegister_users, primeRegister_users, primeRegister_users, h1, h2]
  cases q <;> simp

theorem Awaits.primed (h : Awaits u p) : Awaits u.primed p := h.primeRegister.primeRegister.primeRegister

/-- With every registered product running or failed, none is awaited and those that have failed are named (R169). -/
theorem primed_settles (hst : u.mode.stage = some .prime) (hw : ∀ q, u.mode.primeWait.get q = u.mode.primeReg.get q)
    (h : ∀ q, u.mode.primeReg.get q = true → (u.motor q).state.warm) :
    u.primed.mode.primeWait = PerProduct.same false ∧
      ∀ q, u.mode.primeReg.get q = true → (u.motor q).state = .failed → u.primed.mode.outcome.products.get q = true := by
  obtain ⟨hm1, hw1, hs1, hp1⟩ := primeRegister_settles (p := .low) hst (h .low)
  have hmode1 := primeRegister_mode u .low
  generalize hx : u.primeRegister .low = x at *
  have hxst : x.mode.stage = some .prime := by rw [hmode1]; exact hst
  have hxreg : x.mode.primeReg = u.mode.primeReg := by rw [hmode1]
  have hxm : x.motor .high = u.motor .high := hm1 _ (by decide)
  obtain ⟨hm2, hw2, hs2, hp2⟩ := primeRegister_settles (u := x) (p := .high) hxst
    (by rw [hxreg, hxm]; exact h .high)
  have hmode2 := primeRegister_mode x .high
  generalize hy : x.primeRegister .high = y at *
  have hyst : y.mode.stage = some .prime := by rw [hmode2]; exact hxst
  have hyreg : y.mode.primeReg = u.mode.primeReg := by rw [hmode2]; exact hxreg
  have hym : y.motor .aux = u.motor .aux := (hm2 _ (by decide)).trans (hm1 _ (by decide))
  obtain ⟨-, hw3, hs3, hp3⟩ := primeRegister_settles (u := y) (p := .aux) hyst
    (by rw [hyreg, hym]; exact h .aux)
  have he : u.primed = y.primeRegister .aux := by rw [State.primed, hx, hy]
  rw [hxreg, hxm] at hp2
  rw [hxreg] at hs2
  rw [hyreg, hym] at hp3
  rw [hyreg] at hs3
  rw [he]
  have hreg : ∀ q, u.mode.primeWait.get q = true → u.mode.primeReg.get q = true := fun q hq => by rw [← hw]; exact hq
  refine ⟨(PerProduct.eq_same_false _).2 fun q => ?_, fun q hr hf => ?_⟩
  · cases q with
    | low => exact (hw3 _ (by decide)).trans ((hw2 _ (by decide)).trans (hs1 (hreg .low)))
    | high => exact (hw3 _ (by decide)).trans (hs2 (by rw [hw1 _ (by decide)]; exact hreg .high))
    | aux => exact hs3 (by rw [hw2 _ (by decide), hw1 _ (by decide)]; exact hreg .aux)
  · cases q with
    | low => exact hp3 _ (.inl (hp2 _ (.inl (hp1 _ (.inr ⟨hr, rfl, hf⟩)))))
    | high => exact hp3 _ (.inl (hp2 _ (.inr ⟨hr, rfl, hf⟩)))
    | aux => exact hp3 _ (.inr ⟨hr, rfl, hf⟩)

end Sys2Proof.Machine
end


/-! ### The opening goes on to OPEN -/
section
namespace Sys2Proof.Machine

variable {s t u v : State} {sd : Side} {dt : Nat} {p q : Product} {failed : Bool}

/-! #### The PRIME stage begins -/

theorem primeTest_onward (u : State) : Onward u u.primeTest ∧
    u.primeTest.mode.outcome = { u.mode.outcome with gates := u.primeTest.mode.outcome.gates } := by
  by_cases h : u.mode.stage = some .prime ∧ u.mode.primeWait = PerProduct.same false
  · have hends := primeTest_ends h.1 h.2
    exact ⟨hends.onward, hends.outcome⟩
  · have he : u.primeTest = u := if_neg h
    rw [he]
    exact ⟨⟨rfl, rfl, rfl, rfl, fun _ h => h⟩, rfl⟩

/-- What the PRIME stage does by the products that a mapped grade needs (R169). -/
structure PrimeBegins (s t : State) : Prop where
  waits : ∀ p, Needed s p → (s.motor p).state ∈ [MotorState.stopped, .waiting, .starting] →
    s.pins.pressureOk.get p = false → t.mode.stage = some .prime ∧ t.mode.primeWait.get p = true ∧
      ∀ q, Needed s q → t.mode.primeReg.get q = true ∧ (t.motor q).users.prime = true
  follows : (∀ p, Needed s p → (s.motor p).state.confirmed = true ∨ (s.motor p).state = .failed) →
    ReadersFollow s t ∧ ∀ p, Needed s p → (s.motor p).state = .failed → t.mode.outcome.products.get p = true

/-- The products that a mapped grade needs (R169). -/
def State.needs (u : State) : PerProduct Bool := ⟨u.mappedNeeds .low, u.mappedNeeds .high, u.mappedNeeds .aux⟩

theorem needs_iff (u : State) (p : Product) : u.needs.get p = true ↔ Needed u p := by
  rw [← mappedNeeds_iff]
  cases p <;> rfl

/-- The PRIME stage before its registrations (R169). -/
def State.priming (u : State) : State :=
  (u.toStage .prime).setMode { (u.toStage .prime).mode with primeReg := u.needs, primeWait := u.needs }

theorem primeStage_eq (u : State) : u.primeStage = u.priming.primed.primeTest := by
  have hneeds : ∀ p, (u.toStage .prime).mappedNeeds p = u.mappedNeeds p := fun p => by simp [State.mappedNeeds]
  unfold State.primeStage
  dsimp only
  rw [hneeds, hneeds, hneeds]
  rfl

theorem priming_frame (u : State) : Onward u u.priming ∧ u.priming.motors = u.motors ∧ u.priming.gates = u.gates ∧
    u.priming.mode = { u.mode with stage := some .prime, primeReg := u.needs, primeWait := u.needs } := by
  have hmode : u.priming.mode = { u.mode with stage := some .prime, primeReg := u.needs, primeWait := u.needs } := by
    simp [State.priming]
  exact ⟨.of_hears (by simp [State.priming]) (by simp [State.priming]) (by simp [State.priming])
    (by simp [State.priming]) (.of_eq (by simp [State.priming])), by simp [State.priming], by simp [State.priming], hmode⟩

theorem primeStage_facts (u : State) : Onward u u.primeStage ∧ PrimeBegins u u.primeStage ∧
    u.primeStage.mode.outcome.displays = u.mode.outcome.displays := by
  obtain ⟨hon, hmotors, hgates, hmode⟩ := priming_frame u
  have hy := primed_onward u.priming
  have hym := primed_mode u.priming
  have hyg : u.priming.primed.gates = u.gates := by
    rw [← hgates]; simp [State.primed]
  have hyu := primed_users u.priming
  have haw := fun p => Awaits.primed (u := u.priming) (p := p)
  have hsettle := primed_settles (u := u.priming) (by rw [hmode]) (fun q => by rw [hmode])
  have hpins := hon.pins
  have hm : ∀ p, u.priming.motor p = u.motor p := fun p => congrArg (fun m => m.motor.get p) hmotors
  rw [hmode] at hym hyu hsettle
  have hst : u.priming.mode.stage = some .prime := by rw [hmode]
  have hwait : ∀ p, Needed u p → u.priming.mode.primeWait.get p = true := fun p h => by
    rw [hmode]; exact (needs_iff u p).2 h
  rw [primeStage_eq]
  generalize u.priming.primed = y at *
  have hyst : y.mode.stage = some .prime := (congrArg ModeCtl.stage hym : _)
  have hydisp : y.mode.outcome.displays = u.mode.outcome.displays :=
    (congrArg (fun m : ModeCtl => m.outcome.displays) hym : _)
  obtain ⟨hlast, hout⟩ := primeTest_onward y
  refine ⟨(hon.trans hy).trans hlast, ⟨fun p hneed hcold hdry => ?_, fun hall => ?_⟩, ?_⟩
  · have hawaits : Awaits y p := haw p ⟨hst, by rw [hpins]; exact hdry, hwait p hneed, by
      rw [hm]; simpa [MotorState.cold] using hcold⟩
    rw [primeTest_of_awaited hawaits.wait]
    refine ⟨hawaits.stage, hawaits.wait, fun q hq => ⟨?_, ?_⟩⟩
    · have hreg : y.mode.primeReg = u.needs := (congrArg ModeCtl.primeReg hym : _)
      rw [hreg]
      exact (needs_iff u q).2 hq
    · have hneed : u.needs.get q = true := (needs_iff u q).2 hq
      rw [hyu, hneed, Bool.or_true]
  · obtain ⟨hnone, hnamed⟩ := hsettle fun q hq => by
      rw [hm]; exact hall q ((needs_iff u q).1 hq)
    have hends := primeTest_ends hyst hnone
    refine ⟨hends.follow.of_same hyg ((hon.trans hy).config) (congrArg ModeCtl.mode hym : _), fun p hp hf => ?_⟩
    rw [hends.outcome]
    exact hnamed p ((needs_iff u p).2 hp) (by rw [hm]; exact hf)
  · rw [hout]; exact hydisp

/-! #### The LAMP stage's last test -/

/-- What the end of a lamp test that LAMP awaits does (R101, R168, R169). -/
structure LampEnds (s t : State) (sd : Side) (failed : Bool) : Prop where
  displays : t.mode.outcome.displays =
    if failed then s.mode.outcome.displays.set sd true else s.mode.outcome.displays
  more : s.mode.lampAwait.get sd.other = true → t.mode.stage = some .lamp ∧
    t.mode.lampAwait = s.mode.lampAwait.set sd false
  last : s.mode.lampAwait.get sd.other = false → PrimeBegins s t

theorem lampDone_ends (hst : u.mode.stage = some .lamp) (haw : u.mode.lampAwait.get sd = true) (failed : Bool) :
    Onward u (u.lampDone sd failed) ∧ LampEnds u (u.lampDone sd failed) sd failed := by
  generalize hv : u.setMode { u.mode with
      lampAwait := u.mode.lampAwait.set sd false
      outcome := { u.mode.outcome with
        displays := if failed then u.mode.outcome.displays.set sd true else u.mode.outcome.displays } } = v
  have he : u.lampDone sd failed = if v.mode.lampAwait = Both.same false then v.primeStage else v := by
    rw [← hv]; exact if_pos ⟨hst, haw⟩
  have hawait : v.mode.lampAwait = u.mode.lampAwait.set sd false := by rw [← hv]; rfl
  have hlast : v.mode.lampAwait = Both.same false ↔ u.mode.lampAwait.get sd.other = false := by
    rw [hawait, Both.set_false_eq]
  have hon : Onward u v := by rw [← hv]; exact ⟨rfl, rfl, rfl, rfl, fun _ h => h⟩
  have hdisp : v.mode.outcome.displays =
      if failed then u.mode.outcome.displays.set sd true else u.mode.outcome.displays := by rw [← hv]; rfl
  rw [he]
  split
  case isTrue h =>
    obtain ⟨hstage, hbegins, hkeeps⟩ := primeStage_facts v
    refine ⟨hon.trans hstage, hkeeps.trans hdisp, fun hmore => ?_, fun _ => ?_⟩
    · rw [hlast.1 h] at hmore
      cases hmore
    · have hsame : PrimeBegins v v.primeStage → PrimeBegins u v.primeStage := by
        rw [← hv]
        exact fun ⟨hw, hf⟩ => ⟨hw, fun hall => ⟨(hf hall).1.of_same rfl rfl rfl, (hf hall).2⟩⟩
      exact hsame hbegins
  case isFalse h =>
    refine ⟨hon, hdisp, fun _ => ⟨by rw [← hv]; exact hst, hawait⟩, fun hno => absurd (hlast.2 hno) h⟩

/-- What the opening's stages read of a state. -/
def SameForPrime (s t : State) : Prop := t.mode = s.mode ∧ t.motors = s.motors ∧ t.gates = s.gates

theorem LampEnds.of_same (h : LampEnds u t sd failed) (hsame : SameForPrime s u) (hprices : u.prices = s.prices)
    (hpins : u.pins = s.pins) (hcfg : u.exch.config = s.exch.config) : LampEnds s t sd failed := by
  obtain ⟨hmode, hmotors, hgates⟩ := hsame
  have hneed : ∀ p, Needed u p ↔ Needed s p := fun p => by rw [Needed, Needed, hprices]
  have hm : ∀ p, u.motor p = s.motor p := fun p => congrArg (fun m => m.motor.get p) hmotors
  obtain ⟨hd, hmore, hlast⟩ := h
  rw [hmode] at hd hmore hlast
  refine ⟨hd, hmore, fun hno => ?_⟩
  obtain ⟨hwaits, hfollows⟩ := hlast hno
  simp only [hneed, hm, hpins] at hwaits hfollows
  exact ⟨hwaits, fun hall => ⟨(hfollows hall).1.of_same hgates hcfg (congrArg ModeCtl.mode hmode), (hfollows hall).2⟩⟩

theorem LampEnds.to_same (h : LampEnds s u sd failed) (hsame : SameForPrime u t) (hnow : t.now = u.now) :
    LampEnds s t sd failed := by
  obtain ⟨hmode, hmotors, hgates⟩ := hsame
  have hm : ∀ p, t.motor p = u.motor p := fun p => congrArg (fun m => m.motor.get p) hmotors
  obtain ⟨hd, hmore, hlast⟩ := h
  refine ⟨by rw [hmode]; exact hd, by rw [hmode]; exact hmore, fun hno => ?_⟩
  obtain ⟨hwaits, hfollows⟩ := hlast hno
  refine ⟨fun p => ?_, fun hall => ⟨(hfollows hall).1.to_same hgates hmotors hnow hmode, by rw [hmode]; exact (hfollows hall).2⟩⟩
  simp only [hmode, hm]
  exact hwaits p

theorem SameForPrime.nextTransfer (u : State) (sd : Side) : SameForPrime u (u.nextTransfer sd) :=
  ⟨by simp, by simp, by simp⟩

/-- A lamp test that LAMP awaits passes (R101). -/
theorem lampPasses_ends (l : LampTest) (hst : u.mode.stage = some .lamp) (haw : u.mode.lampAwait.get sd = true) :
    LampEnds u (u.lampPasses sd l) sd false ∧ (u.lampPasses sd l).now = u.now ∧
      ((u.lampPasses sd l).disp sd).state = .lit := by
  generalize hv : (if l.fromFault then ((u.setDisp sd { u.disp sd with state := .lit, mismatch := 0, lamp := none }
    ).postStatus).raise .displayOk sd.number .unstated .unstated else
      (u.setDisp sd { u.disp sd with state := .lit, mismatch := 0, lamp := none }).postStatus) = v
  have he : u.lampPasses sd l = v.lampDone sd false := by rw [← hv]; rfl
  have hsame : SameForPrime u v ∧ v.prices = u.prices ∧ v.pins = u.pins ∧ v.exch.config = u.exch.config ∧ v.now = u.now ∧
      v.disp sd = { u.disp sd with state := .lit, mismatch := 0, lamp := none } := by
    have hpost : ∀ w : State, w.postStatus.disp sd = w.disp sd := fun w => by simp [State.disp]
    rw [← hv]
    split
    · exact ⟨⟨by simp, by simp, by simp⟩, by simp, by simp, by simp, by simp,
        (hpost _).trans (State.setDisp_disp_self _ _ _)⟩
    · exact ⟨⟨by simp, by simp, by simp⟩, by simp, by simp, by simp, by simp,
        (hpost _).trans (State.setDisp_disp_self _ _ _)⟩
  obtain ⟨hs, hprices, hpins, hcfg, hnow, hdisp⟩ := hsame
  obtain ⟨hon, hends⟩ := lampDone_ends (u := v) (sd := sd) (by rw [hs.1]; exact hst) (by rw [hs.1]; exact haw) false
  rw [he]
  refine ⟨hends.of_same hs hprices hpins hcfg, hon.now.trans hnow, ?_⟩
  rw [State.picture_state hon.picture, hdisp]

/-- A lamp test that LAMP awaits fails (R101, R103). -/
theorem lampFails_ends {l : LampTest} (i : Nat) (hst : u.mode.stage = some .lamp) (haw : u.mode.lampAwait.get sd = true)
    (hl : (u.disp sd).lamp = some l) (hz : (u.disp sd).zero = none) (hdark : u.display.darkening = false)
    (hsale : (u.side sd).state.holdsSale = false) :
    LampEnds u (u.displayFails sd .lampTest i) sd true ∧ (u.displayFails sd .lampTest i).now = u.now ∧
      ((u.displayFails sd .lampTest i).disp sd).state = .fault ∧
      ((u.displayFails sd .lampTest i).disp sd).transfer = some ⟨allOff, .blank⟩ := by
  generalize hv : u.releaseRetest sd = v
  have hvd : v.display = u.display := by rw [← hv]; simp
  have hsame : SameForPrime u v ∧ v.prices = u.prices ∧ v.pins = u.pins ∧ v.exch.config = u.exch.config ∧ v.now = u.now ∧
      v.sides = u.sides := by
    rw [← hv]
    exact ⟨⟨by simp, by simp, by simp⟩, by simp, by simp, by simp, by simp, by simp⟩
  obtain ⟨hs, hprices, hpins, hcfg, hnow, hsides⟩ := hsame
  obtain ⟨hon, hends⟩ := lampDone_ends (u := v) (sd := sd) (by rw [hs.1]; exact hst) (by rw [hs.1]; exact haw) true
  have hzero : v.zeroFailed sd = v := by
    have hvz : (v.disp sd).zero = none := by rw [State.disp, hvd]; exact hz
    simp [State.zeroFailed, hvz]
  have hidle : ((v.lampDone sd true).side sd).state.holdsSale = false := hon.idle sd (by rw [State.side, hsides]; exact hsale)
  have hplant := (Display.plant_iff _ _).1 (Display.picture_plant hon.picture)
  have hfails : u.displayFails sd .lampTest i =
      (((v.lampDone sd true).displayFault sd .lampTest i).noticeDisplayFault sd).darkReport := by
    unfold State.displayFails
    dsimp only
    rw [hv, hzero, hl]
    rfl
  generalize v.lampDone sd true = w at *
  have hnotice : (w.displayFault sd .lampTest i).noticeDisplayFault sd = w.displayFault sd .lampTest i := by
    have hside : (w.displayFault sd .lampTest i).side sd = w.side sd := by simp [State.side]
    unfold State.noticeDisplayFault
    rw [hside]
    cases hstate : (w.side sd).state <;> simp_all [SideState.holdsSale]
  have hwdark : w.display.darkening = false := hplant.2.2.2.2.2.2.trans (by rw [hvd]; exact hdark)
  have hdisp := (displayFault_disp w sd .lampTest i).1
  have hdarkening : (w.displayFault sd .lampTest i).display.darkening = false := by
    have hfp := (Display.plant_iff _ _).1 (State.displayFault_plant w sd .lampTest i)
    exact hfp.2.2.2.2.2.2.trans hwdark
  rw [hfails, hnotice, darkReport_of_lit hdarkening]
  refine ⟨(hends.of_same hs hprices hpins hcfg).to_same ⟨by simp, by simp, by simp⟩ (by simp), ?_, ?_, ?_⟩
  · simpa using hon.now.trans hnow
  · rw [hdisp]
  · rw [hdisp]

end Sys2Proof.Machine
end


/-! ### The awaited product and the awaited gate -/
section
namespace Sys2Proof.Machine

variable {s t u v : State} {sd : Side} {dt : Nat} {p q : Product} {trips : Bool} {a : Addressing} {f : Frame}

/-! #### The product that PRIME awaits -/

theorem arbiterTest_fifo_subset (u : State) : u.arbiterTest.motors.fifo ⊆ u.motors.fifo := by
  rcases arbiterTest_cases u with h | ⟨p, rest, hf, h⟩
  · rw [h]
    exact List.Subset.refl _
  · have hg : (u.grant p rest).motors.fifo = rest := by
      rw [grant_eq]
      split
      · rw [confirmStart_motors, granted_motors]
      · rw [granted_motors]
    rw [h, hg, hf]
    exact List.subset_cons_self _ _

/-- A motor's move in PRIME is followed by PRIME's test, once the sides in STARTING have heard of it (R52, R169). -/
theorem afterMotors_eq (u : State) : u.afterMotors = (u.bothSides State.startingTest).primeTest := rfl

theorem pressureSettles (hst : s.mode.stage = some .prime) (hs : (s.motor p).state = .starting)
    (husers : (s.motor p).users.prime = true) : ∃ b : State, exec (.pressureOkPresent dt p) s = .next b.primeTest ∧
      b.now = s.now + dt ∧ b.exch.config = s.exch.config ∧ b.gates = s.gates ∧
      b.mode = { s.mode with primeWait := b.mode.primeWait } ∧ b.mode.primeWait.get p = false ∧
      (∀ q, q ≠ p → s.mode.primeWait.get q = false → b.mode.primeWait.get q = false) ∧
      ∀ q, q ≠ p → s.pins.pressureOk.get q = false → b.mode.primeWait.get q = s.mode.primeWait.get q := by
  generalize hu : (s.elapse dt).pinPressure p true = u
  have hum : u.mode = s.mode := by rw [← hu]; rfl
  have humo : u.motor p = s.motor p := by rw [← hu]; rfl
  have hex := (exec_pressureOkPresent s dt p).trans (congrArg _ (pressureArrives_of_starting
    (u := (s.elapse dt).pinPressure p true) hs))
  rw [hu, afterMotors_eq] at hex
  have hwait := confirmStart_wait u p (by rw [hum]; exact hst)
  rw [humo, husers, if_pos rfl, hum] at hwait
  have hcmode : ModeStands u (u.confirmStart p) := (ModeStands.refl u).confirmStart
  have hcp : (u.confirmStart p).pins = u.pins := by simp
  have hcn : (u.confirmStart p).now = u.now := by simp
  have hcg : (u.confirmStart p).gates = u.gates := by simp
  have hcc : (u.confirmStart p).exch.config = u.exch.config := by simp
  generalize u.confirmStart p = c at *
  have hcst : c.mode.stage = some .prime := hcmode.stage.trans (by rw [hum]; exact hst)
  have hamode := (ModeStands.refl c).arbiterTest
  have hbm : (c.arbiterTest.bothSides State.startingTest).mode = c.arbiterTest.mode := by simp
  unfold ModeStands at hcmode hamode
  refine ⟨_, hex, ?_, ?_, ?_, ?_, ?_, fun q hq hw => ?_, fun q hq hdry => ?_⟩
  · have hb : (c.arbiterTest.bothSides State.startingTest).now = c.now := by simp
    rw [hb, hcn, ← hu]
    rfl
  · have hb : (c.arbiterTest.bothSides State.startingTest).exch.config = c.exch.config := by simp
    rw [hb, hcc, ← hu]
    rfl
  · have hb : (c.arbiterTest.bothSides State.startingTest).gates = c.gates := by simp
    rw [hb, hcg, ← hu]
    rfl
  · rw [hbm, hamode, hcmode, hum]
  · rw [hbm]
    exact (arbiterTest_wait c p hcst).1 (by rw [hwait]; exact PerProduct.get_set_self _ _ _)
  · rw [hbm]
    exact (arbiterTest_wait c q hcst).1 (by rw [hwait, PerProduct.get_set_ne _ _ hq]; exact hw)
  · have hpin : c.pins.pressureOk.get q = false := by
      rw [hcp, ← hu]
      exact (PerProduct.get_set_ne _ _ hq).trans hdry
    rw [hbm, (arbiterTest_wait c q hcst).2 hpin, hwait, PerProduct.get_set_ne _ _ hq]

/-- The failure of the product that PRIME awaits last (R85, R169). -/
theorem failureSettles {c : Instr} (hc : FailsNow c s dt p) (hst : s.mode.stage = some .prime)
    (hreg : s.mode.primeReg.get p = true) (hf : p ∉ s.motors.fifo)
    (hsides : ∀ sd, (s.side sd).state ≠ .authorized ∧ (s.side sd).state ≠ .starting) :
    ∃ b : State, exec c s = .next b.primeTest ∧ b.now = s.now + dt ∧ b.exch.config = s.exch.config ∧ b.gates = s.gates ∧
      b.mode = { s.mode with
        primeWait := b.mode.primeWait
        outcome := { s.mode.outcome with products := s.mode.outcome.products.set p true } } ∧
      b.mode.primeWait.get p = false ∧ (∀ q, q ≠ p → s.mode.primeWait.get q = false → b.mode.primeWait.get q = false) ∧
      p ∉ b.motors.fifo ∧ (b.motor p).state = .failed := by
  obtain ⟨cause, hex⟩ := exec_of_failsNow hc
  have hside : ∀ sd, ((s.elapse dt).failMotor p cause).side sd = s.side sd := fun sd => by simp [State.side]
  obtain ⟨-, hother, hmotors, hmode, -, -, -, hgates, hprices, -⟩ :=
    noticeMotorFailed_told (p := p) (hside .a) (by simp) (hsides .a).1 (hsides .a).2
  have hb : (((s.elapse dt).failMotor p cause).noticeMotorFailed .a p).side .b = s.side .b := hother.trans (hside .b)
  obtain ⟨-, -, hmotors', hmode', -, -, -, hgates', -⟩ :=
    noticeMotorFailed_told (sd := .b) (p := p) hb (hprices.trans (by simp)) (hsides .b).1 (hsides .b).2
  have hmode2 := hmode'.trans (hmode.trans (State.failMotor_frame _ _ _).2.2.2.2.2.2.2.2.1)
  have hmotors2 := hmotors'.trans (hmotors.trans (failMotor_motors _ _ _))
  have hgates2 : ((((s.elapse dt).failMotor p cause).noticeMotorFailed .a p).noticeMotorFailed .b p).gates = s.gates :=
    hgates'.trans (hgates.trans (by simp))
  have hnow2 : ((((s.elapse dt).failMotor p cause).noticeMotorFailed .a p).noticeMotorFailed .b p).now = s.now + dt := by
    simp
  have hcfg2 : ((((s.elapse dt).failMotor p cause).noticeMotorFailed .a p).noticeMotorFailed .b p).exch.config =
      s.exch.config := by simp
  have he : (s.elapse dt).motorFails p cause =
      ((((((s.elapse dt).failMotor p cause).noticeMotorFailed .a p).noticeMotorFailed .b p).primeFailed p
        ).arbiterTest).afterMotors := rfl
  rw [he, afterMotors_eq] at hex
  generalize (((s.elapse dt).failMotor p cause).noticeMotorFailed .a p).noticeMotorFailed .b p = n at *
  have hnm : n.mode = s.mode := hmode2
  rw [primeFailed_of_registered (u := n) (by rw [hnm]; exact hst) (by rw [hnm]; exact hreg), hnm] at hex
  generalize hx : n.setMode { s.mode with
    primeWait := s.mode.primeWait.set p false
    outcome := { s.mode.outcome with products := s.mode.outcome.products.set p true } } = x at hex
  have hxm : x.mode = { s.mode with
      primeWait := s.mode.primeWait.set p false
      outcome := { s.mode.outcome with products := s.mode.outcome.products.set p true } } := by rw [← hx]; rfl
  have hxmo : x.motors = n.motors := by rw [← hx]; rfl
  have hxf : p ∉ x.motors.fifo := by rw [hxmo, hmotors2]; exact hf
  have hxfail : (x.motor p).state = .failed := by rw [State.motor, hxmo, hmotors2]; simp
  have hxst : x.mode.stage = some .prime := by rw [hxm]; exact hst
  have hamode := (ModeStands.refl x).arbiterTest
  unfold ModeStands at hamode
  have hbm : (x.arbiterTest.bothSides State.startingTest).mode = x.arbiterTest.mode := by simp
  have hbmo : (x.arbiterTest.bothSides State.startingTest).motors = x.arbiterTest.motors := by simp
  have hbn : (x.arbiterTest.bothSides State.startingTest).now = n.now := by simp [← hx]
  have hbg : (x.arbiterTest.bothSides State.startingTest).gates = n.gates := by simp [← hx]
  have hbc : (x.arbiterTest.bothSides State.startingTest).exch.config = n.exch.config := by simp [← hx]
  refine ⟨_, hex, hbn.trans hnow2, hbc.trans hcfg2, hbg.trans hgates2, ?_, ?_, fun q hq hw => ?_, ?_, ?_⟩
  · rw [hbm, hamode, hxm]
  · rw [hbm]
    exact (arbiterTest_wait x p hxst).1 (by rw [hxm]; exact PerProduct.get_set_self _ _ _)
  · rw [hbm]
    exact (arbiterTest_wait x q hxst).1 (by rw [hxm]; exact (PerProduct.get_set_ne _ _ hq).trans hw)
  · rw [hbmo]
    exact fun hin => hxf (arbiterTest_fifo_subset x hin)
  · rw [State.motor, hbmo]
    exact (congrArg Motor.state (arbiterTest_motor hxf)).trans hxfail

/-- The product that PRIME awaits last has been settled (R169, R170). -/
theorem primeTest_follows (b : State) (hst : b.mode.stage = some .prime) (hw : ∀ q, b.mode.primeWait.get q = false)
    (hgates : b.gates = s.gates) (hcfg : b.exch.config = s.exch.config) (hmode : b.mode.mode = s.mode.mode) :
    ReadersFollow s b.primeTest :=
  (primeTest_ends hst ((PerProduct.eq_same_false _).2 hw)).follow.of_same hgates hcfg hmode

/-! #### The gate that READERS awaits -/

theorem afterGate_of_coming {old : GateState} (h : old ≠ .opened) : u.afterGate sd old = u.readersTest := by
  simp [State.afterGate, h]

theorem Both.eq_of_sides {α : Type} {b c : Both α} (sd : Side) (h : b.get sd = c.get sd)
    (h' : b.get sd.other = c.get sd.other) : b = c := by
  obtain ⟨x, y⟩ := b
  obtain ⟨z, w⟩ := c
  cases sd
  · exact congrArg₂ Both.mk h h'
  · exact congrArg₂ Both.mk h' h

/-- The state of a gate as READERS settles it. -/
def settledState (trips : Bool) : GateState := if trips then .tripped else .opened

/-- A gate that READERS awaits is settled (R170): the mode becomes OPEN, or the other is awaited still. -/
theorem readersTest_settles (hst : u.mode.stage = some .readers) (hs : (u.gate sd).state = settledState trips)
    (haw : u.mode.readersAwait.get sd = true) :
    (u.mode.readersAwait.get sd.other = false → ∃ m, OpensUp (u.setMode m) u.readersTest ∧ m = { u.mode with
        readersAwait := Both.same false
        outcome := if trips then { u.mode.outcome with gates := u.mode.outcome.gates.set sd true } else u.mode.outcome }) ∧
      (u.mode.readersAwait.get sd.other = true → ¬ GateSettled u sd.other →
        u.readersTest = u.setMode u.settled ∧ u.settled.readersAwait = u.mode.readersAwait.set sd false) := by
  have hset : (u.gate sd).state.isSettled = true := by rw [hs]; cases trips <;> rfl
  have hself : u.settled.readersAwait.get sd = false := by rw [settled_await, hset]; simp
  have hgself : u.settled.outcome.gates.get sd = (u.mode.outcome.gates.get sd || trips) := by
    rw [settled_gates, hs, haw]
    cases trips <;> simp [settledState]
  rw [readersTest_eq hst]
  refine ⟨fun hno => ?_, fun hmore hopen => ?_⟩
  · have hall : u.settled.readersAwait = Both.same false := (Both.eq_same_false _).2 fun x => by
      rcases Side.eq_or_other sd x with rfl | rfl
      · exact hself
      · rw [settled_await, hno]; rfl
    have hgates : ({ u.mode.outcome with gates := u.settled.outcome.gates } : Outcome) =
        if trips then { u.mode.outcome with gates := u.mode.outcome.gates.set sd true } else u.mode.outcome := by
      have hother := settled_gates u sd.other
      rw [hno, Bool.false_and, Bool.or_false] at hother
      have hg : u.settled.outcome.gates =
          if trips then u.mode.outcome.gates.set sd true else u.mode.outcome.gates := by
        refine Both.eq_of_sides sd (hgself.trans ?_) (hother.trans ?_)
        · cases trips <;> simp
        · cases trips <;> simp
      rw [hg]
      cases trips <;> rfl
    refine ⟨u.settled, ?_, ?_⟩
    · rw [if_pos hall]
      exact enterOpen_opensUp _
    · rw [← hgates, ← hall]
      exact settled_frame u
  · have hother : u.settled.readersAwait.get sd.other = true := by
      rw [settled_await, hmore, Bool.true_and, Bool.not_eq_true', ← Bool.not_eq_true, isSettled_iff]
      exact hopen
    have hno : ¬ u.settled.readersAwait = Both.same false := fun h => by
      rw [(Both.eq_same_false _).1 h] at hother
      cases hother
    refine ⟨if_neg hno, ?_⟩
    exact Both.eq_of_sides sd (hself.trans (Both.get_set_self _ _ _).symm)
      (hother.trans (hmore.symm.trans (Both.get_set_other _ _ _).symm))

end Sys2Proof.Machine
end


/-! ### Opening's stages end -/
section
namespace Sys2Proof.Machine

variable {s t u v : State} {sd : Side} {dt : Nat} {p q : Product} {trips : Bool} {a : Addressing} {f : Frame}

/-- A lamp test that LAMP awaits ends, passed or failed (R101, R168). -/
theorem lampTestEnds {frame echo : List Byte} {purpose : Purpose} {l : LampTest} {failed : Bool}
    (hst : s.mode.stage = some .lamp) (htest : (s.disp sd).state = .testing)
    (ht : (s.disp sd).transfer = some ⟨frame, purpose⟩) (hl : (s.disp sd).lamp = some l) (hz : (s.disp sd).zero = none)
    (hdark : s.display.darkening = false) (hsale : (s.side sd).state.holdsSale = false)
    (hecho : (failed = false ∧ purpose = .t3 ∧ l.step = .t3 ∧ firstDiff allOff echo 0 = none) ∨
      (failed = true ∧ ∃ i, (purpose = .t2 ∧ l.step = .t2 ∧ firstDiff allOn echo 0 = some i) ∨
        (purpose = .t3 ∧ l.step = .t3 ∧ firstDiff allOff echo 0 = some i)))
    (haw : s.mode.lampAwait.get sd = true) :
    ∃ t, exec (.transferEnd dt sd echo) s = .next t ∧ t.now = s.now + dt ∧
      (t.disp sd).state = (if failed then .fault else .lit) ∧ LampEnds s t sd failed := by
  have hnb : purpose ≠ .blank := by
    rcases hecho with ⟨-, h, -⟩ | ⟨-, i, ⟨h, -⟩ | ⟨h, -⟩⟩ <;> rw [h] <;> decide
  have hex := exec_transferEnd (dt := dt) (echo := echo) ht (by rw [htest]; decide)
  rw [latch_of_frame _ hnb] at hex
  generalize hu : (s.elapse dt).setDisp sd { s.disp sd with transfer := none, latched := some frame } = u at hex
  have hud : u.disp sd = { s.disp sd with transfer := none, latched := some frame } := by
    rw [← hu]; exact State.setDisp_disp_self _ _ _
  have hul : u.now = s.now + dt ∧ SameForPrime s u ∧ u.prices = s.prices ∧ u.pins = s.pins ∧
      u.exch.config = s.exch.config ∧ u.sides = s.sides ∧ u.display.darkening = s.display.darkening := by
    rw [← hu]; exact ⟨rfl, ⟨rfl, rfl, rfl⟩, rfl, rfl, rfl, rfl, rfl⟩
  obtain ⟨hnow, hsame, hprices, hpins, hcfg, hsides, hdk⟩ := hul
  have hust : u.mode.stage = some .lamp := by rw [hsame.1]; exact hst
  have huaw : u.mode.lampAwait.get sd = true := by rw [hsame.1]; exact haw
  have hlamp : (u.disp sd).lamp = some l := by rw [hud]; exact hl
  have hjudged : ∀ v : State, LampEnds u v sd failed → v.now = u.now → (v.disp sd).state = (if failed then .fault else .lit) →
      u.judgeTransfer sd purpose (s.disp sd).latched.isSome (judge (purpose.expects (s.disp sd).latched) echo) = v →
      ∃ t, exec (.transferEnd dt sd echo) s = .next t ∧ t.now = s.now + dt ∧
        (t.disp sd).state = (if failed then .fault else .lit) ∧ LampEnds s t sd failed := fun v hends hn hstate hv => by
    rw [hv] at hex
    refine ⟨_, hex, ?_, ?_, ?_⟩
    · have hnt : (v.nextTransfer sd).now = v.now := by simp
      rw [hnt, hn, hnow]
    · rw [(nextTransfer_facts v sd).2.1]; exact hstate
    · exact (hends.of_same hsame hprices hpins hcfg).to_same (.nextTransfer v sd) (by simp)
  rcases hecho with ⟨rfl, rfl, hstep, hmatch⟩ | ⟨rfl, i, hdiff⟩
  · obtain ⟨hends, hn, hstate⟩ := lampPasses_ends (u := u) (sd := sd) l hust huaw
    refine hjudged _ hends hn hstate ?_
    simp [State.judgeTransfer, State.t3Ends, judge, Purpose.expects, hmatch, hlamp, hstep]
  · obtain ⟨hends, hn, hstate, -⟩ := lampFails_ends (u := u) (sd := sd) i hust huaw hlamp (by rw [hud]; exact hz)
      (hdk.trans hdark) (by rw [State.side, hsides]; exact hsale)
    refine hjudged _ hends hn hstate ?_
    rcases hdiff with ⟨hp, hstep, hd⟩ | ⟨hp, hstep, hd⟩
    · exact lampEchoFails hlamp (.inl ⟨hp, hstep, rfl⟩) hd _
    · exact lampEchoFails hlamp (.inr ⟨hp, hstep, rfl⟩) hd _

/-! #### A gate that READERS awaits is settled -/

/-- The state that a settled gate hands to the READERS stage. -/
structure Settles (s u : State) (dt : Nat) (sd : Side) (trips : Bool) : Prop where
  now : u.now = s.now + dt
  gate : (u.gate sd).state = settledState trips
  other : u.gate sd.other = s.gate sd.other
  mode : u.mode = s.mode
  sides : u.sides = s.sides

theorem expirySettles {d : Nat} (hst : (s.gate sd).state = .starting ∨ (s.gate sd).state = .restarting)
    (hd : (s.gate sd).startT = some d) (hle : d ≤ s.now + dt) :
    ∃ u : State, exec (.readerStartTimeout dt sd) s = .next u.readersTest ∧ Settles s u dt sd true := by
  have hex := exec_readerStartTimeout (s := s) (sd := sd) (dt := dt) (due_of_le hd hle)
  rw [startExpires_of_coming (s := s.elapse dt) hst,
    afterGate_of_coming (by rcases hst with h | h <;> rw [h] <;> decide)] at hex
  generalize hv : (s.elapse dt).setGate sd ((s.elapse dt).gate sd).expired = v at hex
  have hvl : Lands dt [.gates] s v := by rw [← hv]; simp [lands_iff]
  have hvo : v.gate sd.other = s.gate sd.other := by rw [← hv]; exact State.setGate_gate_other _ _ _
  generalize (if ((s.elapse dt).gate sd).card.status = some ModStatus.shut then TripReason.notAdmitted
    else .noHello) = r at hex
  have hl := gateTrip_lands v sd r
  exact ⟨_, hex, {
    now := hl.1.trans hvl.1
    gate := (gateTrip_trips v sd r).1
    other := (v.gateTrip_gate sd r).2.trans hvo
    mode := (hl.2 .mode (by decide) : _).trans (hvl.2 .mode (by decide))
    sides := (hl.2 .sides (by decide) : _).trans (hvl.2 .sides (by decide)) }⟩

theorem helloSettles (hst : (s.gate sd).state = .starting ∨ (s.gate sd).state = .restarting)
    (hp : (s.gate sd).power = true) (ha : (s.gate sd).addressing = some a) (hcard : a.mod = .card)
    (hdown : a.isDownlink = false) (hr : (s.gate sd).receiver ≠ .resync) (hg : frameGood f = true)
    (hcls : f.control.cls = .hello)
    (hadm : ¬ (s.exch.config.admissionMode.get sd = .check ∧ scopeOf (s.gate sd).admission.keys (helloTag f.payload) = .other)) :
    ∃ u : State, exec (.answerFrame dt sd f) s = .next u.readersTest ∧ Settles s u dt sd false := by
  have hex := exec_answerFrame (dt := dt) hp ha hr hg
  rw [goodAnswer_of_poll (u := s.elapse dt) hdown, takeByClass_of_hello hcls,
    afterGate_of_coming (by rcases hst with h | h <;> rw [h] <;> decide)] at hex
  generalize hsc : scopeOf (s.gate sd).admission.keys (helloTag f.payload) = sc at hadm
  generalize ho : helloOutcome (s.exch.config.admissionMode.get sd) sc = o
  have hno : o ≠ .shut := by
    rw [← ho, helloOutcome_eq, if_neg hadm]
    split <;> decide
  rw [takeHello_replied (u := s.elapse dt) hsc ho, hcard] at hex
  obtain ⟨hgself, hgother⟩ := greeted_gate (s.elapse dt) sd .card f sc o
  have hgl : Lands dt [.gates, .exch] s ((s.elapse dt).greeted sd .card f sc o) := by simp [lands_iff, State.greeted]
  generalize (s.elapse dt).greeted sd .card f sc o = w at *
  have hwst : (w.gate sd).state = (s.gate sd).state := by
    rw [hgself]; exact (GateCtl.setMod_frame _ _ _).1
  rw [afterHello_of_coming (by rw [hwst]; exact hst) hno] at hex
  have hwelcome : (w.gate sd).welcomed.state = (w.gate sd).state := by
    unfold GateCtl.welcomed
    split <;> rfl
  obtain ⟨hself, hother, -, hl⟩ := gateOpen_opens (u := w.setGate sd (w.gate sd).welcomed) (sd := sd)
    (by rw [State.setGate_gate_self, hwelcome, hwst]; rcases hst with h | h <;> rw [h] <;> decide)
  have hsl := State.setGate_lands w sd (w.gate sd).welcomed
  have hso : (w.setGate sd (w.gate sd).welcomed).gate sd.other = w.gate sd.other := State.setGate_gate_other _ _ _
  generalize w.setGate sd (w.gate sd).welcomed = x at *
  have hends := endExchange_ends (x.gateOpen sd) sd .card
  have hall : Lands dt [.gates, .display, .exch] s ((x.gateOpen sd).endExchange sd .card) :=
    (((hgl.mono (by decide)).trans (hsl.mono (by decide))).trans hl).trans (hends.lands.mono (by decide))
  exact ⟨_, hex, {
    now := hall.1
    gate := by rw [hends.state, hself]; rfl
    other := hends.other.trans (hother.trans (hso.trans hgother))
    mode := hall.2 .mode (by decide)
    sides := hall.2 .sides (by decide) }⟩

end Sys2Proof.Machine

open Sys2Proof Sys2Proof.Machine

/-- Settles O56: LAMP's last test, PRIME's last product, and READERS' last gate. -/
theorem openingReachesOpen : Obligations.OpeningReachesOpen := by
  unfold Obligations.OpeningReachesOpen
  refine ⟨fun dt sd s frame purpose echo l failed hst htest ht hl hz hgo hdark hsale hecho haw => ?_,
    fun dt p s hst => ⟨fun hs husers => ?_, fun c hc hreg hf hsides hall => ?_⟩,
    fun dt sd s c hst haw hcoming => ?_⟩
  · obtain ⟨t, hex, hnow, hstate, hends⟩ := lampTestEnds (dt := dt) hst htest ht hl hz hdark hsale hecho haw
    refine ⟨t, hex, hnow, hstate, hends.displays, hends.more, fun hlast => ?_⟩
    exact ⟨(hends.last hlast).waits, (hends.last hlast).follows⟩
  · obtain ⟨b, hex, hnow, hcfg, hgates, hmode, hself, hkeep, hdry⟩ := pressureSettles (dt := dt) hst hs husers
    obtain ⟨hon, hout⟩ := primeTest_onward b
    have hbst : b.mode.stage = some .prime := (congrArg ModeCtl.stage hmode : _).trans hst
    refine ⟨_, hex, hon.now.trans hnow, ?_, fun hall => ?_, fun q hq hw hp => ?_⟩
    · rw [hout]
      exact (congrArg (fun m : ModeCtl => m.outcome.products) hmode : _)
    · refine primeTest_follows b hbst (fun q => ?_) hgates hcfg (congrArg ModeCtl.mode hmode : _)
      by_cases hq : q = p
      · rw [hq]; exact hself
      · exact hkeep q hq (hall q hq)
    · have hwait : b.mode.primeWait.get q = true := (hdry q hq hp).trans hw
      rw [primeTest_of_awaited hwait]
      exact ⟨hbst, hself, hwait⟩
  · obtain ⟨b, hex, hnow, hcfg, hgates, hmode, hself, hkeep, hbf, hfail⟩ := failureSettles hc hst hreg hf hsides
    have hbst : b.mode.stage = some .prime := (congrArg ModeCtl.stage hmode : _).trans hst
    have hw : ∀ q, b.mode.primeWait.get q = false := fun q => by
      by_cases hq : q = p
      · rw [hq]; exact hself
      · exact hkeep q hq (hall q hq)
    have hends := primeTest_ends hbst ((PerProduct.eq_same_false _).2 hw)
    refine ⟨_, hex, hends.onward.now.trans hnow, hends.failed p hbf hfail, ?_,
      primeTest_follows b hbst hw hgates hcfg (congrArg ModeCtl.mode hmode : _)⟩
    rw [hends.outcome]
    exact (congrArg (fun m : ModeCtl => m.outcome.products) hmode : _)
  · dsimp only
    intro trips hcase
    have hsettles : ∃ u : State, exec c s = .next u.readersTest ∧ Settles s u dt sd trips := by
      rcases hcase with ⟨rfl, a, f, rfl, hp, ha, hcard, hdown, hr, hg, hcls, hadm⟩ | ⟨rfl, rfl, d, hd, hle⟩
      · exact helloSettles hcoming hp ha hcard hdown hr hg hcls hadm
      · exact expirySettles hcoming hd hle
    obtain ⟨u, hex, hnow, hgate, hother, hmode, hsides⟩ := hsettles
    have hgates : u.readersTest.gates = u.gates := by simp
    have htnow : u.readersTest.now = u.now := by simp
    obtain ⟨hlast, hmore⟩ := readersTest_settles (u := u) (sd := sd) (trips := trips) (by rw [hmode]; exact hst) hgate
      (by rw [hmode]; exact haw)
    rw [hmode] at hlast hmore
    refine ⟨_, hex, htnow.trans hnow, ?_, ?_, fun hno => ?_, fun hyes hopen => ?_⟩
    · rw [State.gate, hgates]; exact hgate
    · rw [State.gate, hgates]; exact hother
    · obtain ⟨m, hopens, hm⟩ := hlast hno
      have hevent := hopens.event
      have hout : u.readersTest.mode.outcome = m.outcome := by rw [hopens.mode]; rfl
      refine ⟨by rw [hopens.mode], by rw [hopens.mode], ?_, ?_, fun x => ?_⟩
      · rw [hout, hm]
      · rw [hout]
        rw [State.setMode_mode, hm] at hevent
        rw [hm]
        exact hevent
      · rw [hopens.sides]
        have hx : (u.setMode m).side x = s.side x := congrArg (Both.get · x) hsides
        rw [hx]
        rfl
    · obtain ⟨he, hawait⟩ := hmore hyes fun h => hopen (by rw [GateSettled, hother] at h; exact h)
      rw [he]
      refine ⟨?_, ?_, hawait⟩
      · rw [State.setMode_mode, settled_frame, hmode]
      · rw [State.setMode_mode, settled_frame, hmode]
        exact hst
end


/-! ### A side captures -/
section
namespace Sys2Proof.Machine

variable {s t u v : State} {sd : Side} {dt : Nat} {p q : Product} {o : Sale} {n : Fin 4} {g : Fin 6} {mask : BitVec 6}
  {c : Composition}

/-! #### Readiness -/

theorem readiness_of_ready (hn : (u.side sd).nozzles = onlyUp n) (h : ReadyFor u sd mask n g) :
    u.readiness sd mask = .ready n g := by
  obtain ⟨hmap, hmask, hok⟩ := h
  have hmeters := (metersOk_iff u sd (u.prices.grades.get g).comp).2 fun q hq => (hok q hq).1
  have hproducts := (productsOk_iff u (u.prices.grades.get g).comp).2 fun q hq => (hok q hq).2
  simp [State.readiness, (onlyLifted_of_onlyUp hn).1, hmap, hmask, hmeters, hproducts]

theorem readiness_of_not (hn : (u.side sd).nozzles = onlyUp n) (h : ∀ g, ¬ ReadyFor u sd mask n g) :
    ∃ b, u.readiness sd mask = .notReady b := by
  unfold State.readiness
  rw [(onlyLifted_of_onlyUp hn).1]
  dsimp only
  split
  case h_1 => exact ⟨_, rfl⟩
  case h_2 g hmap =>
    split
    case isFalse => exact ⟨_, rfl⟩
    case isTrue hok =>
      obtain ⟨hmask, hmeters⟩ := (Bool.and_eq_true _ _).mp hok
      split
      case isFalse => exact ⟨_, rfl⟩
      case isTrue hproducts =>
        exact absurd ⟨hmap, hmask, fun p hp => ⟨(metersOk_iff u sd _).1 hmeters p hp, (productsOk_iff u _).1 hproducts p hp⟩⟩ (h g)

/-- The readiness test of a side whose one nozzle names a grade it may capture (R33, R50). -/
theorem testReadiness_of_ready (hst : (u.side sd).state = .authorized) (ho : (u.side sd).sale = some o)
    (hn : (u.side sd).nozzles = onlyUp n) (h : ReadyFor u sd o.mask n g) : u.testReadiness sd =
      if u.prices.swapDue then u.showTest sd true false false
      else if u.prices.active.get g = 0 then u.showTest sd false true false else u.capture1 sd o n g := by
  unfold State.testReadiness
  dsimp only
  rw [if_pos hst, ho]
  dsimp only
  rw [readiness_of_ready hn h]

theorem testReadiness_of_not_ready {b : Bool} (hst : (u.side sd).state = .authorized) (ho : (u.side sd).sale = some o)
    (hn : (u.side sd).nozzles = onlyUp n) (h : u.readiness sd o.mask = .notReady b) :
    u.testReadiness sd = u.showTest sd false true b := by
  unfold State.testReadiness
  dsimp only
  rw [if_pos hst, ho]
  dsimp only
  rw [h, (onlyLifted_of_onlyUp hn).2]

/-! #### The registrations -/

theorem confirmed_ne_failed (u : State) (m : Motor) : (u.confirmed m).state ≠ .failed := by
  unfold State.confirmed State.ranDown
  repeat' split
  all_goals simp

theorem arbiterTest_ne_failed (h : (u.motor q).state ≠ .failed) : (u.arbiterTest.motor q).state ≠ .failed := by
  rcases arbiterTest_cases u with he | ⟨p, rest, -, he⟩
  · rw [he]; exact h
  · have hg : ((u.granted p rest).motor q).state ≠ .failed := by
      rw [State.motor, granted_motors]
      by_cases hq : q = p
      · subst hq; simp
      · rw [PerProduct.get_set_ne _ _ hq]; exact h
    rw [he, grant_eq]
    split
    · rw [State.motor, confirmStart_motors]
      by_cases hq : q = p
      · subst hq
        rw [PerProduct.get_set_self]
        exact confirmed_ne_failed _ _
      · rw [PerProduct.get_set_ne _ _ hq]; exact hg
    · exact hg

theorem setMotor_ne_failed {m : Motor} (h : (u.motor q).state ≠ .failed) (hm : q = p → m.state ≠ .failed) :
    ((u.setMotor p m).motor q).state ≠ .failed := by
  by_cases hq : q = p
  · subst hq
    rw [State.setMotor_motor_self]
    exact hm rfl
  · rw [setMotor_motor_ne _ _ hq]; exact h

/-- A registration fails no motor (R77 to R83). -/
theorem register_ne_failed (w : User) (h : (u.motor q).state ≠ .failed) : ((u.register w p).motor q).state ≠ .failed := by
  have hkeep : ((u.setMotor p { u.motor p with users := (u.motor p).users.add w }).motor q).state ≠ .failed :=
    setMotor_ne_failed h fun e => by subst e; exact h
  have hreport : ∀ v : State, ((v.reportRunning w p).motor q) = v.motor q := fun v => by
    unfold State.reportRunning
    dsimp only
    repeat' split
    all_goals rfl
  have hpost : ∀ v : State, v.postStatus.motor q = v.motor q := fun v => by simp [State.motor]
  have hjoin : ∀ v : State, (v.motor q).state ≠ .failed → ((v.joinFifo p).motor q).state ≠ .failed := fun v hv => by
    have hset : ((v.setMotor p { v.motor p with state := .waiting }).motor q).state ≠ .failed :=
      setMotor_ne_failed hv fun _ => nofun
    unfold State.joinFifo
    dsimp only
    refine arbiterTest_ne_failed ?_
    rw [hpost]
    split <;> exact hset
  unfold State.register
  dsimp only
  split
  · exact hjoin _ hkeep
  · rw [hpost, hreport]
    exact setMotor_ne_failed h fun _ => nofun
  · rw [hreport]; exact hkeep
  all_goals exact hkeep

/-- A side registers with one product if its grade needs it (R51, R77). -/
def State.registerOne (u : State) (sd : Side) (c : Composition) (p : Product) : State :=
  if c.uses p then u.register (.side sd) p else u

theorem registerSide_eq (u : State) (sd : Side) (c : Composition) : u.registerSide sd c =
    ((u.registerOne sd c .low).registerOne sd c .high).registerOne sd c .aux := rfl

theorem registerOne_has (u : State) (sd : Side) (c : Composition) (p q : Product) :
    ((u.registerOne sd c p).motor q).users.has (.side sd) =
      ((u.motor q).users.has (.side sd) || (c.uses p && decide (q = p))) := by
  have hadd : ∀ us : Users, (us.add (.side sd)).has (.side sd) = true := fun us => by cases sd <;> rfl
  unfold State.registerOne
  split
  case isFalse h => simp [h]
  case isTrue h =>
    rw [register_users]
    by_cases hq : q = p
    · subst hq; simp [hadd, h]
    · simp [hq]

/-- A side that has registered is a user of every product its grade needs (R77). -/
theorem registerSide_has (u : State) (h : c.uses q = true) : ((u.registerSide sd c).motor q).users.has (.side sd) = true := by
  rw [registerSide_eq, registerOne_has, registerOne_has, registerOne_has]
  cases q <;> simp [h]

theorem registerSide_ne_failed (h : (u.motor q).state ≠ .failed) : ((u.registerSide sd c).motor q).state ≠ .failed := by
  have hone : ∀ (v : State) p, (v.motor q).state ≠ .failed → ((v.registerOne sd c p).motor q).state ≠ .failed :=
    fun v p hv => by
      unfold State.registerOne
      split
      · exact register_ne_failed _ hv
      · exact hv
  rw [registerSide_eq]
  exact hone _ _ (hone _ _ (hone _ _ h))

/-! #### The meters and the zero check -/

/-- The meters of the grade are attached and no other (R10). -/
theorem attachMeters_chan (u : State) (sd : Side) (c : Composition) (k : Nat) (p : Product) :
    (u.attachMeters sd c k).chan ⟨sd, p⟩ = if c.uses p then (u.chan ⟨sd, p⟩).attach k else u.chan ⟨sd, p⟩ := by
  have hone : ∀ (v : State) q, (if c.uses q then v.setChan ⟨sd, q⟩ ((v.chan ⟨sd, q⟩).attach k) else v).chan ⟨sd, p⟩ =
      if p = q ∧ c.uses q = true then (v.chan ⟨sd, p⟩).attach k else v.chan ⟨sd, p⟩ := fun v q => by
    split
    case isTrue h =>
      by_cases hq : p = q
      · subst hq; simp [h]
      · rw [State.setChan_chan_ne _ _ fun he => hq (Meter.mk.inj he).2, if_neg fun hc => hq hc.1]
    case isFalse h => rw [if_neg fun hc => h hc.2]
  have hstray : ∀ v : State, (v.newStrayPeriod sd).chan ⟨sd, p⟩ = v.chan ⟨sd, p⟩ := fun v => rfl
  unfold State.attachMeters
  dsimp only
  rw [hstray, hone, hone, hone]
  cases p <;> simp

/-- The transfer that waits keeps a zero check's sale (R100). -/
theorem nextTransfer_zero {z : ZeroCheck} (hz : (u.disp sd).zero = some z) :
    ∃ z', ((u.nextTransfer sd).disp sd).zero = some z' ∧ z'.sale = z.sale := by
  unfold State.nextTransfer
  dsimp only
  split
  · exact ⟨z, hz, rfl⟩
  · split
    · exact ⟨z, by simp [State.startTransfer, hz], rfl⟩
    · split
      · split
        · exact ⟨z, by simp [State.startTransfer, DispSide.lampAt, hz], rfl⟩
        · exact ⟨z, by simp [State.startTransfer, DispSide.lampAt, hz], rfl⟩
        · exact ⟨z, hz, rfl⟩
      · split
        · split
          · exact ⟨{ z with step := .z1 }, by simp [State.startTransfer, DispSide.zeroAt, hz], rfl⟩
          · exact ⟨z, hz, rfl⟩
        · exact ⟨z, hz, rfl⟩

theorem requestZero_zero (u : State) (sd : Side) (k : Nat) :
    ∃ z, ((u.requestZero sd k).disp sd).zero = some z ∧ z.sale = k := by
  obtain ⟨z, hz, hsale⟩ := nextTransfer_zero (u := u.setDisp sd { u.disp sd with zero := some ⟨.wait, k⟩ }) (sd := sd)
    (z := ⟨.wait, k⟩) (by rw [State.setDisp_disp_self])
  exact ⟨z, hz, hsale⟩

/-- A capture with its display and its motors sound asks for the zero check and waits in STARTING (R51, R52). -/
theorem afterCapture_of_sound {k : Nat} (hd : (u.disp sd).state ≠ .fault) (hp : ∀ q, c.uses q = true → (u.motor q).state ≠ .failed)
    (hz : (u.side sd).needZero = true) (hother : (u.side sd.other).state ≠ .starting) :
    u.afterCapture sd c k = u.requestZero sd k := by
  have hsides : ∀ x, (u.requestZero sd k).side x = u.side x := fun x => by simp [State.side]
  unfold State.afterCapture
  rw [if_neg hd, if_pos ((productsOk_iff u c).2 hp)]
  refine bothStarting_of_not fun x => ?_
  rcases Side.eq_or_other sd x with rfl | rfl
  · rw [hsides]
    simp [SideCtl.startReady, hz]
  · rw [hsides]
    exact startReady_of_state hother

/-! #### The capture -/

/-- The side as its capture leaves it, before its motors report (R34, R40, R51). -/
def State.capturedSide (u : State) (sd : Side) (o : Sale) (n : Fin 4) (g : Fin 6) : SideCtl :=
  let c := u.capturedItems o n g
  let comp := (u.prices.grades.get g).comp
  { u.side sd with
    state := .starting
    sale := some { o with
      record := { o.record with
        nozzle := some n, grade := some g, target := some c.target, price := some c.price, rounding := u.cfg.rounding }
      cap := some c }
    needZero := true
    needMotors := ⟨comp.uses .low, comp.uses .high, comp.uses .aux⟩
    waiting := false
    nozzleLamp := false
    noPumpTest := false
    noPumpEnd := false
    throttle := .none
    devRun := none
    authT := none
    last := ⟨c.price, 0, 0, o.record.number⟩ }

theorem capture1_eq (u : State) (sd : Side) (o : Sale) (n : Fin 4) (g : Fin 6) : u.capture1 sd o n g =
    ((((u.attachMeters sd (u.prices.grades.get g).comp o.record.number).putSide sd (u.capturedSide sd o n g)
      ).registerSide sd (u.prices.grades.get g).comp).afterCapture sd (u.prices.grades.get g).comp o.record.number) := rfl

theorem capture1_captures (hready : ReadyFor u sd o.mask n g) (hd : (u.disp sd).state ≠ .fault)
    (hstage : u.mode.stage ≠ some .prime) (hother : (u.side sd.other).state ≠ .starting) :
    Lands 0 [.pfe, .sides, .motors, .display, .journal, .exch] u (u.capture1 sd o n g) ∧
      Captures u (u.capture1 sd o n g) sd o.record o.mask n g := by
  rw [capture1_eq]
  have hchan := attachMeters_chan u sd (u.prices.grades.get g).comp o.record.number
  generalize ha : u.attachMeters sd (u.prices.grades.get g).comp o.record.number = a at *
  have has : a.sides = u.sides := by simp [← ha]
  have had : a.display = u.display := by simp [← ha]
  have ham : a.motors = u.motors := by simp [← ha]
  have hal : Lands 0 [.pfe] u a := by rw [← ha]; simp [lands_iff]
  generalize hv : a.putSide sd (u.capturedSide sd o n g) = v
  have hvself : v.side sd = u.capturedSide sd o n g := by rw [← hv, State.putSide_side_self]; rfl
  have hvother : v.side sd.other = u.side sd.other := by
    rw [← hv, State.putSide_side_other, State.side, has]; rfl
  have hvdisp : (v.disp sd).state = (u.disp sd).state := by
    rw [← hv, State.picture_state (State.putSide_picture _ _ _), State.disp, had]; rfl
  have hvm : ∀ q, v.motor q = u.motor q := fun q => by
    rw [← hv, State.motor, (State.putSide_frame _ _ _).2.2.2.1, ham]; rfl
  have hvp : v.pfe = a.pfe := by simp [← hv]
  have hvl : Lands 0 [.sides, .display, .journal, .exch] a v := by rw [← hv]; simp [lands_iff]
  have htells := MotorsTell.registerSide v sd (u.prices.grades.get g).comp
  have hhas := fun q h => registerSide_has (c := (u.prices.grades.get g).comp) (q := q) (sd := sd) v h
  have hsound : ∀ q, (u.prices.grades.get g).comp.uses q = true →
      ((v.registerSide sd (u.prices.grades.get g).comp).motor q).state ≠ .failed := fun q hq =>
    registerSide_ne_failed (by rw [hvm]; exact (hready.2.2 q hq).2)
  have hmode : (v.registerSide sd (u.prices.grades.get g).comp).mode = v.mode := htells.mode (by
    rw [show v.mode = u.mode from (hvl.2 .mode (by decide)).trans (hal.2 .mode (by decide))]; exact hstage)
  have hwl : Lands 0 [.sides, .motors, .exch] v (v.registerSide sd (u.prices.grades.get g).comp) := by
    simp [lands_iff, hmode]
  have hwd : (v.registerSide sd (u.prices.grades.get g).comp).display = v.display := by simp
  have hwp : (v.registerSide sd (u.prices.grades.get g).comp).pfe = v.pfe := by simp
  obtain ⟨m, hself⟩ := (htells.hears sd).1
  have hwother := (htells.hears sd.other).2 (by rw [hvother]; exact hother)
  generalize v.registerSide sd (u.prices.grades.get g).comp = w at *
  rw [hvself] at hself
  rw [hvother] at hwother
  rw [afterCapture_of_sound (by rw [State.disp, hwd]; exact fun h => hd (hvdisp.symm.trans h)) hsound
    (by rw [hself]; rfl) (by rw [hwother]; exact hother)]
  have hzero := requestZero_zero w sd o.record.number
  have hzl : Lands 0 [.display] w (w.requestZero sd o.record.number) := by simp [lands_iff]
  have hzs : (w.requestZero sd o.record.number).sides = w.sides := by simp
  have hzm : (w.requestZero sd o.record.number).motors = w.motors := by simp
  have hzp : (w.requestZero sd o.record.number).pfe = w.pfe := by simp
  generalize w.requestZero sd o.record.number = z at *
  have hzside : z.side sd = { u.capturedSide sd o n g with needMotors := m } := by
    rw [State.side, hzs]; exact hself
  have hzchan : ∀ p, z.chan ⟨sd, p⟩ = a.chan ⟨sd, p⟩ := fun p => by rw [State.chan, hzp, hwp, hvp]; rfl
  refine ⟨((hal.mono (by decide)).trans (hvl.mono (by decide))).trans ((hwl.mono (by decide)).trans (hzl.mono (by decide))),
    by rw [hzside]; rfl, by rw [hzside]; rfl, by rw [hzside]; rfl, by rw [hzside]; rfl, by rw [hzside]; rfl,
    by rw [hzside]; rfl, fun p hp => ⟨?_, ?_⟩, fun p hp => ?_, hzero, ?_⟩
  · rw [hzchan, hchan, hp]
    rfl
  · rw [State.motor, hzm]
    exact hhas p hp
  · rw [hzchan, hchan, hp]
    rfl
  · rw [State.side, hzs]
    exact hwother

end Sys2Proof.Machine
end


/-! ### Lifts and AUTHORIZE that capture -/
section
namespace Sys2Proof.Machine

variable {s t u v : State} {sd : Side} {dt : Nat} {o : Sale} {n : Fin 4} {g : Fin 6} {mask : BitVec 6} {r : SaleRecord}

theorem ReadyFor.of_same (h : ReadyFor s sd mask n g) (hprices : u.prices = s.prices) (hpfe : u.pfe = s.pfe)
    (hmotors : u.motors = s.motors) : ReadyFor u sd mask n g := by
  unfold ReadyFor State.chan State.motor at *
  rw [hprices, hpfe, hmotors]
  exact h

/-- What Captures reads of the state before it. -/
theorem Captures.of_same (h : Captures u t sd r mask n g) (hprices : u.prices = s.prices)
    (hcfg : u.exch.config = s.exch.config) (hpfe : u.pfe = s.pfe) (hother : u.side sd.other = s.side sd.other) :
    Captures s t sd r mask n g := by
  unfold Captures State.chan at *
  rw [hprices, hcfg, hpfe, hother] at h
  exact h

/-- What Captures reads of the state after it. -/
theorem Captures.to_same (h : Captures s u sd r mask n g) (hsides : t.sides = u.sides) (hpfe : t.pfe = u.pfe)
    (hmotors : t.motors = u.motors) (hdisplay : t.display = u.display) : Captures s t sd r mask n g := by
  unfold Captures State.side State.chan State.motor State.disp at *
  rw [hsides, hpfe, hmotors, hdisplay]
  exact h

/-! #### A lift in AUTHORIZED -/

/-- The state in which a side in AUTHORIZED tests its readiness after a lift (R45, R49). -/
def State.untimed (s : State) (dt : Nat) (sd : Side) (n : Fin 4) : State :=
  (s.heard dt sd n true).setSide sd { (s.heard dt sd n true).side sd with authT := none }

theorem exec_lift_authorized (hdorm : s.dormant = false) (hst : (s.side sd).state = .authorized) :
    exec (.nozzleLift dt sd n) s = .next ((s.untimed dt sd n).testReadiness sd) := by
  have hlift : (s.heard dt sd n true).lift sd = (s.untimed dt sd n).testReadiness sd := by
    have hx : ((s.heard dt sd n true).side sd).state = .authorized := by simp [hst]
    unfold State.lift
    dsimp only
    split
    case h_1 hidle => exact absurd (hidle.symm.trans hx) nofun
    case h_2 => rfl
    case h_3 hno => exact absurd hx hno
  rw [exec_nozzleLift hdorm, hlift]

theorem untimed_frame (s : State) (dt : Nat) (sd : Side) (n : Fin 4) : Lands dt [.sides, .pins] s (s.untimed dt sd n) ∧
    (s.untimed dt sd n).side sd =
      { s.side sd with nozzles := (s.side sd).nozzles.set n.val true, authT := none } ∧
    (s.untimed dt sd n).side sd.other = s.side sd.other := by
  refine ⟨by simp [lands_iff, State.untimed], by simp [State.untimed], ?_⟩
  rw [State.untimed, State.setSide_side_other]
  exact (s.heard_side dt sd n true).2

/-- A readiness test that shows its outcome and captures nothing (R50). -/
theorem showTest_facts (u : State) (sd : Side) (w l b : Bool) : Lands 0 [.sides, .display, .exch] u (u.showTest sd w l b) := by
  simp [lands_iff]

/-! #### AUTHORIZE with a nozzle lifted -/

/-- The state in which a new sale tests its readiness (R48). -/
def State.opening (u : State) (sd : Side) (q : SaleRecord) (mask : BitVec 6) : State :=
  u.advanceNumber.putSide sd { u.side sd with state := .authorized, sale := some ⟨q, mask, none⟩, authT := none }

theorem openSale_of_lifted {q : SaleRecord} (h : (u.side sd).anyLifted = true) :
    u.openSale sd q mask = (u.opening sd q mask).testReadiness sd := by
  unfold State.openSale State.opening
  simp only [State.advanceNumber_side, h, if_true]

theorem opening_frame (u : State) (sd : Side) (q : SaleRecord) (mask : BitVec 6) :
    Lands 0 [.sides, .display, .store, .journal, .exch] u (u.opening sd q mask) ∧
      (u.opening sd q mask).store = { u.store with counter := succ32 u.store.counter } ∧
      (u.opening sd q mask).exch.owned = u.exch.owned ∧ (u.opening sd q mask).exch.config = u.exch.config ∧
      (u.opening sd q mask).display.picture = u.display.picture ∧
      (u.opening sd q mask).side sd.other = u.side sd.other ∧
      ((u.opening sd q mask).side sd).state = .authorized ∧ ((u.opening sd q mask).side sd).sale = some ⟨q, mask, none⟩ ∧
      ((u.opening sd q mask).side sd).nozzles = (u.side sd).nozzles := by
  unfold State.opening
  refine ⟨by simp [lands_iff], by simp [State.advanceNumber], by simp, by simp, by simp [State.advanceNumber], by simp,
    by simp, by simp, by simp⟩

end Sys2Proof.Machine

open Sys2Proof Sys2Proof.Machine

/-- Settles O20: the lift by the side's readiness and the prices, and the AUTHORIZE that captures at once. -/
theorem sidesCapture : Obligations.SidesCapture := by
  unfold Obligations.SidesCapture
  intro dt sd n g s hd hstage hother
  refine ⟨fun o hdorm hst ho hcap hup => ?_, fun ref r o k hs hcheck ho hk hup hready hdue hprice => ?_⟩
  · have hex := exec_lift_authorized (dt := dt) (n := n) hdorm hst
    obtain ⟨hul, huside, huother⟩ := untimed_frame s dt sd n
    generalize s.untimed dt sd n = u at *
    rw [hup] at huside
    have hup' : u.prices = s.prices := hul.2 .prices (by decide)
    have hupfe : u.pfe = s.pfe := hul.2 .pfe (by decide)
    have humo : u.motors = s.motors := hul.2 .motors (by decide)
    have hum : u.mode = s.mode := hul.2 .mode (by decide)
    have hudisp : u.display = s.display := hul.2 .display (by decide)
    have hue : u.exch = s.exch := hul.2 .exch (by decide)
    have hust : (u.side sd).state = .authorized := by rw [huside]; exact hst
    have huo : (u.side sd).sale = some o := by rw [huside]; exact ho
    have hun : (u.side sd).nozzles = onlyUp n := by rw [huside]
    have htest := fun h : ReadyFor s sd o.mask n g =>
      testReadiness_of_ready hust huo hun (h.of_same hup' hupfe humo)
    rw [hup'] at htest
    have hshown : ∀ w l b, u.testReadiness sd = u.showTest sd w l b →
        ∃ t, exec (.nozzleLift dt sd n) s = .next t ∧ Lands dt [.sides, .display, .exch, .pins] s t ∧
          t.side sd.other = s.side sd.other ∧ t.side sd = { s.side sd with
            nozzles := onlyUp n, authT := none, waiting := w, nozzleLamp := l, noPumpTest := b } := fun w l b h => by
      obtain ⟨hself, hsame⟩ := State.showTest_side u sd w l b
      rw [h] at hex
      refine ⟨_, hex, (hul.mono (by decide)).trans ((showTest_facts u sd w l b).mono (by decide)), hsame.trans huother, ?_⟩
      rw [hself, huside]
    refine ⟨fun hready hdue hprice => ?_, fun hready hdue => ?_, fun hready hdue hprice => ?_, fun hno => ?_⟩
    · obtain ⟨hl, hcaptures⟩ := capture1_captures (hready.of_same hup' hupfe humo) (by rw [State.disp, hudisp]; exact hd)
        (by rw [hum]; exact hstage) (by rw [huother]; exact hother)
      rw [htest hready, hdue, if_neg Bool.false_ne_true, if_neg hprice] at hex
      exact ⟨_, hex, (hul.mono (by decide)).trans (hl.mono (by decide)),
        hcaptures.of_same hup' (by rw [hue]) hupfe huother⟩
    · exact hshown true false false (by rw [htest hready, hdue, if_pos rfl])
    · exact hshown false true false (by rw [htest hready, hdue, if_neg Bool.false_ne_true, if_pos hprice])
    · obtain ⟨b, hb⟩ := readiness_of_not (u := u) (mask := o.mask) hun
        fun g h => hno g (h.of_same hup'.symm hupfe.symm humo.symm)
      obtain ⟨t, h⟩ := hshown false true b (testReadiness_of_not_ready hust huo hun hb)
      exact ⟨t, b, h⟩
  · have haccept := serveAuthorize_of_accepted ((authRefusal_taken s dt sd ref r.bytes r).trans hcheck) ho hk
    have hans := fun (w : State) hw d => answered_answerOrder (u := w) (sd := sd) (dt := dt) (bytes := r.bytes) (ref := ref)
      (before := (s.taken dt (Folio.order sd) ref r.bytes).side sd) hs hw .done d
    have hex := exec_authorize (dt := dt) (ref := ref) (r := r) hs
    rw [haccept, taken_ref hs, newRecord_taken] at hex
    have hvl : Lands dt [.exch] s (s.taken dt (Folio.order sd) ref r.bytes) := by simp [lands_iff]
    have hvc : (s.taken dt (Folio.order sd) ref r.bytes).exch.config = s.exch.config := by simp
    generalize s.taken dt (Folio.order sd) ref r.bytes = v at *
    have hvs : ∀ x, v.side x = s.side x := fun x => congrArg (Both.get · x) (hvl.2 .sides (by decide) : _)
    have hlift : (v.side sd).anyLifted = true := by rw [hvs]; exact (onlyLifted_of_onlyUp hup).2
    rw [openSale_of_lifted hlift] at hex
    obtain ⟨hul, hustore, huowned, hucfg, hupic, huother, hust, husale, hun⟩ :=
      opening_frame v sd (s.newRecord sd ref o k r.limit.amount) (maskOf r.mask)
    generalize v.opening sd (s.newRecord sd ref o k r.limit.amount) (maskOf r.mask) = u at *
    have hsu := (hvl.mono (cs := [.sides, .display, .store, .journal, .exch]) (by decide)).trans hul
    have hup' : u.prices = s.prices := hsu.2 .prices (by decide)
    have hupfe : u.pfe = s.pfe := hsu.2 .pfe (by decide)
    have humo : u.motors = s.motors := hsu.2 .motors (by decide)
    have hum : u.mode = s.mode := hsu.2 .mode (by decide)
    have hdisp : (u.disp sd).state ≠ .fault := by
      have hvd : v.display = s.display := hvl.2 .display (by decide)
      rw [State.picture_state hupic, State.disp, hvd]
      exact hd
    have huother' : u.side sd.other = s.side sd.other := huother.trans (hvs _)
    have hready' := hready.of_same hup' hupfe humo
    obtain ⟨hl, hcaptures⟩ := capture1_captures (u := u) (o := ⟨s.newRecord sd ref o k r.limit.amount, maskOf r.mask, none⟩)
      hready' hdisp (by rw [hum]; exact hstage) (by rw [huother']; exact hother)
    have htest := testReadiness_of_ready (o := ⟨s.newRecord sd ref o k r.limit.amount, maskOf r.mask, none⟩) hust husale
      (hun.trans (by rw [hvs]; exact hup)) hready'
    rw [hup', hdue, if_neg Bool.false_ne_true, if_neg hprice] at htest
    have howned : (u.testReadiness sd).exch.owned = u.exch.owned := by simp
    rw [htest] at hex howned
    generalize u.capture1 sd ⟨s.newRecord sd ref o k r.limit.amount, maskOf r.mask, none⟩ n g = w at *
    have hstore : w.store = u.store := hl.2 .store (by decide)
    refine ⟨_, s.newRecord sd ref o k r.limit.amount, hex, ?_, rfl, rfl, rfl, rfl, rfl, rfl, rfl, rfl, rfl, rfl, ?_, ?_,
      hans w (howned.trans huowned) _⟩
    · have hsw := (hsu.mono (cs := [.pfe, .sides, .motors, .display, .store, .journal, .exch]) (by decide)).trans
        (hl.mono (by decide))
      rw [lands_iff] at hsw ⊢
      simpa using hsw
    · refine (hcaptures.of_same hup' (hucfg.trans hvc) hupfe huother').to_same ?_ ?_ ?_ ?_ <;> simp
    · have hto : ∀ b d, (w.answerOrder sd b .done d).store = w.store := fun b d => by simp
      have hvst : v.store = s.store := hvl.2 .store (by decide)
      rw [hto, hstore, hustore, hvst]
end
